-- ==== Sys2Proof/Word.lean ====
section
/-! DEFINITION. The word types of the 604: 32-bit words, bytes and 64-bit doublewords (00_scope.md R7, R9). -/

namespace Sys2Proof

/-- A general-purpose register, an address or an instruction (R21, R84, R120). -/
abbrev Word := BitVec 32

/-- The smallest addressable unit of memory (R80). -/
abbrev Byte := BitVec 8

/-- A floating-point register or the time base (R23, R40). -/
abbrev Dword := BitVec 64

end Sys2Proof
end

