-- ==== Sys2Proof/Syntax.lean ====
section
/-! DEFINITION. The instructions of the 604: one constructor per row of spec/opcode_table.json, its operand fields as bit vectors of their widths (30_encoding.md R121 to R142). The option bits OE, Rc, LK, AA are Booleans; `spr` and `tbr` are the assembled numbers of 00_scope.md R11. -/

namespace Sys2Proof

/-- One constructor per row of the opcode table, in the table's order. Fields are named after the spec's (`src` is the field S, `disp` the displacement d, `trapOn` the field TO) and stand in the order of their bits. -/
inductive Instr where
  /-- addi: D form, opcode 14 (R171). -/
  | addi (d a : BitVec 5) (simm : BitVec 16)
  /-- addis: D form, opcode 15 (R172). -/
  | addis (d a : BitVec 5) (simm : BitVec 16)
  /-- addic: D form, opcode 12 (R173). -/
  | addic (d a : BitVec 5) (simm : BitVec 16)
  /-- addic.: D form, opcode 13 (R174). -/
  | addic_rc (d a : BitVec 5) (simm : BitVec 16)
  /-- subfic: D form, opcode 8 (R175). -/
  | subfic (d a : BitVec 5) (simm : BitVec 16)
  /-- mulli: D form, opcode 7 (R176). -/
  | mulli (d a : BitVec 5) (simm : BitVec 16)
  /-- addx: XO form, opcode 31/266 (R177). -/
  | addx (d a b : BitVec 5) (oe rc : Bool)
  /-- addcx: XO form, opcode 31/10 (R178). -/
  | addcx (d a b : BitVec 5) (oe rc : Bool)
  /-- addex: XO form, opcode 31/138 (R179). -/
  | addex (d a b : BitVec 5) (oe rc : Bool)
  /-- addmex: XO form, opcode 31/234 (R180). -/
  | addmex (d a : BitVec 5) (oe rc : Bool)
  /-- addzex: XO form, opcode 31/202 (R181). -/
  | addzex (d a : BitVec 5) (oe rc : Bool)
  /-- subfx: XO form, opcode 31/40 (R182). -/
  | subfx (d a b : BitVec 5) (oe rc : Bool)
  /-- subfcx: XO form, opcode 31/8 (R183). -/
  | subfcx (d a b : BitVec 5) (oe rc : Bool)
  /-- subfex: XO form, opcode 31/136 (R184). -/
  | subfex (d a b : BitVec 5) (oe rc : Bool)
  /-- subfmex: XO form, opcode 31/232 (R185). -/
  | subfmex (d a : BitVec 5) (oe rc : Bool)
  /-- subfzex: XO form, opcode 31/200 (R186). -/
  | subfzex (d a : BitVec 5) (oe rc : Bool)
  /-- negx: XO form, opcode 31/104 (R187). -/
  | negx (d a : BitVec 5) (oe rc : Bool)
  /-- mullwx: XO form, opcode 31/235 (R188). -/
  | mullwx (d a b : BitVec 5) (oe rc : Bool)
  /-- divwx: XO form, opcode 31/491 (R191). -/
  | divwx (d a b : BitVec 5) (oe rc : Bool)
  /-- divwux: XO form, opcode 31/459 (R192). -/
  | divwux (d a b : BitVec 5) (oe rc : Bool)
  /-- mulhwx: XO form, opcode 31/75 (R189). -/
  | mulhwx (d a b : BitVec 5) (rc : Bool)
  /-- mulhwux: XO form, opcode 31/11 (R190). -/
  | mulhwux (d a b : BitVec 5) (rc : Bool)
  /-- cmpi: D form, opcode 11 (R201). -/
  | cmpi (crfD : BitVec 3) (a : BitVec 5) (simm : BitVec 16)
  /-- cmp: X form, opcode 31/0 (R202). -/
  | cmp (crfD : BitVec 3) (a b : BitVec 5)
  /-- cmpli: D form, opcode 10 (R203). -/
  | cmpli (crfD : BitVec 3) (a : BitVec 5) (uimm : BitVec 16)
  /-- cmpl: X form, opcode 31/32 (R204). -/
  | cmpl (crfD : BitVec 3) (a b : BitVec 5)
  /-- andi.: D form, opcode 28 (R205). -/
  | andi_rc (src a : BitVec 5) (uimm : BitVec 16)
  /-- andis.: D form, opcode 29 (R206). -/
  | andis_rc (src a : BitVec 5) (uimm : BitVec 16)
  /-- ori: D form, opcode 24 (R207). -/
  | ori (src a : BitVec 5) (uimm : BitVec 16)
  /-- oris: D form, opcode 25 (R208). -/
  | oris (src a : BitVec 5) (uimm : BitVec 16)
  /-- xori: D form, opcode 26 (R209). -/
  | xori (src a : BitVec 5) (uimm : BitVec 16)
  /-- xoris: D form, opcode 27 (R210). -/
  | xoris (src a : BitVec 5) (uimm : BitVec 16)
  /-- andx: X form, opcode 31/28 (R211). -/
  | andx (src a b : BitVec 5) (rc : Bool)
  /-- andcx: X form, opcode 31/60 (R212). -/
  | andcx (src a b : BitVec 5) (rc : Bool)
  /-- orx: X form, opcode 31/444 (R213). -/
  | orx (src a b : BitVec 5) (rc : Bool)
  /-- orcx: X form, opcode 31/412 (R214). -/
  | orcx (src a b : BitVec 5) (rc : Bool)
  /-- xorx: X form, opcode 31/316 (R215). -/
  | xorx (src a b : BitVec 5) (rc : Bool)
  /-- nandx: X form, opcode 31/476 (R216). -/
  | nandx (src a b : BitVec 5) (rc : Bool)
  /-- norx: X form, opcode 31/124 (R217). -/
  | norx (src a b : BitVec 5) (rc : Bool)
  /-- eqvx: X form, opcode 31/284 (R218). -/
  | eqvx (src a b : BitVec 5) (rc : Bool)
  /-- extsbx: X form, opcode 31/954 (R219). -/
  | extsbx (src a : BitVec 5) (rc : Bool)
  /-- extshx: X form, opcode 31/922 (R220). -/
  | extshx (src a : BitVec 5) (rc : Bool)
  /-- cntlzwx: X form, opcode 31/26 (R221). -/
  | cntlzwx (src a : BitVec 5) (rc : Bool)
  /-- rlwinmx: M form, opcode 21 (R231). -/
  | rlwinmx (src a sh mb me : BitVec 5) (rc : Bool)
  /-- rlwimix: M form, opcode 20 (R232). -/
  | rlwimix (src a sh mb me : BitVec 5) (rc : Bool)
  /-- rlwnmx: M form, opcode 23 (R233). -/
  | rlwnmx (src a b mb me : BitVec 5) (rc : Bool)
  /-- slwx: X form, opcode 31/24 (R234). -/
  | slwx (src a b : BitVec 5) (rc : Bool)
  /-- srwx: X form, opcode 31/536 (R235). -/
  | srwx (src a b : BitVec 5) (rc : Bool)
  /-- srawx: X form, opcode 31/792 (R236). -/
  | srawx (src a b : BitVec 5) (rc : Bool)
  /-- srawix: X form, opcode 31/824 (R237). -/
  | srawix (src a sh : BitVec 5) (rc : Bool)
  /-- faddx: A form, opcode 63/21 (R251). -/
  | faddx (d a b : BitVec 5) (rc : Bool)
  /-- faddsx: A form, opcode 59/21 (R252). -/
  | faddsx (d a b : BitVec 5) (rc : Bool)
  /-- fsubx: A form, opcode 63/20 (R253). -/
  | fsubx (d a b : BitVec 5) (rc : Bool)
  /-- fsubsx: A form, opcode 59/20 (R254). -/
  | fsubsx (d a b : BitVec 5) (rc : Bool)
  /-- fdivx: A form, opcode 63/18 (R257). -/
  | fdivx (d a b : BitVec 5) (rc : Bool)
  /-- fdivsx: A form, opcode 59/18 (R258). -/
  | fdivsx (d a b : BitVec 5) (rc : Bool)
  /-- fmulx: A form, opcode 63/25 (R255). -/
  | fmulx (d a c : BitVec 5) (rc : Bool)
  /-- fmulsx: A form, opcode 59/25 (R256). -/
  | fmulsx (d a c : BitVec 5) (rc : Bool)
  /-- fresx: A form, opcode 59/24 (R259). -/
  | fresx (d b : BitVec 5) (rc : Bool)
  /-- frsqrtex: A form, opcode 63/26 (R260). -/
  | frsqrtex (d b : BitVec 5) (rc : Bool)
  /-- fselx: A form, opcode 63/23 (R261). -/
  | fselx (d a b c : BitVec 5) (rc : Bool)
  /-- fmaddx: A form, opcode 63/29 (R262). -/
  | fmaddx (d a b c : BitVec 5) (rc : Bool)
  /-- fmaddsx: A form, opcode 59/29 (R263). -/
  | fmaddsx (d a b c : BitVec 5) (rc : Bool)
  /-- fmsubx: A form, opcode 63/28 (R264). -/
  | fmsubx (d a b c : BitVec 5) (rc : Bool)
  /-- fmsubsx: A form, opcode 59/28 (R265). -/
  | fmsubsx (d a b c : BitVec 5) (rc : Bool)
  /-- fnmaddx: A form, opcode 63/31 (R266). -/
  | fnmaddx (d a b c : BitVec 5) (rc : Bool)
  /-- fnmaddsx: A form, opcode 59/31 (R267). -/
  | fnmaddsx (d a b c : BitVec 5) (rc : Bool)
  /-- fnmsubx: A form, opcode 63/30 (R268). -/
  | fnmsubx (d a b c : BitVec 5) (rc : Bool)
  /-- fnmsubsx: A form, opcode 59/30 (R269). -/
  | fnmsubsx (d a b c : BitVec 5) (rc : Bool)
  /-- frspx: X form, opcode 63/12 (R270). -/
  | frspx (d b : BitVec 5) (rc : Bool)
  /-- fctiwx: X form, opcode 63/14 (R271). -/
  | fctiwx (d b : BitVec 5) (rc : Bool)
  /-- fctiwzx: X form, opcode 63/15 (R272). -/
  | fctiwzx (d b : BitVec 5) (rc : Bool)
  /-- fcmpu: X form, opcode 63/0 (R273). -/
  | fcmpu (crfD : BitVec 3) (a b : BitVec 5)
  /-- fcmpo: X form, opcode 63/32 (R274). -/
  | fcmpo (crfD : BitVec 3) (a b : BitVec 5)
  /-- mffsx: X form, opcode 63/583 (R275). -/
  | mffsx (d : BitVec 5) (rc : Bool)
  /-- mcrfs: X form, opcode 63/64 (R276). -/
  | mcrfs (crfD crfS : BitVec 3)
  /-- mtfsfix: X form, opcode 63/134 (R277). -/
  | mtfsfix (crfD : BitVec 3) (imm : BitVec 4) (rc : Bool)
  /-- mtfsfx: XFL form, opcode 63/711 (R278). -/
  | mtfsfx (fm : BitVec 8) (b : BitVec 5) (rc : Bool)
  /-- mtfsb0x: X form, opcode 63/70 (R279). -/
  | mtfsb0x (crbD : BitVec 5) (rc : Bool)
  /-- mtfsb1x: X form, opcode 63/38 (R280). -/
  | mtfsb1x (crbD : BitVec 5) (rc : Bool)
  /-- fmrx: X form, opcode 63/72 (R281). -/
  | fmrx (d b : BitVec 5) (rc : Bool)
  /-- fnegx: X form, opcode 63/40 (R282). -/
  | fnegx (d b : BitVec 5) (rc : Bool)
  /-- fabsx: X form, opcode 63/264 (R283). -/
  | fabsx (d b : BitVec 5) (rc : Bool)
  /-- fnabsx: X form, opcode 63/136 (R284). -/
  | fnabsx (d b : BitVec 5) (rc : Bool)
  /-- lbz: D form, opcode 34 (R304). -/
  | lbz (d a : BitVec 5) (disp : BitVec 16)
  /-- lbzu: D form, opcode 35 (R305). -/
  | lbzu (d a : BitVec 5) (disp : BitVec 16)
  /-- lbzx: X form, opcode 31/87 (R306). -/
  | lbzx (d a b : BitVec 5)
  /-- lbzux: X form, opcode 31/119 (R307). -/
  | lbzux (d a b : BitVec 5)
  /-- lhz: D form, opcode 40 (R308). -/
  | lhz (d a : BitVec 5) (disp : BitVec 16)
  /-- lhzu: D form, opcode 41 (R309). -/
  | lhzu (d a : BitVec 5) (disp : BitVec 16)
  /-- lhzx: X form, opcode 31/279 (R310). -/
  | lhzx (d a b : BitVec 5)
  /-- lhzux: X form, opcode 31/311 (R311). -/
  | lhzux (d a b : BitVec 5)
  /-- lha: D form, opcode 42 (R312). -/
  | lha (d a : BitVec 5) (disp : BitVec 16)
  /-- lhau: D form, opcode 43 (R313). -/
  | lhau (d a : BitVec 5) (disp : BitVec 16)
  /-- lhax: X form, opcode 31/343 (R314). -/
  | lhax (d a b : BitVec 5)
  /-- lhaux: X form, opcode 31/375 (R315). -/
  | lhaux (d a b : BitVec 5)
  /-- lwz: D form, opcode 32 (R316). -/
  | lwz (d a : BitVec 5) (disp : BitVec 16)
  /-- lwzu: D form, opcode 33 (R317). -/
  | lwzu (d a : BitVec 5) (disp : BitVec 16)
  /-- lwzx: X form, opcode 31/23 (R318). -/
  | lwzx (d a b : BitVec 5)
  /-- lwzux: X form, opcode 31/55 (R319). -/
  | lwzux (d a b : BitVec 5)
  /-- stb: D form, opcode 38 (R320). -/
  | stb (src a : BitVec 5) (disp : BitVec 16)
  /-- stbu: D form, opcode 39 (R321). -/
  | stbu (src a : BitVec 5) (disp : BitVec 16)
  /-- stbx: X form, opcode 31/215 (R322). -/
  | stbx (src a b : BitVec 5)
  /-- stbux: X form, opcode 31/247 (R323). -/
  | stbux (src a b : BitVec 5)
  /-- sth: D form, opcode 44 (R324). -/
  | sth (src a : BitVec 5) (disp : BitVec 16)
  /-- sthu: D form, opcode 45 (R325). -/
  | sthu (src a : BitVec 5) (disp : BitVec 16)
  /-- sthx: X form, opcode 31/407 (R326). -/
  | sthx (src a b : BitVec 5)
  /-- sthux: X form, opcode 31/439 (R327). -/
  | sthux (src a b : BitVec 5)
  /-- stw: D form, opcode 36 (R328). -/
  | stw (src a : BitVec 5) (disp : BitVec 16)
  /-- stwu: D form, opcode 37 (R329). -/
  | stwu (src a : BitVec 5) (disp : BitVec 16)
  /-- stwx: X form, opcode 31/151 (R330). -/
  | stwx (src a b : BitVec 5)
  /-- stwux: X form, opcode 31/183 (R331). -/
  | stwux (src a b : BitVec 5)
  /-- lhbrx: X form, opcode 31/790 (R335). -/
  | lhbrx (d a b : BitVec 5)
  /-- lwbrx: X form, opcode 31/534 (R336). -/
  | lwbrx (d a b : BitVec 5)
  /-- sthbrx: X form, opcode 31/918 (R337). -/
  | sthbrx (src a b : BitVec 5)
  /-- stwbrx: X form, opcode 31/662 (R338). -/
  | stwbrx (src a b : BitVec 5)
  /-- lmw: D form, opcode 46 (R340). -/
  | lmw (d a : BitVec 5) (disp : BitVec 16)
  /-- stmw: D form, opcode 47 (R341). -/
  | stmw (src a : BitVec 5) (disp : BitVec 16)
  /-- lswi: X form, opcode 31/597 (R345). -/
  | lswi (d a nb : BitVec 5)
  /-- lswx: X form, opcode 31/533 (R346). -/
  | lswx (d a b : BitVec 5)
  /-- stswi: X form, opcode 31/725 (R347). -/
  | stswi (src a nb : BitVec 5)
  /-- stswx: X form, opcode 31/661 (R348). -/
  | stswx (src a b : BitVec 5)
  /-- lwarx: X form, opcode 31/20 (R361). -/
  | lwarx (d a b : BitVec 5)
  /-- stwcx.: X form, opcode 31/150 (R363). -/
  | stwcx_rc (src a b : BitVec 5)
  /-- sync: X form, opcode 31/598 (R370). -/
  | sync
  /-- eieio: X form, opcode 31/854 (R371). -/
  | eieio
  /-- isync: XL form, opcode 19/150 (R372). -/
  | isync
  /-- lfs: D form, opcode 48 (R381). -/
  | lfs (d a : BitVec 5) (disp : BitVec 16)
  /-- lfsu: D form, opcode 49 (R382). -/
  | lfsu (d a : BitVec 5) (disp : BitVec 16)
  /-- lfsx: X form, opcode 31/535 (R383). -/
  | lfsx (d a b : BitVec 5)
  /-- lfsux: X form, opcode 31/567 (R384). -/
  | lfsux (d a b : BitVec 5)
  /-- lfd: D form, opcode 50 (R385). -/
  | lfd (d a : BitVec 5) (disp : BitVec 16)
  /-- lfdu: D form, opcode 51 (R386). -/
  | lfdu (d a : BitVec 5) (disp : BitVec 16)
  /-- lfdx: X form, opcode 31/599 (R387). -/
  | lfdx (d a b : BitVec 5)
  /-- lfdux: X form, opcode 31/631 (R388). -/
  | lfdux (d a b : BitVec 5)
  /-- stfs: D form, opcode 52 (R389). -/
  | stfs (src a : BitVec 5) (disp : BitVec 16)
  /-- stfsu: D form, opcode 53 (R390). -/
  | stfsu (src a : BitVec 5) (disp : BitVec 16)
  /-- stfsx: X form, opcode 31/663 (R391). -/
  | stfsx (src a b : BitVec 5)
  /-- stfsux: X form, opcode 31/695 (R392). -/
  | stfsux (src a b : BitVec 5)
  /-- stfd: D form, opcode 54 (R393). -/
  | stfd (src a : BitVec 5) (disp : BitVec 16)
  /-- stfdu: D form, opcode 55 (R394). -/
  | stfdu (src a : BitVec 5) (disp : BitVec 16)
  /-- stfdx: X form, opcode 31/727 (R395). -/
  | stfdx (src a b : BitVec 5)
  /-- stfdux: X form, opcode 31/759 (R396). -/
  | stfdux (src a b : BitVec 5)
  /-- stfiwx: X form, opcode 31/983 (R397). -/
  | stfiwx (src a b : BitVec 5)
  /-- bx: I form, opcode 18 (R401). -/
  | bx (li : BitVec 24) (aa lk : Bool)
  /-- bcx: B form, opcode 16 (R402). -/
  | bcx (bo bi : BitVec 5) (bd : BitVec 14) (aa lk : Bool)
  /-- bclrx: XL form, opcode 19/16 (R403). -/
  | bclrx (bo bi : BitVec 5) (lk : Bool)
  /-- bcctrx: XL form, opcode 19/528 (R404). -/
  | bcctrx (bo bi : BitVec 5) (lk : Bool)
  /-- crand: XL form, opcode 19/257 (R415). -/
  | crand (crbD crbA crbB : BitVec 5)
  /-- crandc: XL form, opcode 19/129 (R416). -/
  | crandc (crbD crbA crbB : BitVec 5)
  /-- creqv: XL form, opcode 19/289 (R417). -/
  | creqv (crbD crbA crbB : BitVec 5)
  /-- crnand: XL form, opcode 19/225 (R418). -/
  | crnand (crbD crbA crbB : BitVec 5)
  /-- crnor: XL form, opcode 19/33 (R419). -/
  | crnor (crbD crbA crbB : BitVec 5)
  /-- cror: XL form, opcode 19/449 (R420). -/
  | cror (crbD crbA crbB : BitVec 5)
  /-- crorc: XL form, opcode 19/417 (R421). -/
  | crorc (crbD crbA crbB : BitVec 5)
  /-- crxor: XL form, opcode 19/193 (R422). -/
  | crxor (crbD crbA crbB : BitVec 5)
  /-- mcrf: XL form, opcode 19/0 (R423). -/
  | mcrf (crfD crfS : BitVec 3)
  /-- sc: SC form, opcode 17 (R425). -/
  | sc
  /-- rfi: XL form, opcode 19/50 (R436). -/
  | rfi
  /-- tw: X form, opcode 31/4 (R427). -/
  | tw (trapOn a b : BitVec 5)
  /-- twi: D form, opcode 3 (R428). -/
  | twi (trapOn a : BitVec 5) (simm : BitVec 16)
  /-- mcrxr: X form, opcode 31/512 (R430). -/
  | mcrxr (crfD : BitVec 3)
  /-- mfcr: X form, opcode 31/19 (R431). -/
  | mfcr (d : BitVec 5)
  /-- mtcrf: XFX form, opcode 31/144 (R432). -/
  | mtcrf (src : BitVec 5) (crm : BitVec 8)
  /-- mfmsr: X form, opcode 31/83 (R433). -/
  | mfmsr (d : BitVec 5)
  /-- mtmsr: X form, opcode 31/146 (R434). -/
  | mtmsr (src : BitVec 5)
  /-- mfspr: XFX form, opcode 31/339 (R435). -/
  | mfspr (d : BitVec 5) (spr : BitVec 10)
  /-- mtspr: XFX form, opcode 31/467 (R437). -/
  | mtspr (src : BitVec 5) (spr : BitVec 10)
  /-- mftb: XFX form, opcode 31/371 (R438). -/
  | mftb (d : BitVec 5) (tbr : BitVec 10)
  /-- dcbf: X form, opcode 31/86 (R451). -/
  | dcbf (a b : BitVec 5)
  /-- dcbi: X form, opcode 31/470 (R452). -/
  | dcbi (a b : BitVec 5)
  /-- dcbst: X form, opcode 31/54 (R453). -/
  | dcbst (a b : BitVec 5)
  /-- dcbt: X form, opcode 31/278 (R454). -/
  | dcbt (a b : BitVec 5)
  /-- dcbtst: X form, opcode 31/246 (R455). -/
  | dcbtst (a b : BitVec 5)
  /-- dcbz: X form, opcode 31/1014 (R456). -/
  | dcbz (a b : BitVec 5)
  /-- icbi: X form, opcode 31/982 (R457). -/
  | icbi (a b : BitVec 5)
  /-- mfsr: X form, opcode 31/595 (R460). -/
  | mfsr (d : BitVec 5) (sr : BitVec 4)
  /-- mfsrin: X form, opcode 31/659 (R461). -/
  | mfsrin (d b : BitVec 5)
  /-- mtsr: X form, opcode 31/210 (R462). -/
  | mtsr (src : BitVec 5) (sr : BitVec 4)
  /-- mtsrin: X form, opcode 31/242 (R463). -/
  | mtsrin (src b : BitVec 5)
  /-- tlbie: X form, opcode 31/306 (R466). -/
  | tlbie (b : BitVec 5)
  /-- tlbsync: X form, opcode 31/566 (R467). -/
  | tlbsync
  /-- tlbsync_b31: X form, opcode 31/598 (R467). -/
  | tlbsync_b31
  /-- eciwx: X form, opcode 31/310 (R470). -/
  | eciwx (d a b : BitVec 5)
  /-- ecowx: X form, opcode 31/438 (R471). -/
  | ecowx (src a b : BitVec 5)
  deriving DecidableEq, Repr

end Sys2Proof
end

