-- ==== Sys2Proof/WellFormed.lean ====
section
/-! DEFINITION. The invalid forms that do not come from reserved fields (30_encoding.md R151): a well-formed instruction has none. The reserved fields (R152, R153) are not in the syntax: the decoder refuses them. The invalid BO encodings of R154 are well formed, because the 604 executes them. -/

namespace Sys2Proof

/-- The number of bytes of `lswi` and `stswi`: 32 when NB is 0 (R136). -/
def stringBytes (nb : BitVec 5) : Nat := if nb = 0 then 32 else nb.toNat

/-- The number of registers that hold `n` bytes, four to a register (R345). -/
def registersFor (n : Nat) : Nat := (n + 3) / 4

/-- Register `r` is one of the `k` registers from `d` on, counting modulo 32 (R151 "in the range of registers loaded"). -/
def inRegisterRange (d r : BitVec 5) (k : Nat) : Bool := (r - d).toNat < k

/-- A base register there is to update: `rA = 0` is invalid (R151). -/
def updateBaseOk (a : BitVec 5) : Bool := a != 0

/-- Update loads: `rA = 0` and `rA = rD` are invalid (R151). -/
def updateLoadOk (d a : BitVec 5) : Bool := updateBaseOk a && a != d

/-- `lmw`: `rA` in the range `rD` to 31 is invalid, `rA = rD = 0` included (R151). -/
def multipleOk (d a : BitVec 5) : Bool := a.toNat < d.toNat

/-- `lswi`: `rA` in the range of registers loaded is invalid, `rA = rD = 0` included (R151). DESIGN CHOICE (log 46): this
holds although an example of R345, `lswi r30,r4,0`, loads a range that wraps and has r4 in it. -/
def stringOk (d a nb : BitVec 5) : Bool := !inRegisterRange d a (registersFor (stringBytes nb))

/-- The instruction is no invalid form of R151. The part of the `lswx` condition that depends on the XER byte count,
and the implemented-SPR condition, are checked by those instructions' meanings. -/
def Instr.wellFormed (i : Instr) : Bool :=
  match i with
  | .addi _ _ _ => true
  | .addis _ _ _ => true
  | .addic _ _ _ => true
  | .addic_rc _ _ _ => true
  | .subfic _ _ _ => true
  | .mulli _ _ _ => true
  | .addx _ _ _ _ _ => true
  | .addcx _ _ _ _ _ => true
  | .addex _ _ _ _ _ => true
  | .addmex _ _ _ _ => true
  | .addzex _ _ _ _ => true
  | .subfx _ _ _ _ _ => true
  | .subfcx _ _ _ _ _ => true
  | .subfex _ _ _ _ _ => true
  | .subfmex _ _ _ _ => true
  | .subfzex _ _ _ _ => true
  | .negx _ _ _ _ => true
  | .mullwx _ _ _ _ _ => true
  | .divwx _ _ _ _ _ => true
  | .divwux _ _ _ _ _ => true
  | .mulhwx _ _ _ _ => true
  | .mulhwux _ _ _ _ => true
  | .cmpi _ _ _ => true
  | .cmp _ _ _ => true
  | .cmpli _ _ _ => true
  | .cmpl _ _ _ => true
  | .andi_rc _ _ _ => true
  | .andis_rc _ _ _ => true
  | .ori _ _ _ => true
  | .oris _ _ _ => true
  | .xori _ _ _ => true
  | .xoris _ _ _ => true
  | .andx _ _ _ _ => true
  | .andcx _ _ _ _ => true
  | .orx _ _ _ _ => true
  | .orcx _ _ _ _ => true
  | .xorx _ _ _ _ => true
  | .nandx _ _ _ _ => true
  | .norx _ _ _ _ => true
  | .eqvx _ _ _ _ => true
  | .extsbx _ _ _ => true
  | .extshx _ _ _ => true
  | .cntlzwx _ _ _ => true
  | .rlwinmx _ _ _ _ _ _ => true
  | .rlwimix _ _ _ _ _ _ => true
  | .rlwnmx _ _ _ _ _ _ => true
  | .slwx _ _ _ _ => true
  | .srwx _ _ _ _ => true
  | .srawx _ _ _ _ => true
  | .srawix _ _ _ _ => true
  | .faddx _ _ _ _ => true
  | .faddsx _ _ _ _ => true
  | .fsubx _ _ _ _ => true
  | .fsubsx _ _ _ _ => true
  | .fdivx _ _ _ _ => true
  | .fdivsx _ _ _ _ => true
  | .fmulx _ _ _ _ => true
  | .fmulsx _ _ _ _ => true
  | .fresx _ _ _ => true
  | .frsqrtex _ _ _ => true
  | .fselx _ _ _ _ _ => true
  | .fmaddx _ _ _ _ _ => true
  | .fmaddsx _ _ _ _ _ => true
  | .fmsubx _ _ _ _ _ => true
  | .fmsubsx _ _ _ _ _ => true
  | .fnmaddx _ _ _ _ _ => true
  | .fnmaddsx _ _ _ _ _ => true
  | .fnmsubx _ _ _ _ _ => true
  | .fnmsubsx _ _ _ _ _ => true
  | .frspx _ _ _ => true
  | .fctiwx _ _ _ => true
  | .fctiwzx _ _ _ => true
  | .fcmpu _ _ _ => true
  | .fcmpo _ _ _ => true
  | .mffsx _ _ => true
  | .mcrfs _ _ => true
  | .mtfsfix _ _ _ => true
  | .mtfsfx _ _ _ => true
  | .mtfsb0x _ _ => true
  | .mtfsb1x _ _ => true
  | .fmrx _ _ _ => true
  | .fnegx _ _ _ => true
  | .fabsx _ _ _ => true
  | .fnabsx _ _ _ => true
  | .lbz _ _ _ => true
  | .lbzu d a _ => updateLoadOk d a
  | .lbzx _ _ _ => true
  | .lbzux d a _ => updateLoadOk d a
  | .lhz _ _ _ => true
  | .lhzu d a _ => updateLoadOk d a
  | .lhzx _ _ _ => true
  | .lhzux d a _ => updateLoadOk d a
  | .lha _ _ _ => true
  | .lhau d a _ => updateLoadOk d a
  | .lhax _ _ _ => true
  | .lhaux d a _ => updateLoadOk d a
  | .lwz _ _ _ => true
  | .lwzu d a _ => updateLoadOk d a
  | .lwzx _ _ _ => true
  | .lwzux d a _ => updateLoadOk d a
  | .stb _ _ _ => true
  | .stbu _ a _ => updateBaseOk a
  | .stbx _ _ _ => true
  | .stbux _ a _ => updateBaseOk a
  | .sth _ _ _ => true
  | .sthu _ a _ => updateBaseOk a
  | .sthx _ _ _ => true
  | .sthux _ a _ => updateBaseOk a
  | .stw _ _ _ => true
  | .stwu _ a _ => updateBaseOk a
  | .stwx _ _ _ => true
  | .stwux _ a _ => updateBaseOk a
  | .lhbrx _ _ _ => true
  | .lwbrx _ _ _ => true
  | .sthbrx _ _ _ => true
  | .stwbrx _ _ _ => true
  | .lmw d a _ => multipleOk d a
  | .stmw _ _ _ => true
  | .lswi d a nb => stringOk d a nb
  | .lswx d a b => d != a && d != b
  | .stswi _ _ _ => true
  | .stswx _ _ _ => true
  | .lwarx _ _ _ => true
  | .stwcx_rc _ _ _ => true
  | .sync => true
  | .eieio => true
  | .isync => true
  | .lfs _ _ _ => true
  | .lfsu _ a _ => updateBaseOk a
  | .lfsx _ _ _ => true
  | .lfsux _ a _ => updateBaseOk a
  | .lfd _ _ _ => true
  | .lfdu _ a _ => updateBaseOk a
  | .lfdx _ _ _ => true
  | .lfdux _ a _ => updateBaseOk a
  | .stfs _ _ _ => true
  | .stfsu _ a _ => updateBaseOk a
  | .stfsx _ _ _ => true
  | .stfsux _ a _ => updateBaseOk a
  | .stfd _ _ _ => true
  | .stfdu _ a _ => updateBaseOk a
  | .stfdx _ _ _ => true
  | .stfdux _ a _ => updateBaseOk a
  | .stfiwx _ _ _ => true
  | .bx _ _ _ => true
  | .bcx _ _ _ _ _ => true
  | .bclrx _ _ _ => true
  | .bcctrx bo _ _ => bo.getMsbD 2
  | .crand _ _ _ => true
  | .crandc _ _ _ => true
  | .creqv _ _ _ => true
  | .crnand _ _ _ => true
  | .crnor _ _ _ => true
  | .cror _ _ _ => true
  | .crorc _ _ _ => true
  | .crxor _ _ _ => true
  | .mcrf _ _ => true
  | .sc => true
  | .rfi => true
  | .tw _ _ _ => true
  | .twi _ _ _ => true
  | .mcrxr _ => true
  | .mfcr _ => true
  | .mtcrf _ _ => true
  | .mfmsr _ => true
  | .mtmsr _ => true
  | .mfspr _ _ => true
  | .mtspr _ _ => true
  | .mftb _ _ => true
  | .dcbf _ _ => true
  | .dcbi _ _ => true
  | .dcbst _ _ => true
  | .dcbt _ _ => true
  | .dcbtst _ _ => true
  | .dcbz _ _ => true
  | .icbi _ _ => true
  | .mfsr _ _ => true
  | .mfsrin _ _ => true
  | .mtsr _ _ => true
  | .mtsrin _ _ => true
  | .tlbie _ => true
  | .tlbsync => true
  | .tlbsync_b31 => true
  | .eciwx _ _ _ => true
  | .ecowx _ _ _ => true

end Sys2Proof
end

