-- ==== Sys2Proof/Decode.lean ====
section
/-! DEFINITION. The decoder (30_encoding.md R120 to R143, R150 to R156), total on any bytes, and after it the encoder. A word is read as the number of its 32 bits, PowerPC bit 0 the most significant (00_scope.md R9, R10). -/

namespace Sys2Proof

/-- Why a word is no instruction the model runs: no row of the opcode table (R150, Program(illegal)); a row whose reserved bits are set (R152, R153, R155 b); an invalid form (R151, R155 b). -/
inductive DecodeError where
  | illegal
  | reservedBits
  | invalidForm
  deriving DecidableEq, Repr

/-- The field of `width` bits that ends at PowerPC bit `last` (R121). -/
def fieldAt (w last width : Nat) : BitVec width := BitVec.ofNat width (w / 2 ^ (31 - last))

/-- PowerPC bit `n` of the word (R9). -/
def flagAt (w n : Nat) : Bool := w / 2 ^ (31 - n) % 2 == 1

/-- The `width` bits that end at PowerPC bit `last` hold `value`: a reserved field, or a bit the row fixes (R152, R153). -/
def holdsAt (w last width value : Nat) : Bool := w / 2 ^ (31 - last) % 2 ^ width == value

/-- The split fields `spr` and `tbr`: bits 16:20 are the high half of the number, bits 11:15 the low half (R11, R136). -/
def splitNumber (w : Nat) : BitVec 10 := BitVec.ofNat 10 (w / 2 ^ 11 % 32 * 32 + w / 2 ^ 16 % 32)

/-- The row applies if its reserved bits are as they must be; otherwise the word is refused (R155 b). -/
def guarded (ok : Bool) (i : Instr) : Except DecodeError Instr :=
  if ok then .ok i else .error .reservedBits

/-- The compares are invalid forms with L = 1 (R151). -/
def shortCompare (w : Nat) (r : Except DecodeError Instr) : Except DecodeError Instr :=
  if flagAt w 10 then .error .invalidForm else r

/-- Primary opcode 19, XO = bits 21:30 (R139). -/
def decodeBranchGroup (w : Nat) : Except DecodeError Instr :=
  match w / 2 % 1024 with
  | 150 => guarded (holdsAt w 20 15 0 && holdsAt w 31 1 0) .isync
  | 16 => guarded (holdsAt w 20 5 0) (.bclrx (fieldAt w 10 5) (fieldAt w 15 5) (flagAt w 31))
  | 528 => guarded (holdsAt w 20 5 0) (.bcctrx (fieldAt w 10 5) (fieldAt w 15 5) (flagAt w 31))
  | 257 => guarded (holdsAt w 31 1 0) (.crand (fieldAt w 10 5) (fieldAt w 15 5) (fieldAt w 20 5))
  | 129 => guarded (holdsAt w 31 1 0) (.crandc (fieldAt w 10 5) (fieldAt w 15 5) (fieldAt w 20 5))
  | 289 => guarded (holdsAt w 31 1 0) (.creqv (fieldAt w 10 5) (fieldAt w 15 5) (fieldAt w 20 5))
  | 225 => guarded (holdsAt w 31 1 0) (.crnand (fieldAt w 10 5) (fieldAt w 15 5) (fieldAt w 20 5))
  | 33 => guarded (holdsAt w 31 1 0) (.crnor (fieldAt w 10 5) (fieldAt w 15 5) (fieldAt w 20 5))
  | 449 => guarded (holdsAt w 31 1 0) (.cror (fieldAt w 10 5) (fieldAt w 15 5) (fieldAt w 20 5))
  | 417 => guarded (holdsAt w 31 1 0) (.crorc (fieldAt w 10 5) (fieldAt w 15 5) (fieldAt w 20 5))
  | 193 => guarded (holdsAt w 31 1 0) (.crxor (fieldAt w 10 5) (fieldAt w 15 5) (fieldAt w 20 5))
  | 0 => guarded (holdsAt w 10 2 0 && holdsAt w 20 7 0 && holdsAt w 31 1 0) (.mcrf (fieldAt w 8 3) (fieldAt w 13 3))
  | 50 => guarded (holdsAt w 20 15 0 && holdsAt w 31 1 0) .rfi
  | _ => .error .illegal

/-- Primary opcode 31, XO = bits 21:30; a row of XO form stands under both values of bit 21 (R140). Pattern 598 is `sync`, or with bit 31 set `tlbsync` (R156). -/
def decodeIntegerGroup (w : Nat) : Except DecodeError Instr :=
  match w / 2 % 1024 with
  | 266 | 778 => .ok (.addx (fieldAt w 10 5) (fieldAt w 15 5) (fieldAt w 20 5) (flagAt w 21) (flagAt w 31))
  | 10 | 522 => .ok (.addcx (fieldAt w 10 5) (fieldAt w 15 5) (fieldAt w 20 5) (flagAt w 21) (flagAt w 31))
  | 138 | 650 => .ok (.addex (fieldAt w 10 5) (fieldAt w 15 5) (fieldAt w 20 5) (flagAt w 21) (flagAt w 31))
  | 234 | 746 => guarded (holdsAt w 20 5 0) (.addmex (fieldAt w 10 5) (fieldAt w 15 5) (flagAt w 21) (flagAt w 31))
  | 202 | 714 => guarded (holdsAt w 20 5 0) (.addzex (fieldAt w 10 5) (fieldAt w 15 5) (flagAt w 21) (flagAt w 31))
  | 40 | 552 => .ok (.subfx (fieldAt w 10 5) (fieldAt w 15 5) (fieldAt w 20 5) (flagAt w 21) (flagAt w 31))
  | 8 | 520 => .ok (.subfcx (fieldAt w 10 5) (fieldAt w 15 5) (fieldAt w 20 5) (flagAt w 21) (flagAt w 31))
  | 136 | 648 => .ok (.subfex (fieldAt w 10 5) (fieldAt w 15 5) (fieldAt w 20 5) (flagAt w 21) (flagAt w 31))
  | 232 | 744 => guarded (holdsAt w 20 5 0) (.subfmex (fieldAt w 10 5) (fieldAt w 15 5) (flagAt w 21) (flagAt w 31))
  | 200 | 712 => guarded (holdsAt w 20 5 0) (.subfzex (fieldAt w 10 5) (fieldAt w 15 5) (flagAt w 21) (flagAt w 31))
  | 104 | 616 => guarded (holdsAt w 20 5 0) (.negx (fieldAt w 10 5) (fieldAt w 15 5) (flagAt w 21) (flagAt w 31))
  | 235 | 747 => .ok (.mullwx (fieldAt w 10 5) (fieldAt w 15 5) (fieldAt w 20 5) (flagAt w 21) (flagAt w 31))
  | 491 | 1003 => .ok (.divwx (fieldAt w 10 5) (fieldAt w 15 5) (fieldAt w 20 5) (flagAt w 21) (flagAt w 31))
  | 459 | 971 => .ok (.divwux (fieldAt w 10 5) (fieldAt w 15 5) (fieldAt w 20 5) (flagAt w 21) (flagAt w 31))
  | 75 | 587 => guarded (holdsAt w 21 1 0) (.mulhwx (fieldAt w 10 5) (fieldAt w 15 5) (fieldAt w 20 5) (flagAt w 31))
  | 11 | 523 => guarded (holdsAt w 21 1 0) (.mulhwux (fieldAt w 10 5) (fieldAt w 15 5) (fieldAt w 20 5) (flagAt w 31))
  | 0 => shortCompare w (guarded (holdsAt w 9 1 0 && holdsAt w 31 1 0) (.cmp (fieldAt w 8 3) (fieldAt w 15 5) (fieldAt w 20 5)))
  | 32 => shortCompare w (guarded (holdsAt w 9 1 0 && holdsAt w 31 1 0) (.cmpl (fieldAt w 8 3) (fieldAt w 15 5) (fieldAt w 20 5)))
  | 28 => .ok (.andx (fieldAt w 10 5) (fieldAt w 15 5) (fieldAt w 20 5) (flagAt w 31))
  | 60 => .ok (.andcx (fieldAt w 10 5) (fieldAt w 15 5) (fieldAt w 20 5) (flagAt w 31))
  | 444 => .ok (.orx (fieldAt w 10 5) (fieldAt w 15 5) (fieldAt w 20 5) (flagAt w 31))
  | 412 => .ok (.orcx (fieldAt w 10 5) (fieldAt w 15 5) (fieldAt w 20 5) (flagAt w 31))
  | 316 => .ok (.xorx (fieldAt w 10 5) (fieldAt w 15 5) (fieldAt w 20 5) (flagAt w 31))
  | 476 => .ok (.nandx (fieldAt w 10 5) (fieldAt w 15 5) (fieldAt w 20 5) (flagAt w 31))
  | 124 => .ok (.norx (fieldAt w 10 5) (fieldAt w 15 5) (fieldAt w 20 5) (flagAt w 31))
  | 284 => .ok (.eqvx (fieldAt w 10 5) (fieldAt w 15 5) (fieldAt w 20 5) (flagAt w 31))
  | 954 => guarded (holdsAt w 20 5 0) (.extsbx (fieldAt w 10 5) (fieldAt w 15 5) (flagAt w 31))
  | 922 => guarded (holdsAt w 20 5 0) (.extshx (fieldAt w 10 5) (fieldAt w 15 5) (flagAt w 31))
  | 26 => guarded (holdsAt w 20 5 0) (.cntlzwx (fieldAt w 10 5) (fieldAt w 15 5) (flagAt w 31))
  | 24 => .ok (.slwx (fieldAt w 10 5) (fieldAt w 15 5) (fieldAt w 20 5) (flagAt w 31))
  | 536 => .ok (.srwx (fieldAt w 10 5) (fieldAt w 15 5) (fieldAt w 20 5) (flagAt w 31))
  | 792 => .ok (.srawx (fieldAt w 10 5) (fieldAt w 15 5) (fieldAt w 20 5) (flagAt w 31))
  | 824 => .ok (.srawix (fieldAt w 10 5) (fieldAt w 15 5) (fieldAt w 20 5) (flagAt w 31))
  | 87 => guarded (holdsAt w 31 1 0) (.lbzx (fieldAt w 10 5) (fieldAt w 15 5) (fieldAt w 20 5))
  | 119 => guarded (holdsAt w 31 1 0) (.lbzux (fieldAt w 10 5) (fieldAt w 15 5) (fieldAt w 20 5))
  | 279 => guarded (holdsAt w 31 1 0) (.lhzx (fieldAt w 10 5) (fieldAt w 15 5) (fieldAt w 20 5))
  | 311 => guarded (holdsAt w 31 1 0) (.lhzux (fieldAt w 10 5) (fieldAt w 15 5) (fieldAt w 20 5))
  | 343 => guarded (holdsAt w 31 1 0) (.lhax (fieldAt w 10 5) (fieldAt w 15 5) (fieldAt w 20 5))
  | 375 => guarded (holdsAt w 31 1 0) (.lhaux (fieldAt w 10 5) (fieldAt w 15 5) (fieldAt w 20 5))
  | 23 => guarded (holdsAt w 31 1 0) (.lwzx (fieldAt w 10 5) (fieldAt w 15 5) (fieldAt w 20 5))
  | 55 => guarded (holdsAt w 31 1 0) (.lwzux (fieldAt w 10 5) (fieldAt w 15 5) (fieldAt w 20 5))
  | 215 => guarded (holdsAt w 31 1 0) (.stbx (fieldAt w 10 5) (fieldAt w 15 5) (fieldAt w 20 5))
  | 247 => guarded (holdsAt w 31 1 0) (.stbux (fieldAt w 10 5) (fieldAt w 15 5) (fieldAt w 20 5))
  | 407 => guarded (holdsAt w 31 1 0) (.sthx (fieldAt w 10 5) (fieldAt w 15 5) (fieldAt w 20 5))
  | 439 => guarded (holdsAt w 31 1 0) (.sthux (fieldAt w 10 5) (fieldAt w 15 5) (fieldAt w 20 5))
  | 151 => guarded (holdsAt w 31 1 0) (.stwx (fieldAt w 10 5) (fieldAt w 15 5) (fieldAt w 20 5))
  | 183 => guarded (holdsAt w 31 1 0) (.stwux (fieldAt w 10 5) (fieldAt w 15 5) (fieldAt w 20 5))
  | 790 => guarded (holdsAt w 31 1 0) (.lhbrx (fieldAt w 10 5) (fieldAt w 15 5) (fieldAt w 20 5))
  | 534 => guarded (holdsAt w 31 1 0) (.lwbrx (fieldAt w 10 5) (fieldAt w 15 5) (fieldAt w 20 5))
  | 918 => guarded (holdsAt w 31 1 0) (.sthbrx (fieldAt w 10 5) (fieldAt w 15 5) (fieldAt w 20 5))
  | 662 => guarded (holdsAt w 31 1 0) (.stwbrx (fieldAt w 10 5) (fieldAt w 15 5) (fieldAt w 20 5))
  | 597 => guarded (holdsAt w 31 1 0) (.lswi (fieldAt w 10 5) (fieldAt w 15 5) (fieldAt w 20 5))
  | 533 => guarded (holdsAt w 31 1 0) (.lswx (fieldAt w 10 5) (fieldAt w 15 5) (fieldAt w 20 5))
  | 725 => guarded (holdsAt w 31 1 0) (.stswi (fieldAt w 10 5) (fieldAt w 15 5) (fieldAt w 20 5))
  | 661 => guarded (holdsAt w 31 1 0) (.stswx (fieldAt w 10 5) (fieldAt w 15 5) (fieldAt w 20 5))
  | 20 => guarded (holdsAt w 31 1 0) (.lwarx (fieldAt w 10 5) (fieldAt w 15 5) (fieldAt w 20 5))
  | 150 => guarded (holdsAt w 31 1 1) (.stwcx_rc (fieldAt w 10 5) (fieldAt w 15 5) (fieldAt w 20 5))
  | 854 => guarded (holdsAt w 20 15 0 && holdsAt w 31 1 0) .eieio
  | 535 => guarded (holdsAt w 31 1 0) (.lfsx (fieldAt w 10 5) (fieldAt w 15 5) (fieldAt w 20 5))
  | 567 => guarded (holdsAt w 31 1 0) (.lfsux (fieldAt w 10 5) (fieldAt w 15 5) (fieldAt w 20 5))
  | 599 => guarded (holdsAt w 31 1 0) (.lfdx (fieldAt w 10 5) (fieldAt w 15 5) (fieldAt w 20 5))
  | 631 => guarded (holdsAt w 31 1 0) (.lfdux (fieldAt w 10 5) (fieldAt w 15 5) (fieldAt w 20 5))
  | 663 => guarded (holdsAt w 31 1 0) (.stfsx (fieldAt w 10 5) (fieldAt w 15 5) (fieldAt w 20 5))
  | 695 => guarded (holdsAt w 31 1 0) (.stfsux (fieldAt w 10 5) (fieldAt w 15 5) (fieldAt w 20 5))
  | 727 => guarded (holdsAt w 31 1 0) (.stfdx (fieldAt w 10 5) (fieldAt w 15 5) (fieldAt w 20 5))
  | 759 => guarded (holdsAt w 31 1 0) (.stfdux (fieldAt w 10 5) (fieldAt w 15 5) (fieldAt w 20 5))
  | 983 => guarded (holdsAt w 31 1 0) (.stfiwx (fieldAt w 10 5) (fieldAt w 15 5) (fieldAt w 20 5))
  | 4 => guarded (holdsAt w 31 1 0) (.tw (fieldAt w 10 5) (fieldAt w 15 5) (fieldAt w 20 5))
  | 512 => guarded (holdsAt w 20 12 0 && holdsAt w 31 1 0) (.mcrxr (fieldAt w 8 3))
  | 19 => guarded (holdsAt w 20 10 0 && holdsAt w 31 1 0) (.mfcr (fieldAt w 10 5))
  | 144 => guarded (holdsAt w 11 1 0 && holdsAt w 20 1 0 && holdsAt w 31 1 0) (.mtcrf (fieldAt w 10 5) (fieldAt w 19 8))
  | 83 => guarded (holdsAt w 20 10 0 && holdsAt w 31 1 0) (.mfmsr (fieldAt w 10 5))
  | 146 => guarded (holdsAt w 20 10 0 && holdsAt w 31 1 0) (.mtmsr (fieldAt w 10 5))
  | 339 => guarded (holdsAt w 31 1 0) (.mfspr (fieldAt w 10 5) (splitNumber w))
  | 467 => guarded (holdsAt w 31 1 0) (.mtspr (fieldAt w 10 5) (splitNumber w))
  | 371 => guarded (holdsAt w 31 1 0) (.mftb (fieldAt w 10 5) (splitNumber w))
  | 86 => guarded (holdsAt w 10 5 0 && holdsAt w 31 1 0) (.dcbf (fieldAt w 15 5) (fieldAt w 20 5))
  | 470 => guarded (holdsAt w 10 5 0 && holdsAt w 31 1 0) (.dcbi (fieldAt w 15 5) (fieldAt w 20 5))
  | 54 => guarded (holdsAt w 10 5 0 && holdsAt w 31 1 0) (.dcbst (fieldAt w 15 5) (fieldAt w 20 5))
  | 278 => guarded (holdsAt w 10 5 0 && holdsAt w 31 1 0) (.dcbt (fieldAt w 15 5) (fieldAt w 20 5))
  | 246 => guarded (holdsAt w 10 5 0 && holdsAt w 31 1 0) (.dcbtst (fieldAt w 15 5) (fieldAt w 20 5))
  | 1014 => guarded (holdsAt w 10 5 0 && holdsAt w 31 1 0) (.dcbz (fieldAt w 15 5) (fieldAt w 20 5))
  | 982 => guarded (holdsAt w 10 5 0 && holdsAt w 31 1 0) (.icbi (fieldAt w 15 5) (fieldAt w 20 5))
  | 595 => guarded (holdsAt w 11 1 0 && holdsAt w 20 5 0 && holdsAt w 31 1 0) (.mfsr (fieldAt w 10 5) (fieldAt w 15 4))
  | 659 => guarded (holdsAt w 15 5 0 && holdsAt w 31 1 0) (.mfsrin (fieldAt w 10 5) (fieldAt w 20 5))
  | 210 => guarded (holdsAt w 11 1 0 && holdsAt w 20 5 0 && holdsAt w 31 1 0) (.mtsr (fieldAt w 10 5) (fieldAt w 15 4))
  | 242 => guarded (holdsAt w 15 5 0 && holdsAt w 31 1 0) (.mtsrin (fieldAt w 10 5) (fieldAt w 20 5))
  | 306 => guarded (holdsAt w 15 10 0 && holdsAt w 31 1 0) (.tlbie (fieldAt w 20 5))
  | 566 => guarded (holdsAt w 20 15 0 && holdsAt w 31 1 0) .tlbsync
  | 310 => guarded (holdsAt w 31 1 0) (.eciwx (fieldAt w 10 5) (fieldAt w 15 5) (fieldAt w 20 5))
  | 438 => guarded (holdsAt w 31 1 0) (.ecowx (fieldAt w 10 5) (fieldAt w 15 5) (fieldAt w 20 5))
  | 598 => if holdsAt w 31 1 0 then guarded (holdsAt w 20 15 0) .sync else guarded (holdsAt w 20 15 0) .tlbsync_b31
  | _ => .error .illegal

/-- Primary opcode 59, XO = bits 26:30 (R141). -/
def decodeSingleGroup (w : Nat) : Except DecodeError Instr :=
  match w / 2 % 32 with
  | 21 => guarded (holdsAt w 25 5 0) (.faddsx (fieldAt w 10 5) (fieldAt w 15 5) (fieldAt w 20 5) (flagAt w 31))
  | 20 => guarded (holdsAt w 25 5 0) (.fsubsx (fieldAt w 10 5) (fieldAt w 15 5) (fieldAt w 20 5) (flagAt w 31))
  | 18 => guarded (holdsAt w 25 5 0) (.fdivsx (fieldAt w 10 5) (fieldAt w 15 5) (fieldAt w 20 5) (flagAt w 31))
  | 25 => guarded (holdsAt w 20 5 0) (.fmulsx (fieldAt w 10 5) (fieldAt w 15 5) (fieldAt w 25 5) (flagAt w 31))
  | 24 => guarded (holdsAt w 15 5 0 && holdsAt w 25 5 0) (.fresx (fieldAt w 10 5) (fieldAt w 20 5) (flagAt w 31))
  | 29 => .ok (.fmaddsx (fieldAt w 10 5) (fieldAt w 15 5) (fieldAt w 20 5) (fieldAt w 25 5) (flagAt w 31))
  | 28 => .ok (.fmsubsx (fieldAt w 10 5) (fieldAt w 15 5) (fieldAt w 20 5) (fieldAt w 25 5) (flagAt w 31))
  | 31 => .ok (.fnmaddsx (fieldAt w 10 5) (fieldAt w 15 5) (fieldAt w 20 5) (fieldAt w 25 5) (flagAt w 31))
  | 30 => .ok (.fnmsubsx (fieldAt w 10 5) (fieldAt w 15 5) (fieldAt w 20 5) (fieldAt w 25 5) (flagAt w 31))
  | _ => .error .illegal

/-- Primary opcode 63, the X and XFL rows: XO = bits 21:30 (R142). -/
def decodeMoveGroup (w : Nat) : Except DecodeError Instr :=
  match w / 2 % 1024 with
  | 12 => guarded (holdsAt w 15 5 0) (.frspx (fieldAt w 10 5) (fieldAt w 20 5) (flagAt w 31))
  | 14 => guarded (holdsAt w 15 5 0) (.fctiwx (fieldAt w 10 5) (fieldAt w 20 5) (flagAt w 31))
  | 15 => guarded (holdsAt w 15 5 0) (.fctiwzx (fieldAt w 10 5) (fieldAt w 20 5) (flagAt w 31))
  | 0 => guarded (holdsAt w 10 2 0 && holdsAt w 31 1 0) (.fcmpu (fieldAt w 8 3) (fieldAt w 15 5) (fieldAt w 20 5))
  | 32 => guarded (holdsAt w 10 2 0 && holdsAt w 31 1 0) (.fcmpo (fieldAt w 8 3) (fieldAt w 15 5) (fieldAt w 20 5))
  | 583 => guarded (holdsAt w 20 10 0) (.mffsx (fieldAt w 10 5) (flagAt w 31))
  | 64 => guarded (holdsAt w 10 2 0 && holdsAt w 20 7 0 && holdsAt w 31 1 0) (.mcrfs (fieldAt w 8 3) (fieldAt w 13 3))
  | 134 => guarded (holdsAt w 15 7 0 && holdsAt w 20 1 0) (.mtfsfix (fieldAt w 8 3) (fieldAt w 19 4) (flagAt w 31))
  | 711 => guarded (holdsAt w 6 1 0 && holdsAt w 15 1 0) (.mtfsfx (fieldAt w 14 8) (fieldAt w 20 5) (flagAt w 31))
  | 70 => guarded (holdsAt w 20 10 0) (.mtfsb0x (fieldAt w 10 5) (flagAt w 31))
  | 38 => guarded (holdsAt w 20 10 0) (.mtfsb1x (fieldAt w 10 5) (flagAt w 31))
  | 72 => guarded (holdsAt w 15 5 0) (.fmrx (fieldAt w 10 5) (fieldAt w 20 5) (flagAt w 31))
  | 40 => guarded (holdsAt w 15 5 0) (.fnegx (fieldAt w 10 5) (fieldAt w 20 5) (flagAt w 31))
  | 264 => guarded (holdsAt w 15 5 0) (.fabsx (fieldAt w 10 5) (fieldAt w 20 5) (flagAt w 31))
  | 136 => guarded (holdsAt w 15 5 0) (.fnabsx (fieldAt w 10 5) (fieldAt w 20 5) (flagAt w 31))
  | _ => .error .illegal

/-- Primary opcode 63: the A-form rows by bits 26:30, which no X-form value shares, then the others (R137, R142). -/
def decodeDoubleGroup (w : Nat) : Except DecodeError Instr :=
  match w / 2 % 32 with
  | 21 => guarded (holdsAt w 25 5 0) (.faddx (fieldAt w 10 5) (fieldAt w 15 5) (fieldAt w 20 5) (flagAt w 31))
  | 20 => guarded (holdsAt w 25 5 0) (.fsubx (fieldAt w 10 5) (fieldAt w 15 5) (fieldAt w 20 5) (flagAt w 31))
  | 18 => guarded (holdsAt w 25 5 0) (.fdivx (fieldAt w 10 5) (fieldAt w 15 5) (fieldAt w 20 5) (flagAt w 31))
  | 25 => guarded (holdsAt w 20 5 0) (.fmulx (fieldAt w 10 5) (fieldAt w 15 5) (fieldAt w 25 5) (flagAt w 31))
  | 26 => guarded (holdsAt w 15 5 0 && holdsAt w 25 5 0) (.frsqrtex (fieldAt w 10 5) (fieldAt w 20 5) (flagAt w 31))
  | 23 => .ok (.fselx (fieldAt w 10 5) (fieldAt w 15 5) (fieldAt w 20 5) (fieldAt w 25 5) (flagAt w 31))
  | 29 => .ok (.fmaddx (fieldAt w 10 5) (fieldAt w 15 5) (fieldAt w 20 5) (fieldAt w 25 5) (flagAt w 31))
  | 28 => .ok (.fmsubx (fieldAt w 10 5) (fieldAt w 15 5) (fieldAt w 20 5) (fieldAt w 25 5) (flagAt w 31))
  | 31 => .ok (.fnmaddx (fieldAt w 10 5) (fieldAt w 15 5) (fieldAt w 20 5) (fieldAt w 25 5) (flagAt w 31))
  | 30 => .ok (.fnmsubx (fieldAt w 10 5) (fieldAt w 15 5) (fieldAt w 20 5) (fieldAt w 25 5) (flagAt w 31))
  | _ => decodeMoveGroup w

/-- The row of a word by its primary opcode, bits 0:5 (R137, R138), with the reserved bits checked. DESIGN CHOICE (log 38):
a word of `sc` with bit 30 clear, which is no reserved bit and no row's word (R124), is refused like one with a reserved bit
set. -/
def decodeRow (w : Nat) : Except DecodeError Instr :=
  match w / 2 ^ 26 with
  | 14 => .ok (.addi (fieldAt w 10 5) (fieldAt w 15 5) (fieldAt w 31 16))
  | 15 => .ok (.addis (fieldAt w 10 5) (fieldAt w 15 5) (fieldAt w 31 16))
  | 12 => .ok (.addic (fieldAt w 10 5) (fieldAt w 15 5) (fieldAt w 31 16))
  | 13 => .ok (.addic_rc (fieldAt w 10 5) (fieldAt w 15 5) (fieldAt w 31 16))
  | 8 => .ok (.subfic (fieldAt w 10 5) (fieldAt w 15 5) (fieldAt w 31 16))
  | 7 => .ok (.mulli (fieldAt w 10 5) (fieldAt w 15 5) (fieldAt w 31 16))
  | 11 => shortCompare w (guarded (holdsAt w 9 1 0) (.cmpi (fieldAt w 8 3) (fieldAt w 15 5) (fieldAt w 31 16)))
  | 10 => shortCompare w (guarded (holdsAt w 9 1 0) (.cmpli (fieldAt w 8 3) (fieldAt w 15 5) (fieldAt w 31 16)))
  | 28 => .ok (.andi_rc (fieldAt w 10 5) (fieldAt w 15 5) (fieldAt w 31 16))
  | 29 => .ok (.andis_rc (fieldAt w 10 5) (fieldAt w 15 5) (fieldAt w 31 16))
  | 24 => .ok (.ori (fieldAt w 10 5) (fieldAt w 15 5) (fieldAt w 31 16))
  | 25 => .ok (.oris (fieldAt w 10 5) (fieldAt w 15 5) (fieldAt w 31 16))
  | 26 => .ok (.xori (fieldAt w 10 5) (fieldAt w 15 5) (fieldAt w 31 16))
  | 27 => .ok (.xoris (fieldAt w 10 5) (fieldAt w 15 5) (fieldAt w 31 16))
  | 21 => .ok (.rlwinmx (fieldAt w 10 5) (fieldAt w 15 5) (fieldAt w 20 5) (fieldAt w 25 5) (fieldAt w 30 5) (flagAt w 31))
  | 20 => .ok (.rlwimix (fieldAt w 10 5) (fieldAt w 15 5) (fieldAt w 20 5) (fieldAt w 25 5) (fieldAt w 30 5) (flagAt w 31))
  | 23 => .ok (.rlwnmx (fieldAt w 10 5) (fieldAt w 15 5) (fieldAt w 20 5) (fieldAt w 25 5) (fieldAt w 30 5) (flagAt w 31))
  | 34 => .ok (.lbz (fieldAt w 10 5) (fieldAt w 15 5) (fieldAt w 31 16))
  | 35 => .ok (.lbzu (fieldAt w 10 5) (fieldAt w 15 5) (fieldAt w 31 16))
  | 40 => .ok (.lhz (fieldAt w 10 5) (fieldAt w 15 5) (fieldAt w 31 16))
  | 41 => .ok (.lhzu (fieldAt w 10 5) (fieldAt w 15 5) (fieldAt w 31 16))
  | 42 => .ok (.lha (fieldAt w 10 5) (fieldAt w 15 5) (fieldAt w 31 16))
  | 43 => .ok (.lhau (fieldAt w 10 5) (fieldAt w 15 5) (fieldAt w 31 16))
  | 32 => .ok (.lwz (fieldAt w 10 5) (fieldAt w 15 5) (fieldAt w 31 16))
  | 33 => .ok (.lwzu (fieldAt w 10 5) (fieldAt w 15 5) (fieldAt w 31 16))
  | 38 => .ok (.stb (fieldAt w 10 5) (fieldAt w 15 5) (fieldAt w 31 16))
  | 39 => .ok (.stbu (fieldAt w 10 5) (fieldAt w 15 5) (fieldAt w 31 16))
  | 44 => .ok (.sth (fieldAt w 10 5) (fieldAt w 15 5) (fieldAt w 31 16))
  | 45 => .ok (.sthu (fieldAt w 10 5) (fieldAt w 15 5) (fieldAt w 31 16))
  | 36 => .ok (.stw (fieldAt w 10 5) (fieldAt w 15 5) (fieldAt w 31 16))
  | 37 => .ok (.stwu (fieldAt w 10 5) (fieldAt w 15 5) (fieldAt w 31 16))
  | 46 => .ok (.lmw (fieldAt w 10 5) (fieldAt w 15 5) (fieldAt w 31 16))
  | 47 => .ok (.stmw (fieldAt w 10 5) (fieldAt w 15 5) (fieldAt w 31 16))
  | 48 => .ok (.lfs (fieldAt w 10 5) (fieldAt w 15 5) (fieldAt w 31 16))
  | 49 => .ok (.lfsu (fieldAt w 10 5) (fieldAt w 15 5) (fieldAt w 31 16))
  | 50 => .ok (.lfd (fieldAt w 10 5) (fieldAt w 15 5) (fieldAt w 31 16))
  | 51 => .ok (.lfdu (fieldAt w 10 5) (fieldAt w 15 5) (fieldAt w 31 16))
  | 52 => .ok (.stfs (fieldAt w 10 5) (fieldAt w 15 5) (fieldAt w 31 16))
  | 53 => .ok (.stfsu (fieldAt w 10 5) (fieldAt w 15 5) (fieldAt w 31 16))
  | 54 => .ok (.stfd (fieldAt w 10 5) (fieldAt w 15 5) (fieldAt w 31 16))
  | 55 => .ok (.stfdu (fieldAt w 10 5) (fieldAt w 15 5) (fieldAt w 31 16))
  | 18 => .ok (.bx (fieldAt w 29 24) (flagAt w 30) (flagAt w 31))
  | 16 => .ok (.bcx (fieldAt w 10 5) (fieldAt w 15 5) (fieldAt w 29 14) (flagAt w 30) (flagAt w 31))
  | 17 => guarded (holdsAt w 31 26 2) .sc
  | 3 => .ok (.twi (fieldAt w 10 5) (fieldAt w 15 5) (fieldAt w 31 16))
  | 19 => decodeBranchGroup w
  | 31 => decodeIntegerGroup w
  | 59 => decodeSingleGroup w
  | 63 => decodeDoubleGroup w
  | _ => .error .illegal

/-- The instruction of a 32-bit word: its row (R137), refused if it is an invalid form of R151. -/
def decodeWord (w : Nat) : Except DecodeError Instr :=
  match decodeRow w with
  | .ok i => if i.wellFormed then .ok i else .error .invalidForm
  | .error e => .error e

/-- Four bytes as instruction fetch reads them, the byte at the lowest address most significant (20_memory.md R82). -/
def decodeBytes (b0 b1 b2 b3 : Byte) : Except DecodeError Instr :=
  decodeWord (b0.toNat * 2 ^ 24 + b1.toNat * 2 ^ 16 + b2.toNat * 2 ^ 8 + b3.toNat)

/-- What the decoder reads from the bits `w` of an instruction, laid out in memory most significant byte first
(R82, R120: every instruction has 32 bits). -/
def decodeTableWord (_nbits w : Nat) : Option Instr :=
  match decodeBytes (BitVec.ofNat 8 (w / 2 ^ 24)) (BitVec.ofNat 8 (w / 2 ^ 16)) (BitVec.ofNat 8 (w / 2 ^ 8))
      (BitVec.ofNat 8 w) with
  | .ok i => some i
  | .error _ => none

/-- A field of an encoded word, at its place (R121). -/
def put {n : Nat} (v : BitVec n) (last : Nat) : Nat := v.toNat * 2 ^ (31 - last)

/-- A one-bit field of an encoded word (R143). -/
def putFlag (v : Bool) (n : Nat) : Nat := v.toNat * 2 ^ (31 - n)

/-- The split fields `spr` and `tbr` of an encoded word (R11). -/
def putSplit (v : BitVec 10) : Nat := v.toNat % 32 * 2 ^ 16 + v.toNat / 32 * 2 ^ 11

/-- An extended opcode of an encoded word: it ends at bit 30 (R121). -/
def putXo (xo : Nat) : Nat := xo * 2

/-- A word from its primary opcode and its fields, each already at its place (R120, R121). -/
def assemble (op : Nat) (fields : List Nat) : Nat := op * 2 ^ 26 + fields.sum

/-- The word of an instruction: the opcode, the extended opcode and the fields at their places, reserved bits 0
(R121 to R142). -/
def encodeNat (i : Instr) : Nat :=
  match i with
  | .addi d a simm => assemble 14 [put d 10, put a 15, put simm 31]
  | .addis d a simm => assemble 15 [put d 10, put a 15, put simm 31]
  | .addic d a simm => assemble 12 [put d 10, put a 15, put simm 31]
  | .addic_rc d a simm => assemble 13 [put d 10, put a 15, put simm 31]
  | .subfic d a simm => assemble 8 [put d 10, put a 15, put simm 31]
  | .mulli d a simm => assemble 7 [put d 10, put a 15, put simm 31]
  | .addx d a b oe rc => assemble 31 [put d 10, put a 15, put b 20, putFlag oe 21, putXo 266, putFlag rc 31]
  | .addcx d a b oe rc => assemble 31 [put d 10, put a 15, put b 20, putFlag oe 21, putXo 10, putFlag rc 31]
  | .addex d a b oe rc => assemble 31 [put d 10, put a 15, put b 20, putFlag oe 21, putXo 138, putFlag rc 31]
  | .addmex d a oe rc => assemble 31 [put d 10, put a 15, putFlag oe 21, putXo 234, putFlag rc 31]
  | .addzex d a oe rc => assemble 31 [put d 10, put a 15, putFlag oe 21, putXo 202, putFlag rc 31]
  | .subfx d a b oe rc => assemble 31 [put d 10, put a 15, put b 20, putFlag oe 21, putXo 40, putFlag rc 31]
  | .subfcx d a b oe rc => assemble 31 [put d 10, put a 15, put b 20, putFlag oe 21, putXo 8, putFlag rc 31]
  | .subfex d a b oe rc => assemble 31 [put d 10, put a 15, put b 20, putFlag oe 21, putXo 136, putFlag rc 31]
  | .subfmex d a oe rc => assemble 31 [put d 10, put a 15, putFlag oe 21, putXo 232, putFlag rc 31]
  | .subfzex d a oe rc => assemble 31 [put d 10, put a 15, putFlag oe 21, putXo 200, putFlag rc 31]
  | .negx d a oe rc => assemble 31 [put d 10, put a 15, putFlag oe 21, putXo 104, putFlag rc 31]
  | .mullwx d a b oe rc => assemble 31 [put d 10, put a 15, put b 20, putFlag oe 21, putXo 235, putFlag rc 31]
  | .divwx d a b oe rc => assemble 31 [put d 10, put a 15, put b 20, putFlag oe 21, putXo 491, putFlag rc 31]
  | .divwux d a b oe rc => assemble 31 [put d 10, put a 15, put b 20, putFlag oe 21, putXo 459, putFlag rc 31]
  | .mulhwx d a b rc => assemble 31 [put d 10, put a 15, put b 20, putXo 75, putFlag rc 31]
  | .mulhwux d a b rc => assemble 31 [put d 10, put a 15, put b 20, putXo 11, putFlag rc 31]
  | .cmpi crfD a simm => assemble 11 [put crfD 8, put a 15, put simm 31]
  | .cmp crfD a b => assemble 31 [put crfD 8, put a 15, put b 20]
  | .cmpli crfD a uimm => assemble 10 [put crfD 8, put a 15, put uimm 31]
  | .cmpl crfD a b => assemble 31 [put crfD 8, put a 15, put b 20, putXo 32]
  | .andi_rc src a uimm => assemble 28 [put src 10, put a 15, put uimm 31]
  | .andis_rc src a uimm => assemble 29 [put src 10, put a 15, put uimm 31]
  | .ori src a uimm => assemble 24 [put src 10, put a 15, put uimm 31]
  | .oris src a uimm => assemble 25 [put src 10, put a 15, put uimm 31]
  | .xori src a uimm => assemble 26 [put src 10, put a 15, put uimm 31]
  | .xoris src a uimm => assemble 27 [put src 10, put a 15, put uimm 31]
  | .andx src a b rc => assemble 31 [put src 10, put a 15, put b 20, putXo 28, putFlag rc 31]
  | .andcx src a b rc => assemble 31 [put src 10, put a 15, put b 20, putXo 60, putFlag rc 31]
  | .orx src a b rc => assemble 31 [put src 10, put a 15, put b 20, putXo 444, putFlag rc 31]
  | .orcx src a b rc => assemble 31 [put src 10, put a 15, put b 20, putXo 412, putFlag rc 31]
  | .xorx src a b rc => assemble 31 [put src 10, put a 15, put b 20, putXo 316, putFlag rc 31]
  | .nandx src a b rc => assemble 31 [put src 10, put a 15, put b 20, putXo 476, putFlag rc 31]
  | .norx src a b rc => assemble 31 [put src 10, put a 15, put b 20, putXo 124, putFlag rc 31]
  | .eqvx src a b rc => assemble 31 [put src 10, put a 15, put b 20, putXo 284, putFlag rc 31]
  | .extsbx src a rc => assemble 31 [put src 10, put a 15, putXo 954, putFlag rc 31]
  | .extshx src a rc => assemble 31 [put src 10, put a 15, putXo 922, putFlag rc 31]
  | .cntlzwx src a rc => assemble 31 [put src 10, put a 15, putXo 26, putFlag rc 31]
  | .rlwinmx src a sh mb me rc => assemble 21 [put src 10, put a 15, put sh 20, put mb 25, put me 30, putFlag rc 31]
  | .rlwimix src a sh mb me rc => assemble 20 [put src 10, put a 15, put sh 20, put mb 25, put me 30, putFlag rc 31]
  | .rlwnmx src a b mb me rc => assemble 23 [put src 10, put a 15, put b 20, put mb 25, put me 30, putFlag rc 31]
  | .slwx src a b rc => assemble 31 [put src 10, put a 15, put b 20, putXo 24, putFlag rc 31]
  | .srwx src a b rc => assemble 31 [put src 10, put a 15, put b 20, putXo 536, putFlag rc 31]
  | .srawx src a b rc => assemble 31 [put src 10, put a 15, put b 20, putXo 792, putFlag rc 31]
  | .srawix src a sh rc => assemble 31 [put src 10, put a 15, put sh 20, putXo 824, putFlag rc 31]
  | .faddx d a b rc => assemble 63 [put d 10, put a 15, put b 20, putXo 21, putFlag rc 31]
  | .faddsx d a b rc => assemble 59 [put d 10, put a 15, put b 20, putXo 21, putFlag rc 31]
  | .fsubx d a b rc => assemble 63 [put d 10, put a 15, put b 20, putXo 20, putFlag rc 31]
  | .fsubsx d a b rc => assemble 59 [put d 10, put a 15, put b 20, putXo 20, putFlag rc 31]
  | .fdivx d a b rc => assemble 63 [put d 10, put a 15, put b 20, putXo 18, putFlag rc 31]
  | .fdivsx d a b rc => assemble 59 [put d 10, put a 15, put b 20, putXo 18, putFlag rc 31]
  | .fmulx d a c rc => assemble 63 [put d 10, put a 15, putXo 25, put c 25, putFlag rc 31]
  | .fmulsx d a c rc => assemble 59 [put d 10, put a 15, putXo 25, put c 25, putFlag rc 31]
  | .fresx d b rc => assemble 59 [put d 10, put b 20, putXo 24, putFlag rc 31]
  | .frsqrtex d b rc => assemble 63 [put d 10, put b 20, putXo 26, putFlag rc 31]
  | .fselx d a b c rc => assemble 63 [put d 10, put a 15, put b 20, putXo 23, put c 25, putFlag rc 31]
  | .fmaddx d a b c rc => assemble 63 [put d 10, put a 15, put b 20, putXo 29, put c 25, putFlag rc 31]
  | .fmaddsx d a b c rc => assemble 59 [put d 10, put a 15, put b 20, putXo 29, put c 25, putFlag rc 31]
  | .fmsubx d a b c rc => assemble 63 [put d 10, put a 15, put b 20, putXo 28, put c 25, putFlag rc 31]
  | .fmsubsx d a b c rc => assemble 59 [put d 10, put a 15, put b 20, putXo 28, put c 25, putFlag rc 31]
  | .fnmaddx d a b c rc => assemble 63 [put d 10, put a 15, put b 20, putXo 31, put c 25, putFlag rc 31]
  | .fnmaddsx d a b c rc => assemble 59 [put d 10, put a 15, put b 20, putXo 31, put c 25, putFlag rc 31]
  | .fnmsubx d a b c rc => assemble 63 [put d 10, put a 15, put b 20, putXo 30, put c 25, putFlag rc 31]
  | .fnmsubsx d a b c rc => assemble 59 [put d 10, put a 15, put b 20, putXo 30, put c 25, putFlag rc 31]
  | .frspx d b rc => assemble 63 [put d 10, put b 20, putXo 12, putFlag rc 31]
  | .fctiwx d b rc => assemble 63 [put d 10, put b 20, putXo 14, putFlag rc 31]
  | .fctiwzx d b rc => assemble 63 [put d 10, put b 20, putXo 15, putFlag rc 31]
  | .fcmpu crfD a b => assemble 63 [put crfD 8, put a 15, put b 20]
  | .fcmpo crfD a b => assemble 63 [put crfD 8, put a 15, put b 20, putXo 32]
  | .mffsx d rc => assemble 63 [put d 10, putXo 583, putFlag rc 31]
  | .mcrfs crfD crfS => assemble 63 [put crfD 8, put crfS 13, putXo 64]
  | .mtfsfix crfD imm rc => assemble 63 [put crfD 8, put imm 19, putXo 134, putFlag rc 31]
  | .mtfsfx fm b rc => assemble 63 [put fm 14, put b 20, putXo 711, putFlag rc 31]
  | .mtfsb0x crbD rc => assemble 63 [put crbD 10, putXo 70, putFlag rc 31]
  | .mtfsb1x crbD rc => assemble 63 [put crbD 10, putXo 38, putFlag rc 31]
  | .fmrx d b rc => assemble 63 [put d 10, put b 20, putXo 72, putFlag rc 31]
  | .fnegx d b rc => assemble 63 [put d 10, put b 20, putXo 40, putFlag rc 31]
  | .fabsx d b rc => assemble 63 [put d 10, put b 20, putXo 264, putFlag rc 31]
  | .fnabsx d b rc => assemble 63 [put d 10, put b 20, putXo 136, putFlag rc 31]
  | .lbz d a disp => assemble 34 [put d 10, put a 15, put disp 31]
  | .lbzu d a disp => assemble 35 [put d 10, put a 15, put disp 31]
  | .lbzx d a b => assemble 31 [put d 10, put a 15, put b 20, putXo 87]
  | .lbzux d a b => assemble 31 [put d 10, put a 15, put b 20, putXo 119]
  | .lhz d a disp => assemble 40 [put d 10, put a 15, put disp 31]
  | .lhzu d a disp => assemble 41 [put d 10, put a 15, put disp 31]
  | .lhzx d a b => assemble 31 [put d 10, put a 15, put b 20, putXo 279]
  | .lhzux d a b => assemble 31 [put d 10, put a 15, put b 20, putXo 311]
  | .lha d a disp => assemble 42 [put d 10, put a 15, put disp 31]
  | .lhau d a disp => assemble 43 [put d 10, put a 15, put disp 31]
  | .lhax d a b => assemble 31 [put d 10, put a 15, put b 20, putXo 343]
  | .lhaux d a b => assemble 31 [put d 10, put a 15, put b 20, putXo 375]
  | .lwz d a disp => assemble 32 [put d 10, put a 15, put disp 31]
  | .lwzu d a disp => assemble 33 [put d 10, put a 15, put disp 31]
  | .lwzx d a b => assemble 31 [put d 10, put a 15, put b 20, putXo 23]
  | .lwzux d a b => assemble 31 [put d 10, put a 15, put b 20, putXo 55]
  | .stb src a disp => assemble 38 [put src 10, put a 15, put disp 31]
  | .stbu src a disp => assemble 39 [put src 10, put a 15, put disp 31]
  | .stbx src a b => assemble 31 [put src 10, put a 15, put b 20, putXo 215]
  | .stbux src a b => assemble 31 [put src 10, put a 15, put b 20, putXo 247]
  | .sth src a disp => assemble 44 [put src 10, put a 15, put disp 31]
  | .sthu src a disp => assemble 45 [put src 10, put a 15, put disp 31]
  | .sthx src a b => assemble 31 [put src 10, put a 15, put b 20, putXo 407]
  | .sthux src a b => assemble 31 [put src 10, put a 15, put b 20, putXo 439]
  | .stw src a disp => assemble 36 [put src 10, put a 15, put disp 31]
  | .stwu src a disp => assemble 37 [put src 10, put a 15, put disp 31]
  | .stwx src a b => assemble 31 [put src 10, put a 15, put b 20, putXo 151]
  | .stwux src a b => assemble 31 [put src 10, put a 15, put b 20, putXo 183]
  | .lhbrx d a b => assemble 31 [put d 10, put a 15, put b 20, putXo 790]
  | .lwbrx d a b => assemble 31 [put d 10, put a 15, put b 20, putXo 534]
  | .sthbrx src a b => assemble 31 [put src 10, put a 15, put b 20, putXo 918]
  | .stwbrx src a b => assemble 31 [put src 10, put a 15, put b 20, putXo 662]
  | .lmw d a disp => assemble 46 [put d 10, put a 15, put disp 31]
  | .stmw src a disp => assemble 47 [put src 10, put a 15, put disp 31]
  | .lswi d a nb => assemble 31 [put d 10, put a 15, put nb 20, putXo 597]
  | .lswx d a b => assemble 31 [put d 10, put a 15, put b 20, putXo 533]
  | .stswi src a nb => assemble 31 [put src 10, put a 15, put nb 20, putXo 725]
  | .stswx src a b => assemble 31 [put src 10, put a 15, put b 20, putXo 661]
  | .lwarx d a b => assemble 31 [put d 10, put a 15, put b 20, putXo 20]
  | .stwcx_rc src a b => assemble 31 [put src 10, put a 15, put b 20, putXo 150, 1]
  | .sync => assemble 31 [putXo 598]
  | .eieio => assemble 31 [putXo 854]
  | .isync => assemble 19 [putXo 150]
  | .lfs d a disp => assemble 48 [put d 10, put a 15, put disp 31]
  | .lfsu d a disp => assemble 49 [put d 10, put a 15, put disp 31]
  | .lfsx d a b => assemble 31 [put d 10, put a 15, put b 20, putXo 535]
  | .lfsux d a b => assemble 31 [put d 10, put a 15, put b 20, putXo 567]
  | .lfd d a disp => assemble 50 [put d 10, put a 15, put disp 31]
  | .lfdu d a disp => assemble 51 [put d 10, put a 15, put disp 31]
  | .lfdx d a b => assemble 31 [put d 10, put a 15, put b 20, putXo 599]
  | .lfdux d a b => assemble 31 [put d 10, put a 15, put b 20, putXo 631]
  | .stfs src a disp => assemble 52 [put src 10, put a 15, put disp 31]
  | .stfsu src a disp => assemble 53 [put src 10, put a 15, put disp 31]
  | .stfsx src a b => assemble 31 [put src 10, put a 15, put b 20, putXo 663]
  | .stfsux src a b => assemble 31 [put src 10, put a 15, put b 20, putXo 695]
  | .stfd src a disp => assemble 54 [put src 10, put a 15, put disp 31]
  | .stfdu src a disp => assemble 55 [put src 10, put a 15, put disp 31]
  | .stfdx src a b => assemble 31 [put src 10, put a 15, put b 20, putXo 727]
  | .stfdux src a b => assemble 31 [put src 10, put a 15, put b 20, putXo 759]
  | .stfiwx src a b => assemble 31 [put src 10, put a 15, put b 20, putXo 983]
  | .bx li aa lk => assemble 18 [put li 29, putFlag aa 30, putFlag lk 31]
  | .bcx bo bi bd aa lk => assemble 16 [put bo 10, put bi 15, put bd 29, putFlag aa 30, putFlag lk 31]
  | .bclrx bo bi lk => assemble 19 [put bo 10, put bi 15, putXo 16, putFlag lk 31]
  | .bcctrx bo bi lk => assemble 19 [put bo 10, put bi 15, putXo 528, putFlag lk 31]
  | .crand crbD crbA crbB => assemble 19 [put crbD 10, put crbA 15, put crbB 20, putXo 257]
  | .crandc crbD crbA crbB => assemble 19 [put crbD 10, put crbA 15, put crbB 20, putXo 129]
  | .creqv crbD crbA crbB => assemble 19 [put crbD 10, put crbA 15, put crbB 20, putXo 289]
  | .crnand crbD crbA crbB => assemble 19 [put crbD 10, put crbA 15, put crbB 20, putXo 225]
  | .crnor crbD crbA crbB => assemble 19 [put crbD 10, put crbA 15, put crbB 20, putXo 33]
  | .cror crbD crbA crbB => assemble 19 [put crbD 10, put crbA 15, put crbB 20, putXo 449]
  | .crorc crbD crbA crbB => assemble 19 [put crbD 10, put crbA 15, put crbB 20, putXo 417]
  | .crxor crbD crbA crbB => assemble 19 [put crbD 10, put crbA 15, put crbB 20, putXo 193]
  | .mcrf crfD crfS => assemble 19 [put crfD 8, put crfS 13]
  | .sc => assemble 17 [2]
  | .rfi => assemble 19 [putXo 50]
  | .tw trapOn a b => assemble 31 [put trapOn 10, put a 15, put b 20, putXo 4]
  | .twi trapOn a simm => assemble 3 [put trapOn 10, put a 15, put simm 31]
  | .mcrxr crfD => assemble 31 [put crfD 8, putXo 512]
  | .mfcr d => assemble 31 [put d 10, putXo 19]
  | .mtcrf src crm => assemble 31 [put src 10, put crm 19, putXo 144]
  | .mfmsr d => assemble 31 [put d 10, putXo 83]
  | .mtmsr src => assemble 31 [put src 10, putXo 146]
  | .mfspr d spr => assemble 31 [put d 10, putSplit spr, putXo 339]
  | .mtspr src spr => assemble 31 [put src 10, putSplit spr, putXo 467]
  | .mftb d tbr => assemble 31 [put d 10, putSplit tbr, putXo 371]
  | .dcbf a b => assemble 31 [put a 15, put b 20, putXo 86]
  | .dcbi a b => assemble 31 [put a 15, put b 20, putXo 470]
  | .dcbst a b => assemble 31 [put a 15, put b 20, putXo 54]
  | .dcbt a b => assemble 31 [put a 15, put b 20, putXo 278]
  | .dcbtst a b => assemble 31 [put a 15, put b 20, putXo 246]
  | .dcbz a b => assemble 31 [put a 15, put b 20, putXo 1014]
  | .icbi a b => assemble 31 [put a 15, put b 20, putXo 982]
  | .mfsr d sr => assemble 31 [put d 10, put sr 15, putXo 595]
  | .mfsrin d b => assemble 31 [put d 10, put b 20, putXo 659]
  | .mtsr src sr => assemble 31 [put src 10, put sr 15, putXo 210]
  | .mtsrin src b => assemble 31 [put src 10, put b 20, putXo 242]
  | .tlbie b => assemble 31 [put b 20, putXo 306]
  | .tlbsync => assemble 31 [putXo 566]
  | .tlbsync_b31 => assemble 31 [putXo 598, 1]
  | .eciwx d a b => assemble 31 [put d 10, put a 15, put b 20, putXo 310]
  | .ecowx src a b => assemble 31 [put src 10, put a 15, put b 20, putXo 438]

/-- The encoding of an instruction as a word. -/
def encode (i : Instr) : Word := BitVec.ofNat 32 (encodeNat i)

/-- The four bytes of an encoded instruction in the order of their addresses (R82). -/
def encodeBytes (i : Instr) : List Byte :=
  [BitVec.ofNat 8 (encodeNat i / 2 ^ 24), BitVec.ofNat 8 (encodeNat i / 2 ^ 16), BitVec.ofNat 8 (encodeNat i / 2 ^ 8),
    BitVec.ofNat 8 (encodeNat i)]

end Sys2Proof
end

