-- ==== Sys2Proof/Machine/Bits.lean ====
section
/-! DEFINITION. Bit fields in the PowerPC numbering, bit 0 the most significant (00_scope.md R9, R10), bytes in big-endian order (20_memory.md R80), and the masks of 42_integer_rotate_shift.md R230. -/

namespace Sys2Proof.Machine

/-- Bit `i` of a value, counted from the left (R9). -/
def bit {n : Nat} (v : BitVec n) (i : Nat) : Bool := v.getMsbD i

/-- `w[first:last]` of a 32-bit value (R9). -/
def field (w : Word) (first last : Nat) : BitVec (last + 1 - first) := (w >>> (31 - last)).setWidth _

/-- The 32-bit value whose only one is bit `i` (R10). -/
def bitMask (i : Nat) : Word := (1 : Word) <<< (31 - i)

/-- `w` with bit `i` set to `b`. -/
def writeBit (w : Word) (i : Nat) (b : Bool) : Word :=
  if b then w ||| bitMask i else w &&& ~~~(bitMask i)

/-- The field of `n` bits that ends at bit `last`, as a mask. -/
def fieldMask (last n : Nat) : Word := ((BitVec.allOnes n).setWidth 32) <<< (31 - last)

/-- `w` with the `n`-bit field that ends at bit `last` replaced by `v`. -/
def writeField {n : Nat} (w : Word) (last : Nat) (v : BitVec n) : Word :=
  (w &&& ~~~(fieldMask last n)) ||| (v.setWidth 32 <<< (31 - last))

/-- The bits of `mask` taken from `new`, the others from `old`. -/
def merge (mask old new : Word) : Word := (new &&& mask) ||| (old &&& ~~~mask)

/-- The bytes of a word that four bits select, the first bit the most significant byte. -/
def byteMask (m : BitVec 4) : Word :=
  let byte (i : Nat) : Byte := if bit m i then 0xFF else 0
  byte 0 ++ byte 1 ++ byte 2 ++ byte 3

/-- An address with its low two bits forced to 0 (10_state.md R30). -/
def wordAligned (a : Word) : Word := a &&& ~~~(3 : Word)

/-- A Boolean as a one-bit field. -/
def ofFlag (b : Bool) : BitVec 1 := BitVec.ofBool b

/-- The `n` bytes of `v`, most significant first (R80). -/
def bytesOf : (n : Nat) → (v : Nat) → List Byte
  | 0, _ => []
  | n + 1, v => BitVec.ofNat 8 (v / 256 ^ n) :: bytesOf n v

/-- The number whose bytes, most significant first, are given (R80). -/
def natOf (bytes : List Byte) : Nat := bytes.foldl (fun acc b => acc * 256 + b.toNat) 0

/-- `MASK(mb, me)` of R230: ones from bit `mb` through bit `me`, wrapping past bit 31 when `mb > me`. -/
def maskBits (mb me : BitVec 5) : Word :=
  let fromStart := BitVec.allOnes 32 >>> mb.toNat
  let toEnd := BitVec.allOnes 32 <<< (31 - me.toNat)
  if mb.toNat ≤ me.toNat then fromStart &&& toEnd else fromStart ||| toEnd

end Sys2Proof.Machine
end

