-- ==== Sys2Proof/Config.lean ====
section
/-! DEFINITION. What an implementation or the platform fixes and what the spec leaves open (00_scope.md R8): named constants, and free values as opaque constants about which nothing can be proved. -/

namespace Sys2Proof

/-- What a floating-point arithmetic rule computes before FPSCR is updated (43_floating_point.md R242 to R250):
the register value (`none`: the target is not written), FPRF (`none`: unchanged), FR, FI, and the sticky exception
bits raised, as an FPSCR mask. -/
structure FpOutcome where
  value : Option Dword
  fprf : Option (BitVec 5)
  fr : Bool
  fi : Bool
  raised : Word
  deriving DecidableEq, Repr, Inhabited

/-- UNDEFINED_DRAW of R8: `undefinedBits n k` is the `k`-th fresh arbitrary `n`-bit value of a run
(93_implementation_defined.md U18, U20, U21; log 9). -/
opaque Config.undefinedBits (n k : Nat) : BitVec n

/-- MISALIGNED_POLICY of R8 (20_memory.md R88 b, D3, U5): whether this misaligned access of this instruction word
at this effective address takes the alignment exception (`true`) or is split into byte accesses (`false`); log 11. -/
opaque Config.misalignedTraps (insn ea : Word) : Bool

/-- FP_ESTIMATE.fres of R8 (43_floating_point.md R259, U17): a candidate significand and exponent of an estimate of
the reciprocal of a finite nonzero operand; used only if it keeps the bound of R259 (log 14). -/
opaque Config.fresEstimate (b : Dword) : Nat × Int

/-- FP_ESTIMATE.frsqrte of R8 (43_floating_point.md R260, U17): a candidate double; used only if it keeps the bound
of R260 (log 14). -/
opaque Config.frsqrteEstimate (b : Dword) : Dword

/-- The binding of U10: what an arithmetic result becomes when FPSCR[NI] = 1 (43_floating_point.md R286; log 15). -/
opaque Config.nonIeee (fpscr : Word) (o : FpOutcome) : FpOutcome

/-- Whether a DABR whose BT bit is 1 can match while data translation is off: no rule says (10_state.md R44; log 16). -/
opaque Config.dabrMatchesWithBT : Bool

/-- Whether the machine is a uniprocessor, on which `isync` also serves as the fourth step of the code-modification
sequence (20_memory.md R112; D8 names `sync` alone; log 53). -/
opaque Config.uniprocessor : Bool

/-- CACHE_BLOCK of R8 (20_memory.md R113): bytes zeroed by `dcbz` and named by the cache instructions. -/
def Config.cacheBlock : Nat := 32

/-- PVR_VALUE of R8 (10_state.md R41, D20): PRESUMED, the 604's version field with revision 0 (log 2; it could be
wrong for a given mask set: unsafe). -/
def Config.pvrValue : Word := 0x00040000

/-- What an unlisted byte of memory reads as: DESIGN CHOICE, the spec leaves memory unspecified after reset
(10_state.md R75; log 4; unsafe). -/
def Config.unlistedByte : Byte := 0

end Sys2Proof
end

