-- ==== Sys2Proof/Machine/State.lean ====
section
/-! DEFINITION. The state of the machine (10_state.md), the reasons a step stops, and the state after HRESET (10_state.md R75, 70_reset_and_hazards.md R580, R583). Every piece the spec names is a field; the fields after `mem` are the model's own and carry the open parameters of 00_scope.md R8. -/

namespace Sys2Proof.Machine

/-- The exceptions of the vector table (60_exceptions.md R500) that this real-mode machine can take. ISI and
floating-point assist are never raised (R504, R513). -/
inductive ExceptionKind where
  | systemReset
  | machineCheck
  | dsi
  | external
  | alignment
  | program
  | fpUnavailable
  | decrementer
  | systemCall
  | trace
  | performanceMonitor
  | instructionBreakpoint
  | systemManagement
  deriving DecidableEq, Repr

/-- The inputs that cause a machine check (60_exceptions.md R502, R520). -/
inductive MachineCheckSource where
  | mcpPin
  | transferError
  | dataParity
  | addressParity
  deriving DecidableEq, Repr

/-- The two classes of MEM_MAP (20_memory.md R93). -/
inductive MemKind where
  | ram
  | device
  deriving DecidableEq, Repr

/-- A region of MEM_MAP: `size` bytes from `base` on (20_memory.md R93, R95). -/
structure Region where
  base : Nat
  size : Nat
  kind : MemKind
  deriving DecidableEq, Repr

/-- How far the sequence of 20_memory.md R112 has come for a store: stored; its block written to memory by `dcbst` or
`dcbf`; that made complete by `sync`; its instruction-cache block invalidated by `icbi`; that made complete by `sync`, or
by `isync` on a uniprocessor. -/
inductive StaleStage where
  | stored
  | written
  | writtenSynced
  | invalidated
  | invalidatedSynced
  deriving DecidableEq, Repr

/-- A word as it was before a store, which instruction fetch may still see at its address although memory no longer holds
it, and how far the sequence of R112 has come for that store. Fetch sees any mixture of its bytes and those of `blend`: of an
atomic store `blend` is the word itself, so that fetch sees it whole (R91); of a store that promises no more than the
visibility of each byte it is the word that the store left (48_cache_segment_tlb_external.md R456). `own` says that this processor stored, so that the sequence up to the last `isync` is this processor's to
run (R112, D8). -/
structure StaleWord where
  addr : Nat
  word : Word
  blend : Word
  stage : StaleStage
  own : Bool
  deriving DecidableEq, Repr

/-- An access that the platform sees (20_memory.md R93; 48_cache_segment_tlb_external.md R470, R471). -/
inductive BusEvent where
  | deviceRead (addr : Word) (bytes : Nat)
  | deviceWrite (addr : Word) (data : List Byte)
  | externalIn (resource : BitVec 6) (addr : Word)
  | externalOut (resource : BitVec 6) (addr data : Word)
  deriving DecidableEq, Repr

/-- What the performance monitor samples of a load or store: the address of the instruction and the effective address of
its operand (R54, R55, R552). -/
structure Sample where
  insn : Word
  operand : Word
  deriving DecidableEq, Repr

/-- What the event oracle supplies for one performance-monitor cycle (60_exceptions.md R548): the counts of the
selected events; the miss of the kind the selected threshold event counts that arrives in its queue, by its place among the
loads and stores executed, the last one 0, and whether the monitored miss ends in this cycle (R550); the two addresses
of R552 (c). -/
structure MonitorCycle where
  count1 : Nat
  count2 : Nat
  missArrives : Option Nat
  missEnds : Bool
  someInsn : Word
  someOperand : Word
  deriving DecidableEq, Repr

/-- How a performance counter became negative (R552): by counting, by counting the miss of this load or store as a
threshold event, or by `mtspr` (R592 a). -/
inductive NegativeCause where
  | counted
  | threshold (m : Sample)
  | written
  deriving DecidableEq, Repr

/-- One step of an agent (70_reset_and_hazards.md R605): the processor, the timers, the performance monitor, another
bus master, or a pin. -/
inductive EnvStep where
  | processor
  | timerTick
  | monitorCycle (oracle : MonitorCycle)
  | otherStore (addr : Word) (data : List Byte)
  | otherKill (addr : Word)
  | reservationLost
  | codePublished (addr : Word)
  | intPin (level : Bool)
  | smiPin (level : Bool)
  | tbenPin (level : Bool)
  | hresetPin (asserted : Bool)
  | sreset
  | checkstopIn
  | machineCheck (source : MachineCheckSource)
  deriving DecidableEq, Repr

/-- The state of the machine. -/
structure State where
  /-- GPR0 to GPR31 (R21). -/
  gpr : Vector Word 32
  /-- FPR0 to FPR31 (R23). -/
  fpr : Vector Dword 32
  /-- Condition register (R24). -/
  cr : Word
  /-- XER: SO, OV, CA and the string byte count (R27). -/
  xer : Word
  /-- Link register (R28). -/
  lr : Word
  /-- Count register (R29). -/
  ctr : Word
  /-- The address of the instruction to execute (R30). -/
  pc : Word
  /-- Floating-point status and control register (R32, R33). -/
  fpscr : Word
  /-- Machine state register (R34). -/
  msr : Word
  /-- Saved pc (R36). -/
  srr0 : Word
  /-- Saved status (R36). -/
  srr1 : Word
  /-- Data address register (R37). -/
  dar : Word
  /-- Data storage interrupt status register (R37). -/
  dsisr : Word
  /-- SPRG0 to SPRG3 (R38). -/
  sprg : Vector Word 4
  /-- Decrementer (R39, R57). -/
  dec : Word
  /-- Time base, TBU in bits 0:31 and TBL in bits 32:63 (R40). -/
  tb : BitVec 64
  /-- Processor version register, read only (R41). -/
  pvr : Word
  /-- Processor identification register (R42). -/
  pir : Word
  /-- Hardware implementation register 0; bit 0 is EMCP (R43). -/
  hid0 : Word
  /-- Instruction address breakpoint register (R44). -/
  iabr : Word
  /-- Data address breakpoint register (R44). -/
  dabr : Word
  /-- External access register (R45). -/
  ear : Word
  /-- Page table base, storage only (R46). -/
  sdr1 : Word
  /-- IBAT0U, IBAT0L, ..., IBAT3L, DBAT0U, ..., DBAT3L: SPR 528 to 543, storage only (R46, R47). -/
  bat : Vector Word 16
  /-- SR0 to SR15, storage only (R46). -/
  sr : Vector Word 16
  /-- Monitor mode control register 0 (R50, R51). -/
  mmcr0 : Word
  /-- Performance counter 1 (R53). -/
  pmc1 : Word
  /-- Performance counter 2 (R53). -/
  pmc2 : Word
  /-- Sampled instruction address (R54). -/
  sia : Word
  /-- Sampled data address (R55). -/
  sda : Word
  /-- Threshold shadow register (R58). -/
  thresholdShadow : BitVec 6
  /-- The marked load or store whose miss is being timed and is neither counted nor ended (R550 a). -/
  marked : Option Sample
  /-- RESERVE, the reservation coherency bit, and the RSRV pin (R59). -/
  reserve : Bool
  /-- RESERVE_ADDR, the reserved 32-byte granule (R59). -/
  reserveAddr : BitVec 27
  /-- INT is asserted (R61, R70). -/
  intPin : Bool
  /-- SMI is asserted (R61, R70). -/
  smiPin : Bool
  /-- TBEN is asserted (R56, R70). -/
  tbenPin : Bool
  /-- HRESET is asserted (R70, R580). -/
  hresetPin : Bool
  /-- The decrementer latch (R57, R61). -/
  decPending : Bool
  /-- PMI_PENDING (R61). -/
  pmiPending : Bool
  /-- PM_SIGNALED (R61, R549). -/
  pmSignaled : Bool
  /-- A performance monitor interrupt has been signaled since HRESET: with it and MMCR0[ENINT] = 0 SIA and SDA are frozen,
  the frozen flag of R540 (R556 b). -/
  everSignaled : Bool
  /-- SRESET was given and not yet taken (R501, R581). -/
  sresetPending : Bool
  /-- Machine-check causes not yet taken, oldest first (R502). -/
  machineChecks : List MachineCheckSource
  /-- CHECKSTOP, and the CKSTP_OUT pin (R62, R520). -/
  checkstop : Bool
  /-- Memory: (address, byte) pairs, addresses rising, no byte equal to what an unlisted address reads as (R80). -/
  mem : List Host.Cell
  /-- The model's own: MEM_MAP of R8 (R93 to R95, D6); an address in no region is outside it. -/
  memMap : List Region
  /-- The model's own: what instruction fetch may still see, the word before the latest store first (R112, D8). -/
  stale : List StaleWord
  /-- The model's own: time-base bits that went from 0 to 1 since the last monitor cycle (R548 c). -/
  tbRose : BitVec 64
  /-- The model's own: the address of the last instruction completed since HRESET (R54, R552 b). -/
  lastCompleted : Option Word
  /-- The model's own: the loads and stores executed since HRESET, the last one first (R552 c). -/
  accesses : List Sample
  /-- The model's own: how PMC1 became negative (R552 a, d); it says nothing while PMC1 is not negative. -/
  pmc1Cause : NegativeCause
  /-- The model's own: how PMC2 became negative. -/
  pmc2Cause : NegativeCause
  /-- The model's own: device and external-control accesses, newest first (R93, R470), in program order (log 8). -/
  busLog : List BusEvent
  /-- The model's own: how many free values have been drawn (UNDEFINED_DRAW of R8). -/
  draws : Nat
  /-- The model's own: the agents that step next; when empty, the processor (R605). -/
  schedule : List EnvStep
  /-- The model's own: the exception the last step took (R512 asks whether there was one). -/
  taken : Option ExceptionKind
  deriving DecidableEq, Repr

/-- Why the machine has no step. -/
inductive Fault where
  /-- The processor is in the checkstop state and no HRESET is scheduled (R520 b, U26). Raised by the step. Safe: no
  state follows. -/
  | checkstop
  /-- HRESET is asserted and its negation is not scheduled (R580: the processor executes nothing). Raised by the step.
  Safe: no state follows. -/
  | heldInReset
  deriving DecidableEq, Repr

/-- Why the model gives a step no meaning. Each is safe: nothing is claimed about what follows. -/
inductive Refusal where
  /-- An instruction whose meaning the model does not have yet; raised by the dispatch only. -/
  | notModelled (mnemonic : String)
  /-- A state with MSR[LE] or MSR[ILE] set, or an instruction that would make one (D1). -/
  | littleEndian
  /-- A state with MSR[IR] or MSR[DR] set, or an instruction that would make one (D5, R96). -/
  | translation
  /-- A state with MSR[POW] set, or an instruction that would make one (D22, R525). -/
  | powerManagement
  /-- The fetched word matches a row but for its reserved bits (R152, R153, R155 b, D10). -/
  | reservedBits
  /-- An invalid form of R151 (D10). -/
  | invalidForm
  /-- A supervisor-mode `mfspr` or `mtspr` of a number the 604 does not implement (R48, D9). -/
  | sprNotImplemented
  /-- `mtspr` to PVR (R41, D20). -/
  | pvrReadOnly
  /-- A data access, a cache instruction or a fetch at an address outside MEM_MAP (R80, D6). -/
  | outsideMemMap
  /-- `lwarx` to a location that is not `ram` (D6). -/
  | lwarxNotRam
  deriving DecidableEq, Repr

/-- The machine right after HRESET is negated (R75, R580). The values the spec gives: pc, MSR, MMCR0, PMC1, PMC2, the
reservation and pending flags, CHECKSTOP. PVR is PVR_VALUE. Every other register is 0, a DESIGN CHOICE (log 1, unsafe:
the spec leaves it unspecified); memory lists nothing (log 4); MEM_MAP is one `ram` region (log 5). -/
def State.reset : State where
  gpr := Vector.replicate 32 0
  fpr := Vector.replicate 32 0
  cr := 0
  xer := 0
  lr := 0
  ctr := 0
  pc := 0xFFF00100
  fpscr := 0
  msr := 0x00000040
  srr0 := 0
  srr1 := 0
  dar := 0
  dsisr := 0
  sprg := Vector.replicate 4 0
  dec := 0
  tb := 0
  pvr := Config.pvrValue
  pir := 0
  hid0 := 0
  iabr := 0
  dabr := 0
  ear := 0
  sdr1 := 0
  bat := Vector.replicate 16 0
  sr := Vector.replicate 16 0
  mmcr0 := 0
  pmc1 := 0
  pmc2 := 0
  sia := 0
  sda := 0
  thresholdShadow := 0
  marked := none
  reserve := false
  reserveAddr := 0
  intPin := false
  smiPin := false
  tbenPin := false
  hresetPin := false
  decPending := false
  pmiPending := false
  pmSignaled := false
  everSignaled := false
  sresetPending := false
  machineChecks := []
  checkstop := false
  mem := []
  memMap := [⟨0, 2 ^ 32, .ram⟩]
  stale := []
  tbRose := 0
  lastCompleted := none
  accesses := []
  pmc1Cause := .counted
  pmc2Cause := .counted
  busLog := []
  draws := 0
  schedule := []
  taken := none

end Sys2Proof.Machine
end

