-- ==== Sys2Proof/Machine/Ops.lean ====
section
/-! DEFINITION. The named operations over registers, memory and exceptions that every meaning uses: register access, the canonical memory (20_memory.md R80), data access with alignment, breakpoints and MEM_MAP (R88, R93, 44_integer_load_store.md R301), instruction-fetch coherence (R112), taking an exception and returning from one (60_exceptions.md R510, 47_branch_cr_system.md R436). -/

namespace Sys2Proof.Machine

/-- What a step or a meaning answers. -/
abbrev Result := Host.Outcome State Fault Refusal

/-! ## Registers -/

/-- `r[i]` (R21). -/
def State.r (s : State) (i : BitVec 5) : Word := s.gpr[i.toNat]

/-- `r[i] <- v`. -/
def State.setR (s : State) (i : BitVec 5) (v : Word) : State := { s with gpr := s.gpr.set i.toNat v }

/-- `f[i]` (R23). -/
def State.f (s : State) (i : BitVec 5) : Dword := s.fpr[i.toNat]

/-- `f[i] <- v`. -/
def State.setF (s : State) (i : BitVec 5) (v : Dword) : State := { s with fpr := s.fpr.set i.toNat v }

/-- `(rA|0)` (R22). -/
def State.base (s : State) (a : BitVec 5) : Word := if a = 0 then 0 else s.r a

/-- The instruction ends: `pc <- pc + 4` (R31). -/
def State.advance (s : State) : State := { s with pc := s.pc + 4 }

/-- `pc <- target`, its low two bits forced to 0 (R30). -/
def State.goto (s : State) (target : Word) : State := { s with pc := wordAligned target }

/-- CR field `n` as `CR[4n : 4n+3]` (R24). -/
def crField (cr : Word) (n : BitVec 3) : BitVec 4 := (cr >>> (28 - 4 * n.toNat)).setWidth 4

/-- `CR[4n : 4n+3] <- v`. -/
def State.setCrField (s : State) (n : BitVec 3) (v : BitVec 4) : State :=
  { s with cr := writeField s.cr (4 * n.toNat + 3) v }

/-- A fresh arbitrary `n`-bit value, `undefined(n)` of R12; draws are counted (log 9). -/
def State.fresh (s : State) (n : Nat) : BitVec n := Config.undefinedBits n s.draws

/-- `k` fresh values have been used. -/
def State.drawn (s : State) (k : Nat) : State := { s with draws := s.draws + k }

/-! ## Exceptions -/

/-- The offset of the vector (R500). -/
def ExceptionKind.offset : ExceptionKind → Word
  | .systemReset => 0x00100
  | .machineCheck => 0x00200
  | .dsi => 0x00300
  | .external => 0x00500
  | .alignment => 0x00600
  | .program => 0x00700
  | .fpUnavailable => 0x00800
  | .decrementer => 0x00900
  | .systemCall => 0x00C00
  | .trace => 0x00D00
  | .performanceMonitor => 0x00F00
  | .instructionBreakpoint => 0x01300
  | .systemManagement => 0x01400

/-- The vector address: the prefix that MSR[IP] selects, then the offset (R94, R510 (4)). -/
def vectorAddress (msr : Word) (k : ExceptionKind) : Word :=
  (if bit msr 25 then 0xFFF00000 else 0x00000000) + k.offset

/-- The bits of SRR1 that come from the cause: 1:4 and 10:15 (R510 (2)). -/
def causeBits : Word := 0x783F0000

/-- The bits of SRR1 that come from MSR: 16:23, 25:27, 29, 30:31 (R510 (2)). -/
def savedMsrBits : Word := 0x0000FF77

/-- SRR1 at exception entry (R510 (2)); every other bit is 0. -/
def savedStatus (msr info : Word) : Word := (info &&& causeBits) ||| (msr &&& savedMsrBits)

/-- The MSR bits every entry clears: POW, EE, PR, FP, FE0, SE, BE, FE1, IR, DR, PM, RI, and LE before it takes
ILE's value (R510 (3)). -/
def clearedMsrBits : Word := 0x0004EF37

/-- MSR after exception entry (R510 (3)): machine check also clears ME. -/
def entryMsr (msr : Word) (k : ExceptionKind) : Word :=
  let kept := msr &&& ~~~clearedMsrBits
  let kept := if k = .machineCheck then writeBit kept 19 false else kept
  writeBit kept 31 (bit msr 15)

/-- Taking an exception, the sequence every exception follows (R510): SRR0 saves the resume address, SRR1 the cause
and the status, MSR becomes the handler's, the pc goes to the vector; nothing else changes. -/
def takeException (k : ExceptionKind) (resume info : Word) (s : State) : State :=
  { s with
    srr0 := wordAligned resume
    srr1 := savedStatus s.msr info
    msr := entryMsr s.msr k
    pc := vectorAddress s.msr k
    taken := some k }

/-- A synchronous exception of the instruction at `pc` (R511 a). -/
def raise (k : ExceptionKind) (info : Word) (s : State) : Result := .next (takeException k s.pc info s)

/-- The cause bits of the program exception in SRR1 (R508). -/
def floatEnabledCause : Word := bitMask 11
def illegalCause : Word := bitMask 12
def privilegedCause : Word := bitMask 13
def trapCause : Word := bitMask 14

/-- Program exception, illegal instruction (R508). -/
def raiseIllegal (s : State) : Result := raise .program illegalCause s

/-- Program exception, privileged instruction (R508, R521). -/
def raisePrivileged (s : State) : Result := raise .program privilegedCause s

/-- Data storage interrupt: DSISR takes the cause, DAR the address (R503). -/
def raiseDsi (cause ea : Word) (s : State) : Result := raise .dsi 0 { s with dsisr := cause, dar := ea }

/-- MSR[PR]: user mode (R521). -/
def State.userMode (s : State) : Bool := bit s.msr 17

/-- A supervisor-level instruction: in user mode the program exception and no other effect (R521). -/
def supervisorOnly (s : State) (go : State → Result) : Result := if s.userMode then raisePrivileged s else go s

/-- An instruction that needs MSR[FP]: without it the floating-point unavailable exception and no other effect (R507). -/
def floatOnly (s : State) (go : State → Result) : Result := if bit s.msr 18 then go s else raise .fpUnavailable 0 s

/-- The defined bits of MSR: 13, 15:23, 25:27, 29:31 (R34, R434). -/
def definedMsrBits : Word := 0x0005FF77

/-- Why the model gives a machine state register no meaning: little-endian modes (D1), translation (D5), power
management (D22); log 37. -/
def msrRefusal (msr : Word) : Option Refusal :=
  if bit msr 31 || bit msr 15 then some .littleEndian
  else if bit msr 26 || bit msr 27 then some .translation
  else if bit msr 13 then some .powerManagement
  else none

/-- MSR takes a new value at an instruction whose next pc is `next`: a value the model gives no meaning is refused; one
that enables the floating-point exceptions while FPSCR[FEX] = 1 raises the program exception with SRR0 = `next`
(R434, R436, R285, R511 e). -/
def enterMsr (msr next : Word) (s : State) : Result :=
  match msrRefusal msr with
  | some why => .refused why
  | none =>
    let s := { s with msr := msr, pc := next }
    if bit s.fpscr 1 && (bit msr 20 || bit msr 23) then
      .next (takeException .program next floatEnabledCause s)
    else .next s

/-- The MSR bits `rfi` restores from SRR1: 16:23, 25:27, 29, 30:31 (R436). -/
def restoredMsrBits : Word := 0x0000FF77

/-- Return from an exception: MSR from SRR1, pc from SRR0 (R436). -/
def returnFromException (s : State) : Result :=
  enterMsr (merge restoredMsrBits s.msr s.srr1) (wordAligned s.srr0) s

/-! ## Memory -/

/-- Memory as State holds it. -/
abbrev Memory := List Host.Cell

/-- The byte at an address; an unlisted address reads as `Config.unlistedByte` (R80; log 4). -/
def Memory.read : Memory → Nat → Byte
  | [], _ => Config.unlistedByte
  | (k, v) :: rest, a => if k = a then v else Memory.read rest a

/-- Memory with the byte at an address replaced; the list stays canonical. -/
def Memory.write : Memory → Nat → Byte → Memory
  | [], a, b => if b = Config.unlistedByte then [] else [(a, b)]
  | (k, v) :: rest, a, b =>
    if a < k then (if b = Config.unlistedByte then (k, v) :: rest else (a, b) :: (k, v) :: rest)
    else if a = k then (if b = Config.unlistedByte then rest else (a, b) :: rest)
    else (k, v) :: Memory.write rest a b

/-- Every address is at least `low` and below 2^32, addresses rise strictly, and no byte equals what an unlisted
address reads as. -/
def Memory.wfFrom : Nat → Memory → Bool
  | _, [] => true
  | low, (k, v) :: rest =>
    decide (low ≤ k) && decide (k < 2 ^ 32) && decide (v ≠ Config.unlistedByte) && Memory.wfFrom (k + 1) rest

/-- The canonical form of memory. -/
def Memory.wf (m : Memory) : Bool := Memory.wfFrom 0 m

/-- One byte of the machine's memory. -/
def State.byteAt (s : State) (a : Word) : Byte := Memory.read s.mem a.toNat

/-- The `n` bytes from `a` on, addresses modulo 2^32 (R80, R85). -/
def State.bytesAt (s : State) : (a : Word) → (n : Nat) → List Byte
  | _, 0 => []
  | a, n + 1 => s.byteAt a :: s.bytesAt (a + 1) n

/-- The number that four bytes spell, most significant first (R80). -/
def wordOf (bytes : List Byte) : Word := BitVec.ofNat 32 (natOf bytes)

/-- The word at an address (R80, R82). -/
def State.wordAt (s : State) (a : Word) : Word := wordOf (s.bytesAt a 4)

/-- One byte of memory is replaced. -/
def State.storeByte (s : State) (a : Word) (b : Byte) : State := { s with mem := Memory.write s.mem a.toNat b }

/-- A store to the word that holds `a` is about to change it, by this processor if `own`: instruction fetch may go on seeing
the word as it is now (R112), whole, or byte by byte between it and the word `blend` that the store leaves. -/
def State.remember (s : State) (own : Bool) (a : Word) (blend : Option Word) : State :=
  let w := s.wordAt (wordAligned a)
  { s with stale := ⟨(wordAligned a).toNat, w, blend.getD w, .stored, own⟩ :: s.stale }

/-- `EA mod n = 0` (R87). -/
def aligned (ea : Word) (n : Nat) : Bool := ea.toNat % n == 0

/-- In pieces of how many bytes a store of `n` bytes at `a` changes memory: an aligned halfword or word at once, the words of
an aligned doubleword or block one by one, anything else byte by byte (R91). -/
def atomicUnit (a : Word) (n : Nat) : Nat :=
  if n % 4 = 0 ∧ aligned a 4 = true then 4 else if n = 2 ∧ aligned a 2 = true then 2 else 1

/-- A store of `n` bytes at `a` that changes more than one word is not atomic, nor is any of its words: fetch may see each
byte of them old or new. R91 promises no more of an aligned doubleword, and R456 says so of the block of `dcbz` (log 6). -/
def seenByBytes (a : Word) (n : Nat) : Bool := atomicUnit a n == 4 && n != 4

/-- The word that the first four bytes of a store leave, where fetch may see it byte by byte. -/
def blendOf (byBytes : Bool) (data : List Byte) : Option Word := if byBytes then some (wordOf (data.take 4)) else none

/-- Bytes are stored from `a` on, addresses modulo 2^32 (R80, R85), in pieces of `unit` bytes: the word that a piece changes
is remembered as it was before the first byte of the piece. -/
def State.storePieces (own byBytes : Bool) (unit : Nat) : State → Word → List Byte → State
  | s, _, [] => s
  | s, a, b :: rest =>
    ((if aligned a unit then s.remember own a (blendOf byBytes (b :: rest)) else s).storeByte a b).storePieces
      own byBytes unit (a + 1) rest

/-- A store of bytes from `a` on, by this processor if `own`, as instruction fetch may see it (R91, R112, R456; log 6). -/
def State.storeSpan (s : State) (own : Bool) (a : Word) (data : List Byte) : State :=
  s.storePieces own (seenByBytes a data.length) (atomicUnit a data.length) a data

/-- This processor stores bytes from `a` on. -/
def State.storeBytes (s : State) (a : Word) (data : List Byte) : State := s.storeSpan true a data

/-- The class of one address, `none` outside MEM_MAP (R93). -/
def kindAt (map : List Region) (a : Nat) : Option MemKind :=
  match map with
  | [] => none
  | r :: rest => if r.base ≤ a ∧ a < r.base + r.size then some r.kind else kindAt rest a

/-- The class of `n` bytes from `a` on: outside the map if any byte is, `ram` if every byte is, else `device`: the platform
sees the access (R93; log 5). -/
def kindOf (map : List Region) : (a : Word) → (n : Nat) → Option MemKind
  | _, 0 => some .ram
  | a, n + 1 =>
    match kindAt map a.toNat, kindOf map (a + 1) n with
    | some .ram, some .ram => some .ram
    | some _, some _ => some .device
    | _, _ => none

/-- The addresses of `n` bytes from `a` on. -/
def span : (a : Word) → (n : Nat) → List Word
  | _, 0 => []
  | a, n + 1 => a :: span (a + 1) n

/-- DABR watches this kind of access: DW for a store, DR for a load, and BT leaves it able to match (R44; log 16). -/
def watches (dabr : Word) (store : Bool) : Bool :=
  (if store then bit dabr 30 else bit dabr 31) && (!bit dabr 29 || Config.dabrMatchesWithBT)

/-- The access touches the doubleword that DABR names (R44). -/
def State.watched (s : State) (store : Bool) (ea : Word) (n : Nat) : Bool :=
  watches s.dabr store && (span ea n).any (fun a => a >>> 3 == s.dabr >>> 3)

/-- DSISR of a DABR match: bit 9, and bit 6 for a store (R503). -/
def watchCause (store : Bool) : Word := if store then bitMask 9 ||| bitMask 6 else bitMask 9

/-- What a data access answers: a value and the state after it, or the whole outcome of the instruction. -/
inductive Access (α : Type) where
  | done (v : α) (s : State)
  | stop (r : Result)

/-- The address lies in a device region (R93). -/
def State.isDevice (s : State) (a : Word) : Bool := kindAt s.memMap a.toNat == some .device

/-- What `n` bytes from `a` on answer where a device holds one of them: memory's byte in `ram`, an arbitrary one, the
`k`-th draw on, in a device region (R93; log 8). -/
def State.answeredBytes (s : State) : (a : Word) → (draw n : Nat) → List Byte
  | _, _, 0 => []
  | a, k, n + 1 =>
    (if s.isDevice a then Config.undefinedBits 8 k else s.byteAt a) :: s.answeredBytes (a + 1) (k + 1) n

/-- The bytes that fall into `ram` are stored, in pieces of `unit` bytes; those that a device takes are not (R93). -/
def State.storeRam (byBytes : Bool) (unit : Nat) : State → Word → List Byte → State
  | s, _, [] => s
  | s, a, b :: rest =>
    let t :=
      if aligned a unit && !(span a unit).all s.isDevice then s.remember true a (blendOf byBytes (b :: rest)) else s
    (if s.isDevice a then t else t.storeByte a b).storeRam byBytes unit (a + 1) rest

/-- This processor stores, from `a` on, the bytes that fall into `ram`. -/
def State.storeRamBytes (s : State) (a : Word) (data : List Byte) : State :=
  s.storeRam (seenByBytes a data.length) (atomicUnit a data.length) a data

/-- A read of `n` bytes as one access (R301 (3), (4)): a DABR match is a DSI, an address outside MEM_MAP is refused, `ram`
answers its bytes, a device arbitrary ones, and an access with a byte in a device region is an event (R93). DESIGN CHOICE
(log 50): an access that DABR watches and that lies outside MEM_MAP takes the DSI, here as in every other access. DESIGN CHOICE
(log 8): `busLog` records device accesses in program order, also two with neither `eieio` nor `sync` between them, for which R93
and R374 promise no order. DEDUCED (log 54): DABR watches floating-point accesses too, which R44 and R503 do not except. -/
def readSpan (ea : Word) (n : Nat) (s : State) : Access (List Byte) :=
  if s.watched false ea n then .stop (raiseDsi (watchCause false) ea s)
  else
    match kindOf s.memMap ea n with
    | none => .stop (.refused .outsideMemMap)
    | some .ram => .done (s.bytesAt ea n) s
    | some .device =>
      .done (s.answeredBytes ea s.draws n) { s with draws := s.draws + n, busLog := .deviceRead ea n :: s.busLog }

/-- A write of bytes as one access (R301 (3), (4)); one with a byte in a device region is an event, and its bytes in `ram`
are stored (R93), in the order that `readSpan` speaks of (DESIGN CHOICE, log 8). A DABR match comes before MEM_MAP (log 50). -/
def writeSpan (ea : Word) (data : List Byte) (s : State) : Access Unit :=
  if s.watched true ea data.length then .stop (raiseDsi (watchCause true) ea s)
  else
    match kindOf s.memMap ea data.length with
    | none => .stop (.refused .outsideMemMap)
    | some .ram => .done () (s.storeBytes ea data)
    | some .device => .done () { s.storeRamBytes ea data with busLog := .deviceWrite ea data :: s.busLog }

/-- A read split into single-byte accesses in ascending order (R88 b `split`). -/
def readSplit (ea : Word) : (n : Nat) → (s : State) → Access (List Byte)
  | 0, s => .done [] s
  | n + 1, s =>
    match readSpan ea 1 s with
    | .stop r => .stop r
    | .done b s =>
      match readSplit (ea + 1) n s with
      | .stop r => .stop r
      | .done bs s => .done (b ++ bs) s

/-- A write split into single-byte accesses in ascending order (R88 b `split`). -/
def writeSplit (ea : Word) : (data : List Byte) → (s : State) → Access Unit
  | [], s => .done () s
  | b :: rest, s =>
    match writeSpan ea [b] s with
    | .stop r => .stop r
    | .done _ s => writeSplit (ea + 1) rest s

/-- DSISR of an alignment exception without the low five bits: the instruction's opcode bits and its D or S field
(R506). -/
def alignmentStatus (insn : Word) : Word :=
  if field insn 0 5 = 31 then
    ((field insn 29 30).setWidth 32 <<< 15) ||| ((field insn 25 25).setWidth 32 <<< 14) |||
      ((field insn 21 24).setWidth 32 <<< 10) ||| ((field insn 6 10).setWidth 32 <<< 5)
  else
    ((field insn 5 5).setWidth 32 <<< 14) ||| ((field insn 1 4).setWidth 32 <<< 10) |||
      ((field insn 6 10).setWidth 32 <<< 5)

/-- The alignment exception (R506): DAR the effective address, DSISR the instruction; bits 27:31 are rA where the rule
says so (`showBase`), otherwise undefined (log 35). -/
def raiseAlignment (insn : Word) (showBase : Bool) (ea : Word) (s : State) : Result :=
  if showBase then
    raise .alignment 0 { s with dar := ea, dsisr := alignmentStatus insn ||| (field insn 11 15).setWidth 32 }
  else
    raise .alignment 0
      ({ s with dar := ea, dsisr := alignmentStatus insn ||| (s.fresh 5).setWidth 32 }.drawn 1)

/-- A split access goes on where DABR watches none of its bytes; otherwise the DSI comes before any of its accesses,
because only the multiple and string instructions leave partial effects (R301, R511 a), with DAR the first byte watched
(R503; log 48), also where a byte lies outside MEM_MAP (log 50). -/
def unwatched {α : Type} (store : Bool) (ea : Word) (n : Nat) (s : State) (go : Access α) : Access α :=
  match (span ea n).find? (fun a => s.watched store a 1) with
  | some a => .stop (raiseDsi (watchCause store) a s)
  | none => go

/-- A load of `n` bytes by the instruction `insn` (R301): aligned, one access; misaligned, the alignment exception or
the split that MISALIGNED_POLICY gives (R88 b). -/
def loadData (insn : Word) (showBase : Bool) (ea : Word) (n : Nat) (s : State) : Access (List Byte) :=
  if aligned ea n then readSpan ea n s
  else if Config.misalignedTraps insn ea then .stop (raiseAlignment insn showBase ea s)
  else unwatched false ea n s (readSplit ea n s)

/-- A store by the instruction `insn` (R301), as `loadData`. -/
def storeData (insn : Word) (showBase : Bool) (ea : Word) (data : List Byte) (s : State) : Access Unit :=
  if aligned ea data.length then writeSpan ea data s
  else if Config.misalignedTraps insn ea then .stop (raiseAlignment insn showBase ea s)
  else unwatched true ea data.length s (writeSplit ea data s)

/-- The accesses that are never split: misaligned they take the alignment exception (R88 a; log 12). -/
def neverSplit (insn : Word) (showBase : Bool) (ea : Word) (s : State) (go : State → Result) : Result :=
  if aligned ea 4 then go s else raiseAlignment insn showBase ea s

/-! ## Instruction-fetch coherence (R112, D8) -/

/-- The cache block of an address (R113, R450 b). -/
def blockBase (a : Word) : Word := a &&& ~~~(BitVec.ofNat 32 (Config.cacheBlock - 1))

/-- The overwritten word lies in the block of `a`. -/
def StaleWord.inBlock (e : StaleWord) (a : Word) : Bool :=
  (blockBase a).toNat ≤ e.addr && e.addr < (blockBase a).toNat + Config.cacheBlock

/-- `dcbst` or `dcbf` of the block of `a`: the first step of the sequence of R112, which counts on the processor that
stored. -/
def StaleWord.written (e : StaleWord) (a : Word) : StaleWord :=
  if e.own && e.inBlock a && e.stage == .stored then { e with stage := .written } else e

/-- `icbi` of the block of `a`: the third step. -/
def StaleWord.invalidated (e : StaleWord) (a : Word) : StaleWord :=
  if e.inBlock a && e.stage == .writtenSynced then { e with stage := .invalidated } else e

/-- `sync`: the second and the fourth step. -/
def StaleWord.synced (e : StaleWord) : StaleWord :=
  match e.stage with
  | .written => { e with stage := .writtenSynced }
  | .invalidated => { e with stage := .invalidatedSynced }
  | _ => e

/-- `isync`: on a uniprocessor also the fourth step (R112; log 53), or the last, after which the word is gone. -/
def StaleWord.isynced (e : StaleWord) : Option StaleWord :=
  match e.stage with
  | .invalidated => some { e with stage := if Config.uniprocessor then .invalidatedSynced else .invalidated }
  | .invalidatedSynced => none
  | _ => some e

/-- What instruction fetch may still see after `isync`, the latest store first: with the word under a store whose sequence is
complete go all the older words at its address, because fetch now sees that store (R112). `seen` holds the addresses at
which a later store is complete. -/
def afterIsync : (seen : List Nat) → List StaleWord → List StaleWord
  | _, [] => []
  | seen, e :: older =>
    if seen.contains e.addr then afterIsync seen older
    else
      match e.isynced with
      | some e => e :: afterIsync seen older
      | none => afterIsync (e.addr :: seen) older

/-- The processor that stored, another one, has completed the sequence up to the last `isync` for the block of `a`
(R112). -/
def StaleWord.published (e : StaleWord) (a : Word) : StaleWord :=
  if !e.own && e.inBlock a then { e with stage := .invalidatedSynced } else e

/-- The word as fetch may see it while its store is not published: whole after an atomic store (R91), any mixture of its bytes
and the stored ones after one that is seen byte by byte (R456). -/
def StaleWord.seen (e : StaleWord) (mixed : BitVec 4) : Word := merge (byteMask mixed) e.word e.blend

/-- The word of memory that instruction fetch sees at `a`: what memory holds, or one draw between that and the words that
the location held since the last completed sequence (R112), never a mixture of what two atomic stores left (R91). -/
def State.fetchMemory (s : State) (a : Word) : Word × State :=
  match s.stale.filter (fun e => e.addr == a.toNat) with
  | [] => (s.wordAt a, s)
  | old =>
    ((s.wordAt a :: old.map fun e => e.seen ((s.drawn 1).fresh 4)).getD ((s.fresh 32).toNat % (old.length + 1))
      (s.wordAt a), s.drawn 2)

/-- The bytes of the word at `a` that lie in a device region, as a mask. -/
def State.deviceMask (s : State) (a : Word) : Word :=
  wordOf ((span a 4).map fun b => if s.isDevice b then 0xFF else 0)

/-- The word instruction fetch reads at `a`: the bytes in `ram` as memory gives them, those in a device region as the device
answers, arbitrary ones (R93, R605 (1); log 8). -/
def State.fetchWord (s : State) (a : Word) : Word × State :=
  let (w, s) := s.fetchMemory a
  if s.deviceMask a = 0 then (w, s) else (merge (s.deviceMask a) w (s.fresh 32), s.drawn 1)

end Sys2Proof.Machine
end

