-- ==== Sys2Proof/Machine/Operands.lean ====
section
/-! DEFINITION. Every operand form: immediates, effective addresses, branch displacements, string lengths (30_encoding.md R136, 44_integer_load_store.md R300, 47_branch_cr_system.md R400). -/

namespace Sys2Proof.Machine

/-- `sext(SIMM)`, and the displacement `d` (R136). -/
def simmOf (simm : BitVec 16) : Word := simm.signExtend 32

/-- `zext(UIMM)` (R136). -/
def uimmOf (uimm : BitVec 16) : Word := uimm.setWidth 32

/-- `SIMM || 0x0000`, the shifted immediate (R136). -/
def shiftedOf (imm : BitVec 16) : Word := imm.setWidth 32 <<< 16

/-- `EA = (rA|0) + sext(d)` (R300 a). -/
def State.eaD (s : State) (a : BitVec 5) (disp : BitVec 16) : Word := s.base a + simmOf disp

/-- `EA = (rA|0) + r[B]` (R300 b). -/
def State.eaX (s : State) (a b : BitVec 5) : Word := s.base a + s.r b

/-- An update form writes `r[A] <- EA` after the access (R300 c). -/
def State.update (s : State) (base : Option (BitVec 5)) (ea : Word) : State :=
  match base with
  | some a => s.setR a ea
  | none => s

/-- The effective address of a load or store of one register, and of `lmw`, `stmw`, `lwarx`, `stwcx.`, `eciwx`, `ecowx` and
the cache instructions (44_integer_load_store.md R300; 48_cache_segment_tlb_external.md R450). -/
def effectiveAddress (i : Instr) (s : State) : Option Word :=
  match i with
  | .lbz _ a disp | .lbzu _ a disp | .lhz _ a disp | .lhzu _ a disp | .lha _ a disp | .lhau _ a disp | .lwz _ a disp
  | .lwzu _ a disp | .stb _ a disp | .stbu _ a disp | .sth _ a disp | .sthu _ a disp | .stw _ a disp | .stwu _ a disp
  | .lmw _ a disp | .stmw _ a disp | .lfs _ a disp | .lfsu _ a disp | .lfd _ a disp | .lfdu _ a disp | .stfs _ a disp
  | .stfsu _ a disp | .stfd _ a disp | .stfdu _ a disp => some (s.eaD a disp)
  | .lbzx _ a b | .lbzux _ a b | .lhzx _ a b | .lhzux _ a b | .lhax _ a b | .lhaux _ a b | .lwzx _ a b | .lwzux _ a b
  | .stbx _ a b | .stbux _ a b | .sthx _ a b | .sthux _ a b | .stwx _ a b | .stwux _ a b | .lhbrx _ a b | .lwbrx _ a b
  | .sthbrx _ a b | .stwbrx _ a b | .lwarx _ a b | .stwcx_rc _ a b | .lfsx _ a b | .lfsux _ a b | .lfdx _ a b
  | .lfdux _ a b | .stfsx _ a b | .stfsux _ a b | .stfdx _ a b | .stfdux _ a b | .stfiwx _ a b | .eciwx _ a b
  | .ecowx _ a b | .dcbf a b | .dcbi a b | .dcbst a b | .dcbt a b | .dcbtst a b | .dcbz a b | .icbi a b =>
    some (s.eaX a b)
  | _ => none

/-- The effective address of a load or store instruction, `none` for any other: what the performance monitor samples
(60_exceptions.md R552 c). DESIGN CHOICE (log 29): the spec does not say which instructions these are. The cache
instructions, `dcbz` among them, and `eciwx` and `ecowx` are none of them, although R450 (f) has a cache instruction complete
as a load; a `stwcx.` that does not store and a string access of no bytes are. -/
def accessAddress (i : Instr) (s : State) : Option Word :=
  match i with
  | .lswi _ a _ | .stswi _ a _ => some (s.base a)
  | .lswx _ a b | .stswx _ a b => some (s.eaX a b)
  | .eciwx .. | .ecowx .. | .dcbf .. | .dcbi .. | .dcbst .. | .dcbt .. | .dcbtst .. | .dcbz .. | .icbi .. => none
  | _ => effectiveAddress i s

/-- The displacement of `bx`: `sext(LI || 0b00)` (R136). -/
def liOf (li : BitVec 24) : Word := (li.signExtend 32) <<< 2

/-- The displacement of `bcx`: `sext(BD || 0b00)` (R136). -/
def bdOf (bd : BitVec 14) : Word := (bd.signExtend 32) <<< 2

/-- The target of a branch: the displacement alone when AA = 1, else relative to the branch (R400 b). -/
def State.branchTarget (s : State) (aa : Bool) (disp : Word) : Word := if aa then disp else s.pc + disp

/-- The byte count of `lswx` and `stswx`: XER[25:31] (R346). -/
def State.stringCount (s : State) : Nat := (field s.xer 25 31).toNat

/-- The shift amount of `slwx`, `srwx`, `srawx`: `r[B][26:31]` (R234). -/
def State.shiftAmount (s : State) (b : BitVec 5) : Nat := (field (s.r b) 26 31).toNat

/-- The rotate amount of `rlwnmx`: `r[B][27:31]` (R233). -/
def State.rotateAmount (s : State) (b : BitVec 5) : Nat := (field (s.r b) 27 31).toNat

/-- The register after `r`, wrapping from 31 to 0 (R345). -/
def nextRegister (r : BitVec 5) : BitVec 5 := r + 1

/-- `CR[i]` (R24). -/
def State.crBit (s : State) (i : BitVec 5) : Bool := bit s.cr i.toNat

/-- `CR[i] <- v`. -/
def State.setCrBit (s : State) (i : BitVec 5) (v : Bool) : State := { s with cr := writeBit s.cr i.toNat v }

/-- The 32-bit mask of a field mask: each of its eight bits four times (R432). -/
def fieldsMask (m : BitVec 8) : Word :=
  (List.range 8).foldl (fun acc i => if bit m i then acc ||| fieldMask (4 * i + 3) 4 else acc) 0

/-- The doubleword whose byte order is that of memory at an address: eight bytes as a register (R380 h). -/
def dwordOf (bytes : List Byte) : Dword := BitVec.ofNat 64 (natOf bytes)

end Sys2Proof.Machine
end

