-- ==== Sys2Proof/Machine/Flags.lean ====
section
/-! DEFINITION. Every flag computation: CR0 and CR1 recording (10_state.md R25, R26), XER (R27, 40_integer_arithmetic.md R170), compare results (41_integer_compare_logical.md R200), and the FPSCR update with its derived bits (R32, R33, 43_floating_point.md R244). -/

namespace Sys2Proof.Machine

/-- XER[SO] (R27). -/
def xerSo (xer : Word) : Bool := bit xer 0

/-- XER[CA] (R27). -/
def xerCa (xer : Word) : Bool := bit xer 2

/-- `XER[CA] <- c` (R170 e). -/
def setCa (xer : Word) (c : Bool) : Word := writeBit xer 2 c

/-- `XER[OV] <- ov; XER[SO] <- XER[SO] | ov` (R170 d). -/
def setOv (xer : Word) (ov : Bool) : Word := writeBit (writeBit xer 1 ov) 0 (xerSo xer || ov)

/-- `SUM(x, y, c)` (R170 b). -/
def sum (x y : Word) (c : Bool) : Word := BitVec.ofNat 32 (x.toNat + y.toNat + c.toNat)

/-- `CARRY(x, y, c)` (R170 b). -/
def carry (x y : Word) (c : Bool) : Bool := decide (2 ^ 32 ≤ x.toNat + y.toNat + c.toNat)

/-- The unbounded result does not fit a signed 32-bit integer (R170 c, R188). -/
def outOfRange (v : Int) : Bool := decide (v < -(2 ^ 31)) || decide (2 ^ 31 ≤ v)

/-- `OVF(x, y, c)` (R170 c). -/
def overflows (x y : Word) (c : Bool) : Bool := outOfRange (x.toInt + y.toInt + c.toNat)

/-- LT, GT, EQ of a comparison, then SO (R200 b, R24). -/
def orderField (lt gt eq so : Bool) : BitVec 4 := ofFlag lt ++ ofFlag gt ++ ofFlag eq ++ ofFlag so

/-- What CR0 records of a result (R25). -/
def recordField (res : Word) (so : Bool) : BitVec 4 :=
  orderField (decide (res.toInt < 0)) (decide (0 < res.toInt)) (decide (res = 0)) so

/-- `CR0 <- (res < 0) || (res > 0) || (res = 0) || XER[SO]`, XER as the instruction left it (R25). -/
def State.recordCr0 (s : State) (res : Word) : State := s.setCrField 0 (recordField res (xerSo s.xer))

/-- Recording where Rc says so (R143). -/
def State.recordIf (s : State) (rc : Bool) (res : Word) : State := if rc then s.recordCr0 res else s

/-- The result of a signed comparison (R200 b). -/
def compareSigned (x y : Word) (so : Bool) : BitVec 4 :=
  orderField (decide (x.toInt < y.toInt)) (decide (y.toInt < x.toInt)) (decide (x = y)) so

/-- The result of an unsigned comparison (R200 b). -/
def compareUnsigned (x y : Word) (so : Bool) : BitVec 4 :=
  orderField (decide (x.toNat < y.toNat)) (decide (y.toNat < x.toNat)) (decide (x = y)) so

/-- An arithmetic result: the target, then CA and OV/SO where given, then CR0 where recorded (R170 i). -/
def State.writeArith (s : State) (d : BitVec 5) (res : Word) (ca ov : Option Bool) (rc : Bool) : State :=
  let xer := match ca with
    | some c => setCa s.xer c
    | none => s.xer
  let xer := match ov with
    | some v => setOv xer v
    | none => xer
  ({ s.setR d res with xer := xer }).recordIf rc res

/-! ## FPSCR -/

/-- The sticky bits other than FX: OX, UX, ZX, XX, VXSNAN to VXVC, VXSOFT, VXSQRT, VXCVI (R32). -/
def fpOX : Word := bitMask 3
def fpUX : Word := bitMask 4
def fpZX : Word := bitMask 5
def fpXX : Word := bitMask 6
def fpVXSNAN : Word := bitMask 7
def fpVXISI : Word := bitMask 8
def fpVXIDI : Word := bitMask 9
def fpVXZDZ : Word := bitMask 10
def fpVXIMZ : Word := bitMask 11
def fpVXVC : Word := bitMask 12
def fpVXSOFT : Word := bitMask 21
def fpVXSQRT : Word := bitMask 22
def fpVXCVI : Word := bitMask 23

/-- The nine invalid-operation bits (R33). -/
def fpInvalidBits : Word :=
  fpVXSNAN ||| fpVXISI ||| fpVXIDI ||| fpVXZDZ ||| fpVXIMZ ||| fpVXVC ||| fpVXSOFT ||| fpVXSQRT ||| fpVXCVI

/-- Every exception bit whose setting also sets FX: 3 to 12 and 21 to 23 (R32, R280). -/
def fpStickyBits : Word := fpOX ||| fpUX ||| fpZX ||| fpXX ||| fpInvalidBits

/-- VX of the other bits (R33). -/
def fpVx (f : Word) : Bool := f &&& fpInvalidBits != 0

/-- FEX of the other bits (R33). -/
def fpFex (f : Word) : Bool :=
  (fpVx f && bit f 24) || (bit f 3 && bit f 25) || (bit f 4 && bit f 26) || (bit f 5 && bit f 27) ||
    (bit f 6 && bit f 28)

/-- FPSCR with VX and FEX recomputed and bit 20 at 0 (R33, R32). -/
def fpDerive (f : Word) : Word :=
  writeBit (writeBit (writeBit f 20 false) 2 (fpVx f)) 1 (fpFex f)

/-- Exception bits are set; one that was 0 also sets FX (R244). -/
def fpRaise (f raised : Word) : Word :=
  let raised := raised &&& fpStickyBits
  let g := f ||| raised
  if raised &&& ~~~f != 0 then writeBit g 0 true else g

/-- FR and FI (R242 c). -/
def fpRounding (f : Word) (fr fi : Bool) : Word := writeBit (writeBit f 13 fr) 14 fi

/-- FPRF, bits 15:19 (R241). -/
def fpClass (f : Word) (fprf : BitVec 5) : Word := writeField f 19 fprf

/-- The FPSCR update of an arithmetic, rounding or conversion instruction (R244). -/
def fpUpdate (f : Word) (o : FpOutcome) : Word :=
  let f := fpRounding f o.fr o.fi
  let f := match o.fprf with
    | some c => fpClass f c
    | none => f
  fpDerive (fpRaise f o.raised)

/-- CR1 <- FPSCR[0:3] where Rc says so (R26). -/
def State.recordCr1 (s : State) (rc : Bool) : State := if rc then s.setCrField 1 (crField s.fpscr 0) else s

/-- The floating-point enabled exceptions are on and FEX = 1 (R285). -/
def State.floatTraps (s : State) : Bool := bit s.fpscr 1 && (bit s.msr 20 || bit s.msr 23)

/-- The end of an arithmetic, convert or compare instruction: FEX with the exceptions enabled raises the program
exception at this instruction; otherwise the next instruction follows (R285). -/
def finishFloat (s : State) : Result := if s.floatTraps then raise .program floatEnabledCause s else .next s.advance

/-- The end of `mtfsfx` and `mtfsfix`: where the write makes the exception newly enabled (FEX was 0 before it), the
exception resumes after the instruction; otherwise as `finishFloat` (R511 e; DEDUCED, log 17). -/
def finishFpscrWrite (before : Word) (s : State) : Result :=
  if s.floatTraps then
    if bit before 1 then raise .program floatEnabledCause s
    else .next (takeException .program (s.pc + 4) floatEnabledCause s)
  else .next s.advance

end Sys2Proof.Machine
end

