-- ==== Sys2Proof/Machine/Branch.lean ====
section
/-! DEFINITION. Branches and condition-register logic (47_branch_cr_system.md R400 to R423). -/

namespace Sys2Proof.Machine

/-- CTR after the BO field: decremented where BO[2] = 0 (R410). -/
def nextCtr (ctr : Word) (bo : BitVec 5) : Word := if bit bo 2 then ctr else ctr - 1

/-- The counter's part of the branch decision, on the new CTR (R410). -/
def ctrOk (ctr : Word) (bo : BitVec 5) : Bool := bit bo 2 || ((ctr != 0) != bit bo 3)

/-- The condition's part of the branch decision (R410). -/
def State.condOk (s : State) (bo bi : BitVec 5) : Bool := bit bo 0 || s.crBit bi == bit bo 1

/-- LR takes the address of the next instruction where LK = 1, taken or not (R400 c). -/
def State.link (s : State) (lk : Bool) : State := if lk then { s with lr := s.pc + 4 } else s

/-- The end of a branch: link, then the target or the next instruction. -/
def branchTo (s : State) (lk taken : Bool) (target : Word) : Result :=
  .next (if taken then (s.link lk).goto target else (s.link lk).advance)

/-- `bx` (R401). -/
def execBx (li : BitVec 24) (aa lk : Bool) (s : State) : Result := branchTo s lk true (s.branchTarget aa (liOf li))

/-- `bcx` (R402). -/
def execBcx (bo bi : BitVec 5) (bd : BitVec 14) (aa lk : Bool) (s : State) : Result :=
  let ctr := nextCtr s.ctr bo
  branchTo { s with ctr := ctr } lk (ctrOk ctr bo && s.condOk bo bi) (s.branchTarget aa (bdOf bd))

/-- `bclrx` (R403): the target is the old LR. -/
def execBclrx (bo bi : BitVec 5) (lk : Bool) (s : State) : Result :=
  let ctr := nextCtr s.ctr bo
  branchTo { s with ctr := ctr } lk (ctrOk ctr bo && s.condOk bo bi) s.lr

/-- `bcctrx` (R404): CTR is unchanged; BO[2] = 0 is an invalid form, which the decoder refuses. -/
def execBcctrx (bo bi : BitVec 5) (lk : Bool) (s : State) : Result := branchTo s lk (s.condOk bo bi) s.ctr

/-- A CR-logical instruction writes one bit of CR (R414). -/
def crLogical (s : State) (crbD crbA crbB : BitVec 5) (f : Bool → Bool → Bool) : Result :=
  .next (s.setCrBit crbD (f (s.crBit crbA) (s.crBit crbB))).advance

/-- `crand` (R415). -/
def execCrand (crbD crbA crbB : BitVec 5) (s : State) : Result := crLogical s crbD crbA crbB fun x y => x && y

/-- `crandc` (R416). -/
def execCrandc (crbD crbA crbB : BitVec 5) (s : State) : Result := crLogical s crbD crbA crbB fun x y => x && !y

/-- `creqv` (R417). -/
def execCreqv (crbD crbA crbB : BitVec 5) (s : State) : Result := crLogical s crbD crbA crbB fun x y => x == y

/-- `crnand` (R418). -/
def execCrnand (crbD crbA crbB : BitVec 5) (s : State) : Result := crLogical s crbD crbA crbB fun x y => !(x && y)

/-- `crnor` (R419). -/
def execCrnor (crbD crbA crbB : BitVec 5) (s : State) : Result := crLogical s crbD crbA crbB fun x y => !(x || y)

/-- `cror` (R420). -/
def execCror (crbD crbA crbB : BitVec 5) (s : State) : Result := crLogical s crbD crbA crbB fun x y => x || y

/-- `crorc` (R421). -/
def execCrorc (crbD crbA crbB : BitVec 5) (s : State) : Result := crLogical s crbD crbA crbB fun x y => x || !y

/-- `crxor` (R422). -/
def execCrxor (crbD crbA crbB : BitVec 5) (s : State) : Result := crLogical s crbD crbA crbB fun x y => x != y

/-- `mcrf` (R423). -/
def execMcrf (crfD crfS : BitVec 3) (s : State) : Result := .next (s.setCrField crfD (crField s.cr crfS)).advance

end Sys2Proof.Machine
end

