-- ==== Sys2Proof/Machine/LoadStore.lean ====
section
/-! DEFINITION. Integer loads and stores (44_integer_load_store.md). Each meaning hands its own word to the shared operation, which a trap on the access describes in DSISR (60_exceptions.md R506). -/

namespace Sys2Proof.Machine

/-- A load: the access, then `r[D]` from its bytes, then `r[A] <- EA` for an update form (R301). -/
def loadInto (insn : Word) (update : Option (BitVec 5)) (d : BitVec 5) (ea : Word) (n : Nat) (value : List Byte → Word)
    (s : State) : Result :=
  match loadData insn update.isSome ea n s with
  | .stop r => r
  | .done bytes s => .next ((s.setR d (value bytes)).update update ea).advance

/-- A store: the access, then `r[A] <- EA` for an update form (R301). -/
def storeFrom (insn : Word) (update : Option (BitVec 5)) (ea : Word) (data : List Byte) (s : State) : Result :=
  match storeData insn update.isSome ea data s with
  | .stop r => r
  | .done _ s => .next (s.update update ea).advance

/-- A halfword sign-extended (R312). -/
def signedHalf (bytes : List Byte) : Word := (BitVec.ofNat 16 (natOf bytes)).signExtend 32

/-- The byte of `lbz`, the halfword of `lhz`, the word of `lwz`: zero-extended (R304, R308, R316). -/
def unsignedValue (bytes : List Byte) : Word := wordOf bytes

/-- The bytes in reversed order (R335, R336). -/
def reversedValue (bytes : List Byte) : Word := wordOf bytes.reverse

/-- The low `n` bytes of a register (R320, R324, R328). -/
def lowBytes (n : Nat) (v : Word) : List Byte := bytesOf n v.toNat

/-- `lbz` (R304). -/
def execLbz (d a : BitVec 5) (disp : BitVec 16) (s : State) : Result :=
  loadInto (encode (.lbz d a disp)) none d (s.eaD a disp) 1 unsignedValue s

/-- `lbzu` (R305). -/
def execLbzu (d a : BitVec 5) (disp : BitVec 16) (s : State) : Result :=
  loadInto (encode (.lbzu d a disp)) (some a) d (s.eaD a disp) 1 unsignedValue s

/-- `lbzx` (R306). -/
def execLbzx (d a b : BitVec 5) (s : State) : Result :=
  loadInto (encode (.lbzx d a b)) none d (s.eaX a b) 1 unsignedValue s

/-- `lbzux` (R307). -/
def execLbzux (d a b : BitVec 5) (s : State) : Result :=
  loadInto (encode (.lbzux d a b)) (some a) d (s.eaX a b) 1 unsignedValue s

/-- `lhz` (R308). -/
def execLhz (d a : BitVec 5) (disp : BitVec 16) (s : State) : Result :=
  loadInto (encode (.lhz d a disp)) none d (s.eaD a disp) 2 unsignedValue s

/-- `lhzu` (R309). -/
def execLhzu (d a : BitVec 5) (disp : BitVec 16) (s : State) : Result :=
  loadInto (encode (.lhzu d a disp)) (some a) d (s.eaD a disp) 2 unsignedValue s

/-- `lhzx` (R310). -/
def execLhzx (d a b : BitVec 5) (s : State) : Result :=
  loadInto (encode (.lhzx d a b)) none d (s.eaX a b) 2 unsignedValue s

/-- `lhzux` (R311). -/
def execLhzux (d a b : BitVec 5) (s : State) : Result :=
  loadInto (encode (.lhzux d a b)) (some a) d (s.eaX a b) 2 unsignedValue s

/-- `lha` (R312). -/
def execLha (d a : BitVec 5) (disp : BitVec 16) (s : State) : Result :=
  loadInto (encode (.lha d a disp)) none d (s.eaD a disp) 2 signedHalf s

/-- `lhau` (R313). -/
def execLhau (d a : BitVec 5) (disp : BitVec 16) (s : State) : Result :=
  loadInto (encode (.lhau d a disp)) (some a) d (s.eaD a disp) 2 signedHalf s

/-- `lhax` (R314). -/
def execLhax (d a b : BitVec 5) (s : State) : Result :=
  loadInto (encode (.lhax d a b)) none d (s.eaX a b) 2 signedHalf s

/-- `lhaux` (R315). -/
def execLhaux (d a b : BitVec 5) (s : State) : Result :=
  loadInto (encode (.lhaux d a b)) (some a) d (s.eaX a b) 2 signedHalf s

/-- `lwz` (R316). -/
def execLwz (d a : BitVec 5) (disp : BitVec 16) (s : State) : Result :=
  loadInto (encode (.lwz d a disp)) none d (s.eaD a disp) 4 unsignedValue s

/-- `lwzu` (R317). -/
def execLwzu (d a : BitVec 5) (disp : BitVec 16) (s : State) : Result :=
  loadInto (encode (.lwzu d a disp)) (some a) d (s.eaD a disp) 4 unsignedValue s

/-- `lwzx` (R318). -/
def execLwzx (d a b : BitVec 5) (s : State) : Result :=
  loadInto (encode (.lwzx d a b)) none d (s.eaX a b) 4 unsignedValue s

/-- `lwzux` (R319). -/
def execLwzux (d a b : BitVec 5) (s : State) : Result :=
  loadInto (encode (.lwzux d a b)) (some a) d (s.eaX a b) 4 unsignedValue s

/-- `stb` (R320). -/
def execStb (src a : BitVec 5) (disp : BitVec 16) (s : State) : Result :=
  storeFrom (encode (.stb src a disp)) none (s.eaD a disp) (lowBytes 1 (s.r src)) s

/-- `stbu` (R321): the old `r[S]` is stored when A = S. -/
def execStbu (src a : BitVec 5) (disp : BitVec 16) (s : State) : Result :=
  storeFrom (encode (.stbu src a disp)) (some a) (s.eaD a disp) (lowBytes 1 (s.r src)) s

/-- `stbx` (R322). -/
def execStbx (src a b : BitVec 5) (s : State) : Result :=
  storeFrom (encode (.stbx src a b)) none (s.eaX a b) (lowBytes 1 (s.r src)) s

/-- `stbux` (R323): the old `r[S]` is stored when A = S. -/
def execStbux (src a b : BitVec 5) (s : State) : Result :=
  storeFrom (encode (.stbux src a b)) (some a) (s.eaX a b) (lowBytes 1 (s.r src)) s

/-- `sth` (R324). -/
def execSth (src a : BitVec 5) (disp : BitVec 16) (s : State) : Result :=
  storeFrom (encode (.sth src a disp)) none (s.eaD a disp) (lowBytes 2 (s.r src)) s

/-- `sthu` (R325): the old `r[S]` is stored when A = S. -/
def execSthu (src a : BitVec 5) (disp : BitVec 16) (s : State) : Result :=
  storeFrom (encode (.sthu src a disp)) (some a) (s.eaD a disp) (lowBytes 2 (s.r src)) s

/-- `sthx` (R326). -/
def execSthx (src a b : BitVec 5) (s : State) : Result :=
  storeFrom (encode (.sthx src a b)) none (s.eaX a b) (lowBytes 2 (s.r src)) s

/-- `sthux` (R327): the old `r[S]` is stored when A = S. -/
def execSthux (src a b : BitVec 5) (s : State) : Result :=
  storeFrom (encode (.sthux src a b)) (some a) (s.eaX a b) (lowBytes 2 (s.r src)) s

/-- `stw` (R328). -/
def execStw (src a : BitVec 5) (disp : BitVec 16) (s : State) : Result :=
  storeFrom (encode (.stw src a disp)) none (s.eaD a disp) (lowBytes 4 (s.r src)) s

/-- `stwu` (R329): the old `r[S]` is stored when A = S. -/
def execStwu (src a : BitVec 5) (disp : BitVec 16) (s : State) : Result :=
  storeFrom (encode (.stwu src a disp)) (some a) (s.eaD a disp) (lowBytes 4 (s.r src)) s

/-- `stwx` (R330). -/
def execStwx (src a b : BitVec 5) (s : State) : Result :=
  storeFrom (encode (.stwx src a b)) none (s.eaX a b) (lowBytes 4 (s.r src)) s

/-- `stwux` (R331): the old `r[S]` is stored when A = S. -/
def execStwux (src a b : BitVec 5) (s : State) : Result :=
  storeFrom (encode (.stwux src a b)) (some a) (s.eaX a b) (lowBytes 4 (s.r src)) s

/-- `lhbrx` (R335). -/
def execLhbrx (d a b : BitVec 5) (s : State) : Result :=
  loadInto (encode (.lhbrx d a b)) none d (s.eaX a b) 2 reversedValue s

/-- `lwbrx` (R336). -/
def execLwbrx (d a b : BitVec 5) (s : State) : Result :=
  loadInto (encode (.lwbrx d a b)) none d (s.eaX a b) 4 reversedValue s

/-- `sthbrx` (R337). -/
def execSthbrx (src a b : BitVec 5) (s : State) : Result :=
  storeFrom (encode (.sthbrx src a b)) none (s.eaX a b) (lowBytes 2 (s.r src)).reverse s

/-- `stwbrx` (R338). -/
def execStwbrx (src a b : BitVec 5) (s : State) : Result :=
  storeFrom (encode (.stwbrx src a b)) none (s.eaX a b) (lowBytes 4 (s.r src)).reverse s

/-- Words are loaded into consecutive registers from `d` on, in ascending address order (R340, R303): an access that
stops leaves the registers already loaded changed. -/
def loadRegisters : (count : Nat) → (d : BitVec 5) → (ea : Word) → State → Access Unit
  | 0, _, _, s => .done () s
  | k + 1, d, ea, s =>
    match readSpan ea 4 s with
    | .stop r => .stop r
    | .done bytes s => loadRegisters k (nextRegister d) (ea + 4) (s.setR d (wordOf bytes))

/-- Consecutive registers from `src` on are stored as words, in ascending address order (R341, R303). -/
def storeRegisters : (count : Nat) → (src : BitVec 5) → (ea : Word) → State → Access Unit
  | 0, _, _, s => .done () s
  | k + 1, src, ea, s =>
    match writeSpan ea (lowBytes 4 (s.r src)) s with
    | .stop r => .stop r
    | .done _ s => storeRegisters k (nextRegister src) (ea + 4) s

/-- The end of a multiple or string instruction. -/
def finishAccess (a : Access Unit) : Result :=
  match a with
  | .stop r => r
  | .done _ s => .next s.advance

/-- `lmw` (R340): `r[D]` to `r[31]`; a misaligned EA takes the alignment exception (R88 a). -/
def execLmw (d a : BitVec 5) (disp : BitVec 16) (s : State) : Result :=
  neverSplit (encode (.lmw d a disp)) true (s.eaD a disp) s fun s =>
    finishAccess (loadRegisters (32 - d.toNat) d (s.eaD a disp) s)

/-- `stmw` (R341): `r[S]` to `r[31]`; a misaligned EA takes the alignment exception (R88 a). -/
def execStmw (src a : BitVec 5) (disp : BitVec 16) (s : State) : Result :=
  neverSplit (encode (.stmw src a disp)) false (s.eaD a disp) s fun s =>
    finishAccess (storeRegisters (32 - src.toNat) src (s.eaD a disp) s)

/-- Byte `k mod 4` of a register, 0 the most significant, is replaced (R345). -/
def putByte (w : Word) (k : Nat) (b : Byte) : Word := writeField w (8 * k + 7) b

/-- Byte `k mod 4` of a register, 0 the most significant (R347). -/
def getByte (w : Word) (k : Nat) : Byte := (w >>> (24 - 8 * k)).setWidth 8

/-- `left` bytes of a string from `ea` on, byte `k` of the string into its place from register `d` on; a register is
cleared when its first byte arrives, so that unfilled bytes end as 0 (R345). DESIGN CHOICE (log 55): where a DSI stops the
string inside a register, that register holds the bytes loaded so far and zeros after them; R303, R92 and R345 do not say what
it holds. -/
def loadString (d : BitVec 5) : (left k : Nat) → (ea : Word) → State → Access Unit
  | 0, _, _, s => .done () s
  | left + 1, k, ea, s =>
    match readSpan ea 1 s with
    | .stop r => .stop r
    | .done bytes s =>
      let r := d + BitVec.ofNat 5 (k / 4)
      let old := if k % 4 = 0 then 0 else s.r r
      loadString d left (k + 1) (ea + 1) (s.setR r (putByte old (k % 4) (bytes.headD 0)))

/-- `left` bytes of a string are stored from `ea` on, byte `k` of the string from its place from register `src` on
(R347). -/
def storeString (src : BitVec 5) : (left k : Nat) → (ea : Word) → State → Access Unit
  | 0, _, _, s => .done () s
  | left + 1, k, ea, s =>
    match writeSpan ea [getByte (s.r (src + BitVec.ofNat 5 (k / 4))) (k % 4)] s with
    | .stop r => .stop r
    | .done _ s => storeString src left (k + 1) (ea + 1) s

/-- `lswi` (R345): `EA = (rA|0)`. -/
def execLswi (d a nb : BitVec 5) (s : State) : Result :=
  finishAccess (loadString d (stringBytes nb) 0 (s.base a) s)

/-- `lswx` (R346): a base or index register in the range of registers loaded is an invalid form, which depends on the
count (R151, R155 b); a count of 0 leaves `r[D]` undefined (log 33). -/
def execLswx (d a b : BitVec 5) (s : State) : Result :=
  let n := s.stringCount
  if d = a ∨ d = b ∨ inRegisterRange d a (registersFor n) ∨ inRegisterRange d b (registersFor n) then
    .refused .invalidForm
  else if n = 0 then .next ((s.setR d (s.fresh 32)).drawn 1).advance
  else finishAccess (loadString d n 0 (s.eaX a b) s)

/-- `stswi` (R347): `EA = (rA|0)`. -/
def execStswi (src a nb : BitVec 5) (s : State) : Result :=
  finishAccess (storeString src (stringBytes nb) 0 (s.base a) s)

/-- `stswx` (R348): a count of 0 stores nothing. -/
def execStswx (src a b : BitVec 5) (s : State) : Result :=
  finishAccess (storeString src s.stringCount 0 (s.eaX a b) s)

end Sys2Proof.Machine
end

