-- ==== Sys2Proof/Machine/Cache.lean ====
section
/-! DEFINITION. Cache management, segment registers, TLB and external control (48_cache_segment_tlb_external.md). Caches and TLBs are no state (R450 c, R466): the cache instructions change only what instruction fetch may still see (R112), and `dcbz` memory. -/

namespace Sys2Proof.Machine

/-- A cache instruction at an address outside MEM_MAP is refused like a load or a store (R450 d, D6). DESIGN CHOICE (log
40): the byte at EA decides, not the other bytes of its block. -/
def insideMap (ea : Word) (s : State) (go : State → Result) : Result :=
  match kindAt s.memMap ea.toNat with
  | some _ => go s
  | none => .refused .outsideMemMap

/-- `dcbf` (R451): the first step of the sequence of R112. -/
def execDcbf (a b : BitVec 5) (s : State) : Result :=
  insideMap (s.eaX a b) s fun s => .next { s with stale := s.stale.map (fun e => StaleWord.written e (s.eaX a b)) }.advance

/-- `dcbi` (R452): supervisor-level; it loses no modified data. -/
def execDcbi (a b : BitVec 5) (s : State) : Result :=
  supervisorOnly s fun s => insideMap (s.eaX a b) s fun s => .next s.advance

/-- `dcbst` (R453): the first step of the sequence of R112. -/
def execDcbst (a b : BitVec 5) (s : State) : Result :=
  insideMap (s.eaX a b) s fun s => .next { s with stale := s.stale.map (fun e => StaleWord.written e (s.eaX a b)) }.advance

/-- `dcbt` (R454): a hint, with no effect and no exception of any kind. -/
def execDcbt (_a _b : BitVec 5) (s : State) : Result := .next s.advance

/-- `dcbtst` (R455): a hint, with no effect and no exception of any kind. -/
def execDcbtst (_a _b : BitVec 5) (s : State) : Result := .next s.advance

/-- `dcbz` (R456): the 32 bytes of the block become 0, which fetch may see byte by byte until the block is published, because
no more than per-byte visibility is promised (`seenByBytes`; log 6); a block in a `device` region, or with a byte in one, takes the
alignment exception (log 40). DABR watches it as a store at EA (R44, R450 d; log 19), before MEM_MAP (log 50). -/
def execDcbz (a b : BitVec 5) (s : State) : Result :=
  let ea := s.eaX a b
  let kind := kindOf s.memMap (blockBase ea) Config.cacheBlock
  if kind = some .device then raiseAlignment (encode (.dcbz a b)) false ea s
  else if s.watched true (blockBase ea) Config.cacheBlock then raiseDsi (watchCause true) ea s
  else if kind = none then .refused .outsideMemMap
  else .next (s.storeBytes (blockBase ea) (List.replicate Config.cacheBlock 0)).advance

/-- `icbi` (R457): the third step of the sequence of R112. -/
def execIcbi (a b : BitVec 5) (s : State) : Result :=
  insideMap (s.eaX a b) s fun s => .next { s with stale := s.stale.map (fun e => StaleWord.invalidated e (s.eaX a b)) }.advance

/-- The segment register that the top four bits of an address name (R461). -/
def segmentOf (v : Word) : BitVec 4 := field v 0 3

/-- `mfsr` (R460). -/
def execMfsr (d : BitVec 5) (sr : BitVec 4) (s : State) : Result :=
  supervisorOnly s fun s => .next (s.setR d s.sr[sr.toNat]).advance

/-- `mfsrin` (R461). -/
def execMfsrin (d b : BitVec 5) (s : State) : Result :=
  supervisorOnly s fun s => .next (s.setR d s.sr[(segmentOf (s.r b)).toNat]).advance

/-- `SEG[n] <- v` (R462). -/
def State.setSegment (s : State) (n : BitVec 4) (v : Word) : State := { s with sr := s.sr.set n.toNat v }

/-- `mtsr` (R462). -/
def execMtsr (src : BitVec 5) (sr : BitVec 4) (s : State) : Result :=
  supervisorOnly s fun s => .next (s.setSegment sr (s.r src)).advance

/-- `mtsrin` (R463). -/
def execMtsrin (src b : BitVec 5) (s : State) : Result :=
  supervisorOnly s fun s => .next (s.setSegment (segmentOf (s.r b)) (s.r src)).advance

/-- `tlbie` (R466): supervisor-level; the TLBs are no state. -/
def execTlbie (_b : BitVec 5) (s : State) : Result := supervisorOnly s fun s => .next s.advance

/-- `tlbsync`, 31/566 (R467). -/
def execTlbsync (s : State) : Result := supervisorOnly s fun s => .next s.advance

/-- `tlbsync`, the `sync` word with bit 31 set (R467, R156). -/
def execTlbsyncB31 (s : State) : Result := supervisorOnly s fun s => .next s.advance

/-- EAR[RID] (R45). -/
def State.resourceId (s : State) : BitVec 6 := field s.ear 26 31

/-- An external-control instruction: a misaligned address is the alignment exception, EAR[E] = 0 a DSI (R470 (2), (3)).
Where both hold the alignment exception is taken: so D3, C15 and R88 (a) say of these instructions and R518 of the two
exceptions, against the order of the steps of R470 (log 47). DESIGN CHOICE (log 47): DABR does not watch these accesses, and
they complete at an address outside MEM_MAP too, which is never looked at for them. -/
def externalControl (insn : Word) (store : Bool) (ea : Word) (s : State) (go : State → Result) : Result :=
  neverSplit insn false ea s fun s =>
    if bit s.ear 0 then go s else raiseDsi (if store then bitMask 11 ||| bitMask 6 else bitMask 11) ea s

/-- `eciwx` (R470): the word that ExtIn supplies is the platform's, an arbitrary word (log 8). -/
def execEciwx (d a b : BitVec 5) (s : State) : Result :=
  let ea := s.eaX a b
  externalControl (encode (.eciwx d a b)) false ea s fun s =>
    .next ({ s with busLog := .externalIn s.resourceId ea :: s.busLog }.setR d (s.fresh 32) |>.drawn 1).advance

/-- `ecowx` (R471): an event that the platform sees; memory is not written. -/
def execEcowx (src a b : BitVec 5) (s : State) : Result :=
  let ea := s.eaX a b
  externalControl (encode (.ecowx src a b)) true ea s fun s =>
    .next { s with busLog := .externalOut s.resourceId ea (s.r src) :: s.busLog }.advance

end Sys2Proof.Machine
end

