-- ==== Sys2Proof/Machine/FloatArith.lean ====
section
/-! DEFINITION. Floating-point arithmetic (43_floating_point.md R240 to R250): values as exact fractions, one rounding, and what each operation answers before FPSCR is updated. -/

namespace Sys2Proof.Machine

/-! ## Formats and classes (R240, R241) -/

/-- A target format: significand bits, the exponents of the smallest and largest normalized numbers, and the exponent
adjustment of an enabled overflow or underflow (R242, R247). -/
structure Format where
  precision : Nat
  emin : Int
  emax : Int
  adjust : Int
  deriving DecidableEq, Repr

/-- Double precision (R240). -/
def doubleFormat : Format := ⟨53, -1022, 1023, 1536⟩

/-- Single precision (R240). -/
def singleFormat : Format := ⟨24, -126, 127, 192⟩

/-- The sign bit. -/
def fpSign (v : Dword) : Bool := bit v 0

/-- The biased exponent `v[1:11]`. -/
def fpExponent (v : Dword) : Nat := v.toNat / 2 ^ 52 % 2048

/-- The fraction `v[12:63]`. -/
def fpFraction (v : Dword) : Nat := v.toNat % 2 ^ 52

/-- A NaN (R240 b). -/
def fpIsNaN (v : Dword) : Bool := fpExponent v == 2047 && fpFraction v != 0

/-- A signaling NaN: its quiet bit `v[12]` is 0 (R240 b). -/
def fpIsSignaling (v : Dword) : Bool := fpIsNaN v && !bit v 12

/-- An infinity. -/
def fpIsInf (v : Dword) : Bool := fpExponent v == 2047 && fpFraction v == 0

/-- A zero. -/
def fpIsZero (v : Dword) : Bool := fpExponent v == 0 && fpFraction v == 0

/-- The sign bit inverted. -/
def fpNegate (v : Dword) : Dword := v ^^^ ((1 : Dword) <<< 63)

/-- The default quiet NaN (R240 e). -/
def defaultNaN : Dword := 0x7FF8000000000000

/-- The quiet bit set (R243 a). -/
def fpQuiet (v : Dword) : Dword := v ||| ((1 : Dword) <<< 51)

/-- The integer significand of a finite value. -/
def fpSignificand (v : Dword) : Nat := if fpExponent v = 0 then fpFraction v else 2 ^ 52 + fpFraction v

/-- The exponent of a finite value's significand. -/
def fpScale (v : Dword) : Int := if fpExponent v = 0 then -1074 else (fpExponent v : Int) - 1075

/-- The class of a result (R241). -/
inductive FpClass where
  | zero
  | denormalized
  | normalized
  | infinity
  | quietNaN
  deriving DecidableEq, Repr

/-- FPRF of a class and a sign: C, FL, FG, FE, FU (R241). -/
def classBits (neg : Bool) : FpClass → BitVec 5
  | .quietNaN => 0b10001
  | .infinity => if neg then 0b01001 else 0b00101
  | .normalized => if neg then 0b01000 else 0b00100
  | .denormalized => if neg then 0b11000 else 0b10100
  | .zero => if neg then 0b10010 else 0b00010

/-- The class of a value in a format; a NaN is quiet here (R241). -/
def classIn (fmt : Format) (v : Dword) : FpClass :=
  if fpIsNaN v then .quietNaN
  else if fpIsInf v then .infinity
  else if fpIsZero v then .zero
  else if fpExponent v = 0 ∨ (fpExponent v : Int) < fmt.emin + 1023 then .denormalized
  else .normalized

/-- FPRF of a value in a format (R241). -/
def fprfOf (fmt : Format) (v : Dword) : BitVec 5 := classBits (fpSign v) (classIn fmt v)

/-- FPRF of the value with its sign inverted, NaN excepted (R266 "FPRF reflects the negated value"). -/
def negateFprf (c : BitVec 5) : BitVec 5 :=
  if c = 0b10001 then c
  else if bit c 3 then c ^^^ 0b10000
  else c ^^^ 0b01100

/-- A register holds a single-precision value (R240 c). -/
def isSingle (v : Dword) : Bool :=
  let e := fpExponent v
  if e = 2047 ∨ (897 ≤ e ∧ e ≤ 1150) then fpFraction v % 2 ^ 29 == 0
  else if 874 ≤ e ∧ e ≤ 896 then fpSignificand v % 2 ^ (926 - e) == 0
  else fpIsZero v

/-! ## Exact values and rounding (R242) -/

/-- The enables, the rounding mode, and the free value FR takes after a disabled overflow (R247). -/
structure FpControl where
  rn : BitVec 2
  ve : Bool
  oe : Bool
  ue : Bool
  ze : Bool
  freeFr : Bool
  deriving DecidableEq, Repr

/-- The controls of FPSCR (R32). -/
def fpControl (f : Word) (freeFr : Bool) : FpControl :=
  ⟨field f 30 31, bit f 24, bit f 25, bit f 26, bit f 27, freeFr⟩

/-- An exact real number: a sign and a fraction of naturals. -/
structure Exact where
  neg : Bool
  num : Nat
  den : Nat
  deriving DecidableEq, Repr

/-- `m * 2^e` as a fraction. -/
def scaled (neg : Bool) (m : Nat) (e : Int) : Exact :=
  if 0 ≤ e then ⟨neg, m * 2 ^ e.toNat, 1⟩ else ⟨neg, m, 2 ^ (-e).toNat⟩

/-- The exact value of a finite double (R240 b). -/
def exactOf (v : Dword) : Exact := scaled (fpSign v) (fpSignificand v) (fpScale v)

/-- The fraction divided by `2^q`. -/
def Exact.shift (x : Exact) (q : Int) : Exact :=
  if 0 ≤ q then { x with den := x.den * 2 ^ q.toNat } else { x with num := x.num * 2 ^ (-q).toNat }

/-- The signed numerator. -/
def Exact.signed (x : Exact) : Int := if x.neg then -(x.num : Int) else x.num

/-- The exact sum; an exact zero takes the sign of R242 d. -/
def Exact.add (x y : Exact) (rn : BitVec 2) : Exact :=
  let n := x.signed * y.den + y.signed * x.den
  let neg := if n = 0 then (if x.neg = y.neg then x.neg else rn == 3) else decide (n < 0)
  ⟨neg, n.natAbs, x.den * y.den⟩

/-- The exact product; its sign is the exclusive or (R242 d). -/
def Exact.mul (x y : Exact) : Exact := ⟨x.neg != y.neg, x.num * y.num, x.den * y.den⟩

/-- The exact quotient by a nonzero value; its sign is the exclusive or (R242 d). -/
def Exact.div (x y : Exact) : Exact := ⟨x.neg != y.neg, x.num * y.den, x.den * y.num⟩

/-- The `e` with `2^e <= |x| < 2^(e+1)`, for a nonzero value (R242 a). -/
def Exact.exponent (x : Exact) : Int :=
  let e : Int := (x.num.log2 : Int) - x.den.log2
  let y := x.shift e
  if y.num < y.den then e - 1 else e

/-- A rounding: the multiple of the unit, whether it is inexact, whether the magnitude grew (R242 b). -/
structure Rounded where
  significand : Nat
  inexact : Bool
  incremented : Bool
  deriving DecidableEq, Repr

/-- Round to a multiple of `2^q` in the mode `rn`: nearest with ties to even, toward zero, toward +infinity, toward
-infinity (R242 a). -/
def Exact.roundTo (x : Exact) (q : Int) (rn : BitVec 2) : Rounded :=
  let y := x.shift q
  let low := y.num / y.den
  let rest := y.num % y.den
  let up :=
    if rn = 0 then decide (y.den < 2 * rest) || (2 * rest == y.den && low % 2 == 1)
    else if rn = 1 then false
    else if rn = 2 then !x.neg && rest != 0
    else x.neg && rest != 0
  ⟨low + up.toNat, rest != 0, up⟩

/-- The sign bit of a double. -/
def signBits (neg : Bool) : Nat := neg.toNat * 2 ^ 63

/-- The double of `m * 2^q`, where it is one (R240 b). -/
def packDouble (neg : Bool) (m : Nat) (q : Int) : Dword :=
  if m = 0 then BitVec.ofNat 64 (signBits neg)
  else
    let top : Int := m.log2 + q
    if top < -1022 then BitVec.ofNat 64 (signBits neg + (scaled neg m (q + 1074)).num / (scaled neg m (q + 1074)).den)
    else
      let unit := scaled neg m (52 - (m.log2 : Int))
      BitVec.ofNat 64 (signBits neg + (top + 1023).toNat * 2 ^ 52 + unit.num / unit.den % 2 ^ 52)

/-- Infinity with a sign. -/
def infinityOf (neg : Bool) : Dword := BitVec.ofNat 64 (signBits neg + 2047 * 2 ^ 52)

/-- Zero with a sign. -/
def zeroOf (neg : Bool) : Dword := BitVec.ofNat 64 (signBits neg)

/-- The largest finite number of a format (R240 d). -/
def largestOf (fmt : Format) (neg : Bool) : Dword :=
  packDouble neg (2 ^ fmt.precision - 1) (fmt.emax - fmt.precision + 1)

/-- What a disabled overflow writes (R247). -/
def overflowValue (fmt : Format) (rn : BitVec 2) (neg : Bool) : Dword :=
  if rn = 0 ∨ (rn = 2 ∧ !neg) ∨ (rn = 3 ∧ neg) then infinityOf neg else largestOf fmt neg

/-! ## Outcomes -/

/-- A value delivered exactly: its class, FR = FI = 0, the exceptions given. -/
def deliver (fmt : Format) (v : Dword) (raised : Word) : FpOutcome := ⟨some v, some (fprfOf fmt v), false, false, raised⟩

/-- An enabled invalid operation or zero divide: the target and FPRF stay, FR = FI = 0 (R245, R246). -/
def withhold (raised : Word) : FpOutcome := ⟨none, none, false, false, raised⟩

/-- Invalid operation without a NaN operand (R245). -/
def invalid (fmt : Format) (ctl : FpControl) (cause : Word) : FpOutcome :=
  if ctl.ve then withhold cause else deliver fmt defaultNaN cause

/-- Zero divide (R246). -/
def zeroDivide (fmt : Format) (ctl : FpControl) (neg : Bool) : FpOutcome :=
  if ctl.ze then withhold fpZX else deliver fmt (infinityOf neg) fpZX

/-- The NaN among the operands, in their order, quieted (R243 a). -/
def propagated (operands : List Dword) : Dword := fpQuiet ((operands.find? fpIsNaN).getD defaultNaN)

/-- A NaN operand: the propagated NaN, VXSNAN if any operand is signaling, and the further causes given (R243, R245).
DESIGN CHOICE (log 45): where the NaN passed on is quiet but another cause is raised with VE = 1, the target is not
written, as R245 says, although R243 (a) gives the NaN for a quiet one. -/
def nanOutcome (fmt : Format) (ctl : FpControl) (operands : List Dword) (more : Word) : FpOutcome :=
  let raised := (if operands.any fpIsSignaling then fpVXSNAN else 0) ||| more
  if raised ≠ 0 ∧ ctl.ve then withhold raised else deliver fmt (propagated operands) raised

/-- XX where the rounding was inexact (R249). -/
def inexactBits (r : Rounded) : Word := if r.inexact then fpXX else 0

/-- The arithmetic result of a nonzero exact value: one rounding, overflow, underflow (R242, R247, R248, R249). DESIGN
CHOICE (log 49): with UE = 1 a tiny result has its exponent raised as R248 says, also the exact one of which R287 (e) says
that `fadd` returns it unchanged. -/
def roundNonzero (fmt : Format) (ctl : FpControl) (x : Exact) : FpOutcome :=
  let e := x.exponent
  let tiny := decide (e < fmt.emin)
  let unit : Int := e - fmt.precision + 1
  if tiny && ctl.ue then
    let r := x.roundTo unit ctl.rn
    ⟨some (packDouble x.neg r.significand (unit + fmt.adjust)), some (classBits x.neg .normalized), r.incremented,
      r.inexact, fpUX ||| inexactBits r⟩
  else
    let q := max unit (fmt.emin - fmt.precision + 1)
    let r := x.roundTo q ctl.rn
    if r.significand ≠ 0 ∧ fmt.emax < (r.significand.log2 : Int) + q then
      if ctl.oe then
        ⟨some (packDouble x.neg r.significand (q - fmt.adjust)), some (classBits x.neg .normalized), r.incremented,
          r.inexact, fpOX ||| inexactBits r⟩
      else
        let v := overflowValue fmt ctl.rn x.neg
        ⟨some v, some (fprfOf fmt v), ctl.freeFr, true, fpOX ||| fpXX⟩
    else
      let v := packDouble x.neg r.significand q
      ⟨some v, some (fprfOf fmt v), r.incremented, r.inexact,
        (if tiny && r.inexact then fpUX else 0) ||| inexactBits r⟩

/-- "Arithmetic result of x": an exact zero keeps its sign, anything else is rounded (R242 d, section 3). -/
def arithmeticResult (fmt : Format) (ctl : FpControl) (x : Exact) : FpOutcome :=
  if x.num = 0 then deliver fmt (zeroOf x.neg) 0 else roundNonzero fmt ctl x

/-! ## Operations -/

/-- Addition of operands that are not NaN (R251). -/
def addNumbers (fmt : Format) (ctl : FpControl) (a b : Dword) : FpOutcome :=
  if fpIsInf a then
    if fpIsInf b && fpSign a != fpSign b then invalid fmt ctl fpVXISI else deliver fmt (infinityOf (fpSign a)) 0
  else if fpIsInf b then deliver fmt (infinityOf (fpSign b)) 0
  else arithmeticResult fmt ctl ((exactOf a).add (exactOf b) ctl.rn)

/-- Floating add (R251, R252). -/
def fpAdd (fmt : Format) (a b : Dword) (ctl : FpControl) : FpOutcome :=
  if fpIsNaN a || fpIsNaN b then nanOutcome fmt ctl [a, b] 0 else addNumbers fmt ctl a b

/-- Floating subtract: a NaN `b` is not negated (R253, R254). -/
def fpSub (fmt : Format) (a b : Dword) (ctl : FpControl) : FpOutcome :=
  if fpIsNaN a || fpIsNaN b then nanOutcome fmt ctl [a, b] 0 else addNumbers fmt ctl a (fpNegate b)

/-- The product of operands is infinity times zero (R245 VXIMZ). -/
def infinityTimesZero (a c : Dword) : Bool := (fpIsInf a && fpIsZero c) || (fpIsZero a && fpIsInf c)

/-- Floating multiply (R255, R256). -/
def fpMul (fmt : Format) (a c : Dword) (ctl : FpControl) : FpOutcome :=
  if fpIsNaN a || fpIsNaN c then nanOutcome fmt ctl [a, c] 0
  else if infinityTimesZero a c then invalid fmt ctl fpVXIMZ
  else if fpIsInf a || fpIsInf c then deliver fmt (infinityOf (fpSign a != fpSign c)) 0
  else arithmeticResult fmt ctl ((exactOf a).mul (exactOf c))

/-- Floating divide (R257, R258). -/
def fpDiv (fmt : Format) (a b : Dword) (ctl : FpControl) : FpOutcome :=
  let neg := fpSign a != fpSign b
  if fpIsNaN a || fpIsNaN b then nanOutcome fmt ctl [a, b] 0
  else if fpIsInf a then if fpIsInf b then invalid fmt ctl fpVXIDI else deliver fmt (infinityOf neg) 0
  else if fpIsInf b then deliver fmt (zeroOf neg) 0
  else if fpIsZero b then if fpIsZero a then invalid fmt ctl fpVXZDZ else zeroDivide fmt ctl neg
  else arithmeticResult fmt ctl ((exactOf a).div (exactOf b))

/-- `a * c + b` for operands that are not NaN (section 4, steps 2 to 5). -/
def mulAddNumbers (fmt : Format) (ctl : FpControl) (a c b : Dword) : FpOutcome :=
  let neg := fpSign a != fpSign c
  if infinityTimesZero a c then invalid fmt ctl fpVXIMZ
  else if fpIsInf a || fpIsInf c then
    if fpIsInf b && fpSign b != neg then invalid fmt ctl fpVXISI else deliver fmt (infinityOf neg) 0
  else if fpIsInf b then deliver fmt (infinityOf (fpSign b)) 0
  else arithmeticResult fmt ctl (((exactOf a).mul (exactOf c)).add (exactOf b) ctl.rn)

/-- The final negation of `fnmadd*` and `fnmsub*`: not applied to a NaN (R243 e, R266). -/
def negateOutcome (o : FpOutcome) : FpOutcome :=
  match o.value with
  | some v => if fpIsNaN v then o else { o with value := some (fpNegate v), fprf := o.fprf.map negateFprf }
  | none => o

/-- The multiply-adds: `subtract` gives `a*c - b`, `negate` the negated forms (R262 to R269). -/
def fpMulAdd (fmt : Format) (subtract negate : Bool) (a c b : Dword) (ctl : FpControl) : FpOutcome :=
  if fpIsNaN a || fpIsNaN b || fpIsNaN c then
    nanOutcome fmt ctl [a, b, c] (if infinityTimesZero a c then fpVXIMZ else 0)
  else
    let o := mulAddNumbers fmt ctl a c (if subtract then fpNegate b else b)
    if negate then negateOutcome o else o

/-- Round to single (R270): a NaN keeps its upper 35 bits. -/
def fpRoundSingle (b : Dword) (ctl : FpControl) : FpOutcome :=
  if fpIsNaN b then
    let v := fpQuiet (b &&& ~~~((BitVec.allOnes 29).setWidth 64))
    if fpIsSignaling b then
      if ctl.ve then withhold fpVXSNAN else deliver singleFormat v fpVXSNAN
    else deliver singleFormat v 0
  else if fpIsInf b || fpIsZero b then deliver singleFormat b 0
  else arithmeticResult singleFormat ctl (exactOf b)

/-- `m * 2^e` with the sign of `b` keeps the bound of R259 as an estimate of the reciprocal of `b` and is a finite
single-precision value (R240 c). -/
def fresBoundOk (b : Dword) (m : Nat) (e : Int) : Bool :=
  let p := (exactOf b).mul (scaled (fpSign b) m e)
  decide (0 < m) && decide (m < 2 ^ 24) && decide (-149 ≤ e) && decide (e ≤ 104) && decide (255 * p.den ≤ 256 * p.num) &&
    decide (256 * p.num ≤ 257 * p.den)

/-- FP_ESTIMATE.fres (R259; log 14): the candidate of Config where it keeps the bound; else the largest single-precision
number where that does; else the exact reciprocal, which overflows where no single-precision value keeps the bound. -/
def reciprocalEstimate (b : Dword) : Exact :=
  let c := Config.fresEstimate b
  if fresBoundOk b c.1 c.2 then scaled (fpSign b) c.1 c.2
  else if fresBoundOk b (2 ^ 24 - 1) 104 then scaled (fpSign b) (2 ^ 24 - 1) 104
  else (scaled false 1 0).div (exactOf b)

/-- Floating reciprocal estimate (R259). `free` gives FR, FI and XX of an estimate. -/
def fpReciprocal (free : BitVec 3) (b : Dword) (ctl : FpControl) : FpOutcome :=
  if fpIsNaN b then nanOutcome singleFormat ctl [b] 0
  else if fpIsInf b then deliver singleFormat (zeroOf (fpSign b)) 0
  else if fpIsZero b then zeroDivide singleFormat ctl (fpSign b)
  else
    let o := arithmeticResult singleFormat ctl (reciprocalEstimate b)
    { o with
      fr := bit free 0
      fi := bit free 1
      raised := (o.raised &&& ~~~fpXX) ||| (if bit free 2 then fpXX else 0) }

/-- `e` estimates `1/sqrt(b)` with relative error at most 1/32 (R260). -/
def rsqrtBoundOk (b e : Dword) : Bool :=
  let x := exactOf e
  let p := (x.mul x).mul (exactOf b)
  !fpSign e && fpExponent e != 2047 && decide (961 * p.den ≤ 1024 * p.num) && decide (1024 * p.num ≤ 1089 * p.den)

/-- The first of the 33 candidates `k/64 * 2^-h`, `k` from 32 on, that keeps the bound. -/
def rsqrtSearch (b : Dword) (h : Int) : Dword :=
  (((List.range 33).map (fun k => packDouble false (k + 32) (-6 - h))).find? (rsqrtBoundOk b)).getD 0

/-- FP_ESTIMATE.frsqrte: the candidate of Config where it keeps the bound, else one found by search (R260; log 14). -/
def rsqrtEstimate (b : Dword) : Dword :=
  let c := Config.frsqrteEstimate b
  if rsqrtBoundOk b c then c else rsqrtSearch b ((exactOf b).exponent / 2)

/-- Floating reciprocal square root estimate (R260). `free` gives FR and FI of an estimate. -/
def fpReciprocalSqrt (free : BitVec 3) (b : Dword) (ctl : FpControl) : FpOutcome :=
  if fpIsNaN b then nanOutcome doubleFormat ctl [b] 0
  else if fpIsZero b then zeroDivide doubleFormat ctl (fpSign b)
  else if fpSign b then invalid doubleFormat ctl fpVXSQRT
  else if fpIsInf b then deliver doubleFormat (zeroOf false) 0
  else { deliver doubleFormat (rsqrtEstimate b) 0 with fr := bit free 0, fi := bit free 1 }

/-- The operand of a single-precision instruction is not representable in single format: target, FPRF, FR, FI and the
exception bits are arbitrary (R250, D17 c; log 22). -/
def undefinedSingle (value : Dword) (fprf : BitVec 5) (rounding : BitVec 2) (raised : Word) : FpOutcome :=
  ⟨some value, some fprf, bit rounding 0, bit rounding 1, raised &&& fpStickyBits⟩

/-- A conversion to an integer word: the low word (`none`: the target is not written), FR, FI, the exceptions raised
(R271). -/
structure IntegerOutcome where
  word : Option Word
  fr : Bool
  fi : Bool
  raised : Word
  deriving DecidableEq, Repr

/-- Convert to integer word in the mode `rn` (R271, R272). -/
def fpToInteger (b : Dword) (rn : BitVec 2) (ve : Bool) : IntegerOutcome :=
  let wrong (w : Word) (raised : Word) : IntegerOutcome := ⟨if ve then none else some w, false, false, raised⟩
  if fpIsNaN b then wrong 0x80000000 (if fpIsSignaling b then fpVXCVI ||| fpVXSNAN else fpVXCVI)
  else if fpIsInf b then wrong (if fpSign b then 0x80000000 else 0x7FFFFFFF) fpVXCVI
  else
    let r := (exactOf b).roundTo 0 rn
    let n : Int := if fpSign b then -(r.significand : Int) else r.significand
    if 2 ^ 31 ≤ n then wrong 0x7FFFFFFF fpVXCVI
    else if n < -(2 ^ 31) then wrong 0x80000000 fpVXCVI
    else ⟨some (BitVec.ofInt 32 n), r.incremented, r.inexact, inexactBits r⟩

/-- The place of a value that is no NaN in the order of the extended reals, zeros equal (R273). -/
def fpOrder (v : Dword) : Int := if fpSign v then -((v.toNat % 2 ^ 63 : Nat) : Int) else (v.toNat : Int)

/-- The four result bits of a compare: less, greater, equal, unordered (R273). -/
def fpCompare (a b : Dword) : BitVec 4 :=
  if fpIsNaN a || fpIsNaN b then 0b0001
  else if fpOrder a < fpOrder b then 0b1000
  else if fpOrder b < fpOrder a then 0b0100
  else 0b0010

/-! ## Formats of loads and stores (46_fp_load_store.md) -/

/-- `DOUBLE` (R381): single format to double format, exactly; a NaN keeps its bits. -/
def doubleOf (w : Word) : Dword :=
  let e := w.toNat / 2 ^ 23 % 256
  let f := w.toNat % 2 ^ 23
  let neg := bit w 0
  if e = 255 then BitVec.ofNat 64 (signBits neg + 2047 * 2 ^ 52 + f * 2 ^ 29)
  else if e = 0 then packDouble neg f (-149)
  else BitVec.ofNat 64 (signBits neg + (e + 896) * 2 ^ 52 + f * 2 ^ 29)

/-- `SINGLE` (R389): double format to single format without rounding; `none` where the stored word is undefined. -/
def singleOf (v : Dword) : Option Word :=
  let e := fpExponent v
  if 896 < e ∨ v.toNat % 2 ^ 63 = 0 then
    some (BitVec.ofNat 32 (v.toNat / 2 ^ 62 * 2 ^ 30 + v.toNat / 2 ^ 29 % 2 ^ 30))
  else if 874 ≤ e then
    some (BitVec.ofNat 32 ((fpSign v).toNat * 2 ^ 31 + (2 ^ 52 + fpFraction v) / 2 ^ (926 - e)))
  else none

end Sys2Proof.Machine
end

