-- ==== Sys2Proof/Machine/Float.lean ====
section
/-! DEFINITION. The floating-point instructions (43_floating_point.md R251 to R284): every one needs MSR[FP] (R507). -/

namespace Sys2Proof.Machine

/-- How many free values an arithmetic instruction draws, used or not. -/
def arithmeticDraws : Nat := 6

/-- The outcome of an arithmetic instruction before FPSCR is updated: undefined where a single-precision instruction has
an operand that is not representable (R250); with NI = 1 what U10's binding makes of it (R286; log 15). -/
def arithmeticOutcome (s : State) (single : Bool) (operands : List Dword) (compute : FpControl → FpOutcome) :
    FpOutcome :=
  let o :=
    if single && !operands.all isSingle then
      undefinedSingle (Config.undefinedBits 64 (s.draws + 1)) (Config.undefinedBits 5 (s.draws + 2))
        (Config.undefinedBits 2 (s.draws + 3)) (Config.undefinedBits 32 (s.draws + 4))
    else compute (fpControl s.fpscr (bit (s.fresh 1) 0))
  if bit s.fpscr 29 then Config.nonIeee s.fpscr o else o

/-- The free FR, FI and XX of an estimate (R259, R260; log 27). -/
def estimateBits (s : State) : BitVec 3 := Config.undefinedBits 3 (s.draws + 5)

/-- Register and FPSCR of an outcome, then CR1 (R244, R285: all before a trap). -/
def State.applyFloat (s : State) (d : BitVec 5) (o : FpOutcome) (rc : Bool) : State :=
  let s := match o.value with
    | some v => s.setF d v
    | none => s
  { s with fpscr := fpUpdate s.fpscr o }.recordCr1 rc

/-- An arithmetic instruction (section 3 of the rules). -/
def floatArith (s : State) (single : Bool) (d : BitVec 5) (operands : List Dword) (rc : Bool)
    (compute : FpControl → FpOutcome) : Result :=
  floatOnly s fun s =>
    finishFloat ((s.applyFloat d (arithmeticOutcome s single operands compute) rc).drawn arithmeticDraws)

/-- `faddx` (R251). -/
def execFaddx (d a b : BitVec 5) (rc : Bool) (s : State) : Result :=
  floatArith s false d [s.f a, s.f b] rc (fpAdd doubleFormat (s.f a) (s.f b))

/-- `faddsx` (R252). -/
def execFaddsx (d a b : BitVec 5) (rc : Bool) (s : State) : Result :=
  floatArith s true d [s.f a, s.f b] rc (fpAdd singleFormat (s.f a) (s.f b))

/-- `fsubx` (R253). -/
def execFsubx (d a b : BitVec 5) (rc : Bool) (s : State) : Result :=
  floatArith s false d [s.f a, s.f b] rc (fpSub doubleFormat (s.f a) (s.f b))

/-- `fsubsx` (R254). -/
def execFsubsx (d a b : BitVec 5) (rc : Bool) (s : State) : Result :=
  floatArith s true d [s.f a, s.f b] rc (fpSub singleFormat (s.f a) (s.f b))

/-- `fmulx` (R255). -/
def execFmulx (d a c : BitVec 5) (rc : Bool) (s : State) : Result :=
  floatArith s false d [s.f a, s.f c] rc (fpMul doubleFormat (s.f a) (s.f c))

/-- `fmulsx` (R256). -/
def execFmulsx (d a c : BitVec 5) (rc : Bool) (s : State) : Result :=
  floatArith s true d [s.f a, s.f c] rc (fpMul singleFormat (s.f a) (s.f c))

/-- `fdivx` (R257). -/
def execFdivx (d a b : BitVec 5) (rc : Bool) (s : State) : Result :=
  floatArith s false d [s.f a, s.f b] rc (fpDiv doubleFormat (s.f a) (s.f b))

/-- `fdivsx` (R258). -/
def execFdivsx (d a b : BitVec 5) (rc : Bool) (s : State) : Result :=
  floatArith s true d [s.f a, s.f b] rc (fpDiv singleFormat (s.f a) (s.f b))

/-- `fresx` (R259). -/
def execFresx (d b : BitVec 5) (rc : Bool) (s : State) : Result :=
  floatArith s true d [s.f b] rc (fpReciprocal (estimateBits s) (s.f b))

/-- `frsqrtex` (R260). -/
def execFrsqrtex (d b : BitVec 5) (rc : Bool) (s : State) : Result :=
  floatArith s false d [s.f b] rc (fpReciprocalSqrt (estimateBits s) (s.f b))

/-- `fmaddx` (R262). -/
def execFmaddx (d a b c : BitVec 5) (rc : Bool) (s : State) : Result :=
  floatArith s false d [s.f a, s.f b, s.f c] rc (fpMulAdd doubleFormat false false (s.f a) (s.f c) (s.f b))

/-- `fmaddsx` (R263). -/
def execFmaddsx (d a b c : BitVec 5) (rc : Bool) (s : State) : Result :=
  floatArith s true d [s.f a, s.f b, s.f c] rc (fpMulAdd singleFormat false false (s.f a) (s.f c) (s.f b))

/-- `fmsubx` (R264). -/
def execFmsubx (d a b c : BitVec 5) (rc : Bool) (s : State) : Result :=
  floatArith s false d [s.f a, s.f b, s.f c] rc (fpMulAdd doubleFormat true false (s.f a) (s.f c) (s.f b))

/-- `fmsubsx` (R265). -/
def execFmsubsx (d a b c : BitVec 5) (rc : Bool) (s : State) : Result :=
  floatArith s true d [s.f a, s.f b, s.f c] rc (fpMulAdd singleFormat true false (s.f a) (s.f c) (s.f b))

/-- `fnmaddx` (R266). -/
def execFnmaddx (d a b c : BitVec 5) (rc : Bool) (s : State) : Result :=
  floatArith s false d [s.f a, s.f b, s.f c] rc (fpMulAdd doubleFormat false true (s.f a) (s.f c) (s.f b))

/-- `fnmaddsx` (R267). -/
def execFnmaddsx (d a b c : BitVec 5) (rc : Bool) (s : State) : Result :=
  floatArith s true d [s.f a, s.f b, s.f c] rc (fpMulAdd singleFormat false true (s.f a) (s.f c) (s.f b))

/-- `fnmsubx` (R268). -/
def execFnmsubx (d a b c : BitVec 5) (rc : Bool) (s : State) : Result :=
  floatArith s false d [s.f a, s.f b, s.f c] rc (fpMulAdd doubleFormat true true (s.f a) (s.f c) (s.f b))

/-- `fnmsubsx` (R269). -/
def execFnmsubsx (d a b c : BitVec 5) (rc : Bool) (s : State) : Result :=
  floatArith s true d [s.f a, s.f b, s.f c] rc (fpMulAdd singleFormat true true (s.f a) (s.f c) (s.f b))

/-- `frspx` (R270): its operand may be any double. -/
def execFrspx (d b : BitVec 5) (rc : Bool) (s : State) : Result :=
  floatArith s false d [s.f b] rc (fpRoundSingle (s.f b))

/-- A conversion to an integer word (R271): the high word of the target and FPRF are undefined (log 27). -/
def floatConvert (s : State) (d b : BitVec 5) (rn : Word → BitVec 2) (rc : Bool) : Result :=
  floatOnly s fun s =>
    let o := fpToInteger (s.f b) (rn s.fpscr) (bit s.fpscr 24)
    let high : Word := s.fresh 32
    let fprf : BitVec 5 := (s.drawn 1).fresh 5
    finishFloat
      ((s.applyFloat d ⟨o.word.map (fun w => high ++ w), some fprf, o.fr, o.fi, o.raised⟩ rc).drawn 2)

/-- `fctiwx` (R271): the rounding mode of FPSCR. -/
def execFctiwx (d b : BitVec 5) (rc : Bool) (s : State) : Result := floatConvert s d b (fun f => field f 30 31) rc

/-- `fctiwzx` (R272): toward zero. -/
def execFctiwzx (d b : BitVec 5) (rc : Bool) (s : State) : Result := floatConvert s d b (fun _ => 1) rc

/-- A compare ends in a CR field and FPCC; C, FR and FI stay (R273). -/
def floatCompare (s : State) (crfD : BitVec 3) (a b : BitVec 5) (raised : Word → Word) : Result :=
  floatOnly s fun s =>
    let c := fpCompare (s.f a) (s.f b)
    let f := fpDerive (fpRaise (writeField s.fpscr 19 c) (raised s.fpscr))
    finishFloat { s.setCrField crfD c with fpscr := f }

/-- The exception of an unordered compare: a signaling NaN (R273). -/
def unorderedCause (a b : Dword) : Word := if fpIsSignaling a || fpIsSignaling b then fpVXSNAN else 0

/-- The exceptions of an ordered compare (R274). -/
def orderedCause (a b : Dword) (f : Word) : Word :=
  if fpIsSignaling a || fpIsSignaling b then (if bit f 24 then fpVXSNAN else fpVXSNAN ||| fpVXVC)
  else if fpIsNaN a || fpIsNaN b then fpVXVC
  else 0

/-- `fcmpu` (R273). -/
def execFcmpu (crfD : BitVec 3) (a b : BitVec 5) (s : State) : Result :=
  floatCompare s crfD a b (fun _ => unorderedCause (s.f a) (s.f b))

/-- `fcmpo` (R274). -/
def execFcmpo (crfD : BitVec 3) (a b : BitVec 5) (s : State) : Result :=
  floatCompare s crfD a b (orderedCause (s.f a) (s.f b))

/-- A move: a bit pattern goes to the target, FPSCR stays, no exception (R281 to R284, R261). -/
def floatMove (s : State) (d : BitVec 5) (v : Dword) (rc : Bool) : Result :=
  floatOnly s fun s => .next ((s.setF d v).recordCr1 rc).advance

/-- `fselx` (R261): NaN and negative numbers select `f[B]`, zeros of either sign `f[C]`. -/
def execFselx (d a b c : BitVec 5) (rc : Bool) (s : State) : Result :=
  floatMove s d (if !fpIsNaN (s.f a) && (!fpSign (s.f a) || fpIsZero (s.f a)) then s.f c else s.f b) rc

/-- `fmrx` (R281). -/
def execFmrx (d b : BitVec 5) (rc : Bool) (s : State) : Result := floatMove s d (s.f b) rc

/-- `fnegx` (R282). -/
def execFnegx (d b : BitVec 5) (rc : Bool) (s : State) : Result := floatMove s d (fpNegate (s.f b)) rc

/-- `fabsx` (R283). -/
def execFabsx (d b : BitVec 5) (rc : Bool) (s : State) : Result :=
  floatMove s d (s.f b &&& ~~~((1 : Dword) <<< 63)) rc

/-- `fnabsx` (R284). -/
def execFnabsx (d b : BitVec 5) (rc : Bool) (s : State) : Result := floatMove s d (s.f b ||| ((1 : Dword) <<< 63)) rc

/-! ## FPSCR instructions (R275 to R280) -/

/-- `mffsx` (R275): the high word is undefined (log 27). -/
def execMffsx (d : BitVec 5) (rc : Bool) (s : State) : Result :=
  floatOnly s fun s =>
    let high : Word := s.fresh 32
    .next (((s.setF d (high ++ s.fpscr)).recordCr1 rc).drawn 1).advance

/-- The exception bits of an FPSCR field that `mcrfs` clears: FX and those of `fpStickyBits` (R276). -/
def clearedByMcrfs (crfS : BitVec 3) : Word := fieldMask (4 * crfS.toNat + 3) 4 &&& (bitMask 0 ||| fpStickyBits)

/-- `mcrfs` (R276). -/
def execMcrfs (crfD crfS : BitVec 3) (s : State) : Result :=
  floatOnly s fun s =>
    let f := fpDerive (s.fpscr &&& ~~~(clearedByMcrfs crfS))
    finishFloat { s.setCrField crfD (crField s.fpscr crfS) with fpscr := f }

/-- Fields of FPSCR are replaced; FEX, VX and bit 20 are not written (R277, R278). -/
def fpReplace (f mask new : Word) : Word := fpDerive (merge (mask &&& ~~~(bitMask 1 ||| bitMask 2 ||| bitMask 20)) f new)

/-- `mtfsfix` (R277). -/
def execMtfsfix (crfD : BitVec 3) (imm : BitVec 4) (rc : Bool) (s : State) : Result :=
  floatOnly s fun s =>
    let mask := fieldMask (4 * crfD.toNat + 3) 4
    let f := fpReplace s.fpscr mask (writeField 0 (4 * crfD.toNat + 3) imm)
    finishFpscrWrite s.fpscr ({ s with fpscr := f }.recordCr1 rc)

/-- `mtfsfx` (R278). -/
def execMtfsfx (fm : BitVec 8) (b : BitVec 5) (rc : Bool) (s : State) : Result :=
  floatOnly s fun s =>
    let f := fpReplace s.fpscr (fieldsMask fm) ((s.f b).setWidth 32)
    finishFpscrWrite s.fpscr ({ s with fpscr := f }.recordCr1 rc)

/-- `mtfsb0x` (R279): FEX and VX cannot be cleared directly. -/
def execMtfsb0x (crbD : BitVec 5) (rc : Bool) (s : State) : Result :=
  floatOnly s fun s =>
    let f := if crbD = 1 ∨ crbD = 2 then s.fpscr else writeBit s.fpscr crbD.toNat false
    finishFloat ({ s with fpscr := fpDerive f }.recordCr1 rc)

/-- `mtfsb1x` (R280): FEX, VX and bit 20 cannot be set; an exception bit that was 0 also sets FX. -/
def execMtfsb1x (crbD : BitVec 5) (rc : Bool) (s : State) : Result :=
  floatOnly s fun s =>
    let f :=
      if crbD = 1 ∨ crbD = 2 ∨ crbD = 20 then s.fpscr
      else if bitMask crbD.toNat &&& fpStickyBits ≠ 0 then fpRaise s.fpscr (bitMask crbD.toNat)
      else writeBit s.fpscr crbD.toNat true
    finishFloat ({ s with fpscr := fpDerive f }.recordCr1 rc)

end Sys2Proof.Machine
end

