-- ==== Sys2Proof/Machine/FloatLoadStore.lean ====
section
/-! DEFINITION. Floating-point loads and stores (46_fp_load_store.md): each first tests MSR[FP] (R380 a); none touches FPSCR, CR or XER (R380 e). -/

namespace Sys2Proof.Machine

/-- A floating-point load: the access, `f[D]`, then `r[A] <- EA` for an update form (R380 f). -/
def floatLoad (insn : Word) (update : Option (BitVec 5)) (d : BitVec 5) (ea : Word) (n : Nat)
    (value : List Byte → Dword) (s : State) : Result :=
  floatOnly s fun s =>
    match loadData insn update.isSome ea n s with
    | .stop r => r
    | .done bytes s => .next ((s.setF d (value bytes)).update update ea).advance

/-- A floating-point store: the access, then `r[A] <- EA` for an update form (R380 f). -/
def floatStore (insn : Word) (update : Option (BitVec 5)) (ea : Word) (data : List Byte) (s : State) : Result :=
  floatOnly s fun s =>
    match storeData insn update.isSome ea data s with
    | .stop r => r
    | .done _ s => .next (s.update update ea).advance

/-- The doubleword of a loaded single (R381). -/
def singleValue (bytes : List Byte) : Dword := doubleOf (wordOf bytes)

/-- The word `stfs` stores: SINGLE, or an arbitrary word where R389 c leaves it undefined. -/
def storedSingle (s : State) (v : Dword) : Word :=
  match singleOf v with
  | some w => w
  | none => s.fresh 32

/-- The state in which a single is stored: a draw is used where R389 c asks for one. -/
def drawnForSingle (s : State) (v : Dword) : State :=
  match singleOf v with
  | some _ => s
  | none => s.drawn 1

/-- Store a register as a single (R389). -/
def storeSingle (insn : Word) (update : Option (BitVec 5)) (ea : Word) (v : Dword) (s : State) : Result :=
  floatOnly s fun s => floatStore insn update ea (bytesOf 4 (storedSingle s v).toNat) (drawnForSingle s v)

/-- `lfs` (R381). -/
def execLfs (d a : BitVec 5) (disp : BitVec 16) (s : State) : Result :=
  floatLoad (encode (.lfs d a disp)) none d (s.eaD a disp) 4 singleValue s

/-- `lfsu` (R382). -/
def execLfsu (d a : BitVec 5) (disp : BitVec 16) (s : State) : Result :=
  floatLoad (encode (.lfsu d a disp)) (some a) d (s.eaD a disp) 4 singleValue s

/-- `lfsx` (R383). -/
def execLfsx (d a b : BitVec 5) (s : State) : Result :=
  floatLoad (encode (.lfsx d a b)) none d (s.eaX a b) 4 singleValue s

/-- `lfsux` (R384). -/
def execLfsux (d a b : BitVec 5) (s : State) : Result :=
  floatLoad (encode (.lfsux d a b)) (some a) d (s.eaX a b) 4 singleValue s

/-- `lfd` (R385). -/
def execLfd (d a : BitVec 5) (disp : BitVec 16) (s : State) : Result :=
  floatLoad (encode (.lfd d a disp)) none d (s.eaD a disp) 8 dwordOf s

/-- `lfdu` (R386). -/
def execLfdu (d a : BitVec 5) (disp : BitVec 16) (s : State) : Result :=
  floatLoad (encode (.lfdu d a disp)) (some a) d (s.eaD a disp) 8 dwordOf s

/-- `lfdx` (R387). -/
def execLfdx (d a b : BitVec 5) (s : State) : Result :=
  floatLoad (encode (.lfdx d a b)) none d (s.eaX a b) 8 dwordOf s

/-- `lfdux` (R388). -/
def execLfdux (d a b : BitVec 5) (s : State) : Result :=
  floatLoad (encode (.lfdux d a b)) (some a) d (s.eaX a b) 8 dwordOf s

/-- `stfs` (R389). -/
def execStfs (src a : BitVec 5) (disp : BitVec 16) (s : State) : Result :=
  storeSingle (encode (.stfs src a disp)) none (s.eaD a disp) (s.f src) s

/-- `stfsu` (R390). -/
def execStfsu (src a : BitVec 5) (disp : BitVec 16) (s : State) : Result :=
  storeSingle (encode (.stfsu src a disp)) (some a) (s.eaD a disp) (s.f src) s

/-- `stfsx` (R391). -/
def execStfsx (src a b : BitVec 5) (s : State) : Result :=
  storeSingle (encode (.stfsx src a b)) none (s.eaX a b) (s.f src) s

/-- `stfsux` (R392). -/
def execStfsux (src a b : BitVec 5) (s : State) : Result :=
  storeSingle (encode (.stfsux src a b)) (some a) (s.eaX a b) (s.f src) s

/-- `stfd` (R393). -/
def execStfd (src a : BitVec 5) (disp : BitVec 16) (s : State) : Result :=
  floatStore (encode (.stfd src a disp)) none (s.eaD a disp) (bytesOf 8 (s.f src).toNat) s

/-- `stfdu` (R394). -/
def execStfdu (src a : BitVec 5) (disp : BitVec 16) (s : State) : Result :=
  floatStore (encode (.stfdu src a disp)) (some a) (s.eaD a disp) (bytesOf 8 (s.f src).toNat) s

/-- `stfdx` (R395). -/
def execStfdx (src a b : BitVec 5) (s : State) : Result :=
  floatStore (encode (.stfdx src a b)) none (s.eaX a b) (bytesOf 8 (s.f src).toNat) s

/-- `stfdux` (R396). -/
def execStfdux (src a b : BitVec 5) (s : State) : Result :=
  floatStore (encode (.stfdux src a b)) (some a) (s.eaX a b) (bytesOf 8 (s.f src).toNat) s

/-- `stfiwx` (R397): the low word, with no conversion; after a single-precision result the rule stores what the register
holds (log 18). -/
def execStfiwx (src a b : BitVec 5) (s : State) : Result :=
  floatStore (encode (.stfiwx src a b)) none (s.eaX a b) (bytesOf 4 ((s.f src).setWidth 32).toNat) s

end Sys2Proof.Machine
end

