-- ==== Sys2Proof/Machine/Integer.lean ====
section
/-! DEFINITION. Integer arithmetic (40_integer_arithmetic.md) and compares (41_integer_compare_logical.md R201 to R204). -/

namespace Sys2Proof.Machine

/-- An instruction that ends in a target register, XER and CR0 (R170). -/
def arith (s : State) (d : BitVec 5) (res : Word) (ca ov : Option Bool) (rc : Bool) : Result :=
  .next (s.writeArith d res ca ov rc).advance

/-- A sum `x + y + c` written as the XO forms write it: CA where `withCa`, OV and SO where OE (R170). -/
def addForm (s : State) (d : BitVec 5) (x y : Word) (c withCa oe rc : Bool) : Result :=
  arith s d (sum x y c) (if withCa then some (carry x y c) else none) (if oe then some (overflows x y c) else none) rc

/-- `addi` (R171). -/
def execAddi (d a : BitVec 5) (simm : BitVec 16) (s : State) : Result :=
  arith s d (s.base a + simmOf simm) none none false

/-- `addis` (R172). -/
def execAddis (d a : BitVec 5) (simm : BitVec 16) (s : State) : Result :=
  arith s d (s.base a + shiftedOf simm) none none false

/-- `addic` (R173): `r[A]`, not `(rA|0)`. -/
def execAddic (d a : BitVec 5) (simm : BitVec 16) (s : State) : Result :=
  addForm s d (s.r a) (simmOf simm) false true false false

/-- `addic.` (R174). -/
def execAddicRc (d a : BitVec 5) (simm : BitVec 16) (s : State) : Result :=
  addForm s d (s.r a) (simmOf simm) false true false true

/-- `subfic` (R175). -/
def execSubfic (d a : BitVec 5) (simm : BitVec 16) (s : State) : Result :=
  addForm s d (~~~(s.r a)) (simmOf simm) true true false false

/-- `mulli` (R176). -/
def execMulli (d a : BitVec 5) (simm : BitVec 16) (s : State) : Result :=
  arith s d (BitVec.ofInt 32 ((s.r a).toInt * (simmOf simm).toInt)) none none false

/-- `addx` (R177). -/
def execAddx (d a b : BitVec 5) (oe rc : Bool) (s : State) : Result :=
  addForm s d (s.r a) (s.r b) false false oe rc

/-- `addcx` (R178). -/
def execAddcx (d a b : BitVec 5) (oe rc : Bool) (s : State) : Result :=
  addForm s d (s.r a) (s.r b) false true oe rc

/-- `addex` (R179). -/
def execAddex (d a b : BitVec 5) (oe rc : Bool) (s : State) : Result :=
  addForm s d (s.r a) (s.r b) (xerCa s.xer) true oe rc

/-- `addmex` (R180). -/
def execAddmex (d a : BitVec 5) (oe rc : Bool) (s : State) : Result :=
  addForm s d (s.r a) 0xFFFFFFFF (xerCa s.xer) true oe rc

/-- `addzex` (R181). -/
def execAddzex (d a : BitVec 5) (oe rc : Bool) (s : State) : Result :=
  addForm s d (s.r a) 0 (xerCa s.xer) true oe rc

/-- `subfx` (R182). -/
def execSubfx (d a b : BitVec 5) (oe rc : Bool) (s : State) : Result :=
  addForm s d (~~~(s.r a)) (s.r b) true false oe rc

/-- `subfcx` (R183). -/
def execSubfcx (d a b : BitVec 5) (oe rc : Bool) (s : State) : Result :=
  addForm s d (~~~(s.r a)) (s.r b) true true oe rc

/-- `subfex` (R184). -/
def execSubfex (d a b : BitVec 5) (oe rc : Bool) (s : State) : Result :=
  addForm s d (~~~(s.r a)) (s.r b) (xerCa s.xer) true oe rc

/-- `subfmex` (R185). -/
def execSubfmex (d a : BitVec 5) (oe rc : Bool) (s : State) : Result :=
  addForm s d (~~~(s.r a)) 0xFFFFFFFF (xerCa s.xer) true oe rc

/-- `subfzex` (R186). -/
def execSubfzex (d a : BitVec 5) (oe rc : Bool) (s : State) : Result :=
  addForm s d (~~~(s.r a)) 0 (xerCa s.xer) true oe rc

/-- `negx` (R187): `¬a + 0 + 1`; its overflow is exactly `a = 0x8000_0000`. -/
def execNegx (d a : BitVec 5) (oe rc : Bool) (s : State) : Result :=
  addForm s d (~~~(s.r a)) 0 true false oe rc

/-- `mullwx` (R188). -/
def execMullwx (d a b : BitVec 5) (oe rc : Bool) (s : State) : Result :=
  let p := (s.r a).toInt * (s.r b).toInt
  arith s d (BitVec.ofInt 32 p) none (if oe then some (outOfRange p) else none) rc

/-- `mulhwx` (R189). -/
def execMulhwx (d a b : BitVec 5) (rc : Bool) (s : State) : Result :=
  arith s d (BitVec.ofInt 32 ((s.r a).toInt * (s.r b).toInt / 2 ^ 32)) none none rc

/-- `mulhwux` (R190). -/
def execMulhwux (d a b : BitVec 5) (rc : Bool) (s : State) : Result :=
  arith s d (BitVec.ofNat 32 ((s.r a).toNat * (s.r b).toNat / 2 ^ 32)) none none rc

/-- A division the rules leave undefined: the target and CR0's LT, GT, EQ are arbitrary, OV is 1 where OE, SO is
recorded (R191, R192; log 34). -/
def undefinedQuotient (s : State) (d : BitVec 5) (oe rc : Bool) : Result :=
  let res := s.fresh 32
  let order : BitVec 3 := (s.drawn 1).fresh 3
  let t := (s.drawn 2).writeArith d res none (if oe then some true else none) false
  .next (if rc then t.setCrField 0 (order ++ ofFlag (xerSo t.xer)) else t).advance

/-- `divwx` (R191): the quotient truncated toward zero. -/
def execDivwx (d a b : BitVec 5) (oe rc : Bool) (s : State) : Result :=
  if s.r b = 0 ∨ (s.r a = 0x80000000 ∧ s.r b = 0xFFFFFFFF) then undefinedQuotient s d oe rc
  else
    arith s d (BitVec.ofInt 32 (Int.tdiv (s.r a).toInt (s.r b).toInt)) none (if oe then some false else none) rc

/-- `divwux` (R192). -/
def execDivwux (d a b : BitVec 5) (oe rc : Bool) (s : State) : Result :=
  if s.r b = 0 then undefinedQuotient s d oe rc
  else arith s d (BitVec.ofNat 32 ((s.r a).toNat / (s.r b).toNat)) none (if oe then some false else none) rc

/-- A comparison ends in one CR field (R200 b). -/
def compareInto (s : State) (crfD : BitVec 3) (c : BitVec 4) : Result := .next (s.setCrField crfD c).advance

/-- `cmpi` (R201). -/
def execCmpi (crfD : BitVec 3) (a : BitVec 5) (simm : BitVec 16) (s : State) : Result :=
  compareInto s crfD (compareSigned (s.r a) (simmOf simm) (xerSo s.xer))

/-- `cmp` (R202). -/
def execCmp (crfD : BitVec 3) (a b : BitVec 5) (s : State) : Result :=
  compareInto s crfD (compareSigned (s.r a) (s.r b) (xerSo s.xer))

/-- `cmpli` (R203). -/
def execCmpli (crfD : BitVec 3) (a : BitVec 5) (uimm : BitVec 16) (s : State) : Result :=
  compareInto s crfD (compareUnsigned (s.r a) (uimmOf uimm) (xerSo s.xer))

/-- `cmpl` (R204). -/
def execCmpl (crfD : BitVec 3) (a b : BitVec 5) (s : State) : Result :=
  compareInto s crfD (compareUnsigned (s.r a) (s.r b) (xerSo s.xer))

end Sys2Proof.Machine
end

