-- ==== Sys2Proof/Machine/Logical.lean ====
section
/-! DEFINITION. Logical, sign-extension and count instructions (41_integer_compare_logical.md R205 to R221). The target is the field A. -/

namespace Sys2Proof.Machine

/-- A logical result goes to `r[A]`, and to CR0 where recorded; XER is not written (R200 e). -/
def logical (s : State) (a : BitVec 5) (res : Word) (rc : Bool) : Result :=
  .next (s.writeArith a res none none rc).advance

/-- `andi.` (R205): always records. -/
def execAndiRc (src a : BitVec 5) (uimm : BitVec 16) (s : State) : Result := logical s a (s.r src &&& uimmOf uimm) true

/-- `andis.` (R206): always records. -/
def execAndisRc (src a : BitVec 5) (uimm : BitVec 16) (s : State) : Result :=
  logical s a (s.r src &&& shiftedOf uimm) true

/-- `ori` (R207). -/
def execOri (src a : BitVec 5) (uimm : BitVec 16) (s : State) : Result := logical s a (s.r src ||| uimmOf uimm) false

/-- `oris` (R208). -/
def execOris (src a : BitVec 5) (uimm : BitVec 16) (s : State) : Result :=
  logical s a (s.r src ||| shiftedOf uimm) false

/-- `xori` (R209). -/
def execXori (src a : BitVec 5) (uimm : BitVec 16) (s : State) : Result := logical s a (s.r src ^^^ uimmOf uimm) false

/-- `xoris` (R210). -/
def execXoris (src a : BitVec 5) (uimm : BitVec 16) (s : State) : Result :=
  logical s a (s.r src ^^^ shiftedOf uimm) false

/-- `andx` (R211). -/
def execAndx (src a b : BitVec 5) (rc : Bool) (s : State) : Result := logical s a (s.r src &&& s.r b) rc

/-- `andcx` (R212). -/
def execAndcx (src a b : BitVec 5) (rc : Bool) (s : State) : Result := logical s a (s.r src &&& ~~~(s.r b)) rc

/-- `orx` (R213). -/
def execOrx (src a b : BitVec 5) (rc : Bool) (s : State) : Result := logical s a (s.r src ||| s.r b) rc

/-- `orcx` (R214). -/
def execOrcx (src a b : BitVec 5) (rc : Bool) (s : State) : Result := logical s a (s.r src ||| ~~~(s.r b)) rc

/-- `xorx` (R215). -/
def execXorx (src a b : BitVec 5) (rc : Bool) (s : State) : Result := logical s a (s.r src ^^^ s.r b) rc

/-- `nandx` (R216). -/
def execNandx (src a b : BitVec 5) (rc : Bool) (s : State) : Result := logical s a (~~~(s.r src &&& s.r b)) rc

/-- `norx` (R217). -/
def execNorx (src a b : BitVec 5) (rc : Bool) (s : State) : Result := logical s a (~~~(s.r src ||| s.r b)) rc

/-- `eqvx` (R218). -/
def execEqvx (src a b : BitVec 5) (rc : Bool) (s : State) : Result := logical s a (~~~(s.r src ^^^ s.r b)) rc

/-- `extsbx` (R219). -/
def execExtsbx (src a : BitVec 5) (rc : Bool) (s : State) : Result :=
  logical s a (((s.r src).setWidth 8).signExtend 32) rc

/-- `extshx` (R220). -/
def execExtshx (src a : BitVec 5) (rc : Bool) (s : State) : Result :=
  logical s a (((s.r src).setWidth 16).signExtend 32) rc

/-- How many of the bits from bit `32 - k` on are 0 before the first 1, of the low `k` bits (R221). -/
def leadingZeros (v : Word) : (k : Nat) → Nat
  | 0 => 0
  | k + 1 => if v.getLsbD k then 0 else leadingZeros v k + 1

/-- `cntlzwx` (R221). -/
def execCntlzwx (src a : BitVec 5) (rc : Bool) (s : State) : Result :=
  logical s a (BitVec.ofNat 32 (leadingZeros (s.r src) 32)) rc

end Sys2Proof.Machine
end

