-- ==== Sys2Proof/Machine/Rotate.lean ====
section
/-! DEFINITION. Rotates and shifts (42_integer_rotate_shift.md). The target is the field A. -/

namespace Sys2Proof.Machine

/-- `rlwinmx` (R231). -/
def execRlwinmx (src a sh mb me : BitVec 5) (rc : Bool) (s : State) : Result :=
  logical s a ((s.r src).rotateLeft sh.toNat &&& maskBits mb me) rc

/-- `rlwimix` (R232): the bits outside the mask stay. -/
def execRlwimix (src a sh mb me : BitVec 5) (rc : Bool) (s : State) : Result :=
  logical s a (merge (maskBits mb me) (s.r a) ((s.r src).rotateLeft sh.toNat)) rc

/-- `rlwnmx` (R233). -/
def execRlwnmx (src a b mb me : BitVec 5) (rc : Bool) (s : State) : Result :=
  logical s a ((s.r src).rotateLeft (s.rotateAmount b) &&& maskBits mb me) rc

/-- `slwx` (R234): an amount of 32 or more gives 0. -/
def execSlwx (src a b : BitVec 5) (rc : Bool) (s : State) : Result := logical s a (s.r src <<< s.shiftAmount b) rc

/-- `srwx` (R235): an amount of 32 or more gives 0. -/
def execSrwx (src a b : BitVec 5) (rc : Bool) (s : State) : Result := logical s a (s.r src >>> s.shiftAmount b) rc

/-- CA of an algebraic right shift: the source is negative and a 1 was shifted out (R236). -/
def shiftedOut (v : Word) (n : Nat) : Bool := bit v 0 && decide (v.toNat % 2 ^ n ≠ 0)

/-- An algebraic right shift: copies of the sign enter, CA is written (R236). -/
def shiftAlgebraic (s : State) (src a : BitVec 5) (n : Nat) (rc : Bool) : Result :=
  .next (s.writeArith a ((s.r src).sshiftRight n) (some (shiftedOut (s.r src) n)) none rc).advance

/-- `srawx` (R236). -/
def execSrawx (src a b : BitVec 5) (rc : Bool) (s : State) : Result := shiftAlgebraic s src a (s.shiftAmount b) rc

/-- `srawix` (R237). -/
def execSrawix (src a sh : BitVec 5) (rc : Bool) (s : State) : Result := shiftAlgebraic s src a sh.toNat rc

end Sys2Proof.Machine
end

