-- ==== Sys2Proof/Machine/Sync.lean ====
section
/-! DEFINITION. Memory synchronization (45_memory_synchronization.md): the reservation and the barriers. -/

namespace Sys2Proof.Machine

/-- The reservation granule of an address: its bits 0:26 (R59, R361 (3)). -/
def granule (a : Word) : BitVec 27 := field a 0 26

/-- `lwarx` (R361): the reservation is set and the word loaded in one step; misaligned it takes the alignment
exception, and to a location that is not `ram` it is refused (D6). DESIGN CHOICE (log 51): a `lwarx` that takes the DSI of
a DABR match leaves the reservation as it was; a DABR match comes before the refusal (log 50). -/
def execLwarx (d a b : BitVec 5) (s : State) : Result :=
  let ea := s.eaX a b
  neverSplit (encode (.lwarx d a b)) false ea s fun s =>
    match readSpan ea 4 s with
    | .stop r => r
    | .done bytes t =>
      if kindOf s.memMap ea 4 = some .ram then
        .next ({ t with reserve := true, reserveAddr := granule ea }.setR d (wordOf bytes)).advance
      else .refused .lwarxNotRam

/-- `stwcx.` reports: EQ says whether it stored (R363). -/
def State.conditionalResult (s : State) (stored : Bool) : State :=
  s.setCrField 0 (orderField false false stored (xerSo s.xer))

/-- The store of `stwcx.`: the reservation is cleared and CR0 says that it stored (R363 (3)). -/
def storeConditional (src : BitVec 5) (ea : Word) (s : State) : Result :=
  match writeSpan ea (lowBytes 4 (s.r src)) s with
  | .stop r => r
  | .done _ s => .next ({ s with reserve := false }.conditionalResult true).advance

/-- `stwcx.` that does not store (R363 (4)). -/
def failConditional (s : State) : Result := .next ({ s with reserve := false }.conditionalResult false).advance

/-- `stwcx.` (R363, R364): with the reservation of another granule it is open whether it stores (log 36). -/
def execStwcxRc (src a b : BitVec 5) (s : State) : Result :=
  let ea := s.eaX a b
  neverSplit (encode (.stwcx_rc src a b)) false ea s fun s =>
    if !s.reserve then failConditional s
    else if granule ea = s.reserveAddr then storeConditional src ea s
    else if bit (s.fresh 1) 0 then storeConditional src ea (s.drawn 1)
    else failConditional (s.drawn 1)

/-- `sync` (R370): in one processor's order everything before it is complete; it advances the code-modification
sequence of R112. -/
def execSync (s : State) : Result := .next { s with stale := s.stale.map StaleWord.synced }.advance

/-- `eieio` (R371): orders what is already in order here. -/
def execEieio (s : State) : Result := .next s.advance

/-- `isync` (R372): refetches; it ends the code-modification sequence of R112. -/
def execIsync (s : State) : Result := .next { s with stale := afterIsync [] s.stale }.advance

end Sys2Proof.Machine
end

