-- ==== Sys2Proof/Machine/Monitor.lean ====
section
/-! DEFINITION. The performance monitor, an agent of its own (60_exceptions.md R540 to R554), driven by an event oracle. -/

namespace Sys2Proof.Machine

/-- The time-base bit that RTCSELECT names: Table 9-4's reading (R52, C1; log 20). -/
def selectedTimeBaseBit (mmcr0 : Word) : Nat :=
  if field mmcr0 7 8 = 0 then 63
  else if field mmcr0 7 8 = 1 then 55
  else if field mmcr0 7 8 = 2 then 51
  else 47

/-- The selected time-base bit went from 0 to 1 since the last cycle (R553, R548 c). DESIGN CHOICE (log 7): the bit is chosen
by MMCR0 as it is in the cycle, also where it rose before an `mtspr` changed RTCSELECT, INTONBITTRANS or ENINT. -/
def State.timeBaseRose (s : State) : Bool := bit s.tbRose (selectedTimeBaseBit s.mmcr0)

/-- PMC1SELECT (R51). -/
def select1 (mmcr0 : Word) : Nat := (field mmcr0 19 25).toNat

/-- PMC2SELECT (R51). -/
def select2 (mmcr0 : Word) : Nat := (field mmcr0 26 31).toNat

/-- The threshold events of PMC1 (R550). -/
def isThreshold (select : Nat) : Bool := select == 9 || select == 10 || select == 23 || select == 24

/-- Counting is enabled by the state (R541). -/
def State.countEnabled (s : State) : Bool :=
  let m := s.mmcr0
  let user := bit s.msr 17
  let marked := bit s.msr 29
  !bit m 0 && !(bit m 1 && !user) && !(bit m 2 && user) && !(bit m 3 && marked) && !(bit m 4 && !marked)

/-- FROZEN1 (R549 a). -/
def State.frozen1 (s : State) : Bool := bit s.mmcr0 6 && s.pmSignaled

/-- FROZEN2: not with PMC2COUNTCTL = 1 or PMC2INTCONTROL = 1 (R549 a, b, c). -/
def State.frozen2 (s : State) : Bool := bit s.mmcr0 6 && s.pmSignaled && !bit s.mmcr0 18 && !bit s.mmcr0 17

/-- PMC2_TRIGGERED (R549 d). -/
def State.triggered2 (s : State) : Bool := !bit s.mmcr0 18 || bit s.pmc1 0 || s.pmSignaled

/-- The threshold is exceeded: a miss is being timed and its shadow has reached 0, so that it has taken more cycles than
THRESHOLD, whatever else the cycle brings (R550 a, R58). -/
def State.thresholdExceeded (s : State) : Bool := s.marked.isSome && s.thresholdShadow == 0

/-- The load or store whose miss arrives in this cycle (R550). -/
def State.arriving (s : State) (o : MonitorCycle) : Option Sample := o.missArrives.bind (s.accesses[·]?)

/-- How often the event that PMC1SELECT names occurs in this cycle: the oracle's count within the event's range
(R546, R548 a to c); once where the threshold of a monitored miss is exceeded (R550 a); a select without an event counts
anything from 0 to 4 (R546 d). -/
def State.count1 (s : State) (o : MonitorCycle) : Nat :=
  let n := select1 s.mmcr0
  if n = 0 then 0
  else if n = 1 then 1
  else if n = 3 then s.timeBaseRose.toNat
  else if n = 2 ∨ n = 4 ∨ n = 14 ∨ n = 15 ∨ 25 ≤ n then min o.count1 4
  else if isThreshold n then s.thresholdExceeded.toNat
  else min o.count1 1

/-- How often the event that PMC2SELECT names occurs in this cycle (R547, R548). -/
def State.count2 (s : State) (o : MonitorCycle) : Nat :=
  let n := select2 s.mmcr0
  if n = 0 then 0
  else if n = 1 then 1
  else if n = 3 then s.timeBaseRose.toNat
  else if n = 8 then min o.count2 2
  else if n = 2 ∨ n = 4 ∨ n = 18 ∨ 21 ≤ n then min o.count2 4
  else min o.count2 1

/-- The threshold shadow after a cycle: loaded where a miss arrives, else counted down (R58, R550 a). -/
def State.nextShadow (s : State) (o : MonitorCycle) : BitVec 6 :=
  if (s.arriving o).isSome then field s.mmcr0 10 15
  else if s.thresholdShadow = 0 then 0
  else s.thresholdShadow - 1

/-- The miss being timed after a cycle: the one that arrives, else the one there was, until it is counted or ends
(R550 a). -/
def State.nextMarked (s : State) (o : MonitorCycle) : Option Sample :=
  match s.arriving o with
  | some m => some m
  | none => if s.thresholdExceeded || o.missEnds then none else s.marked

/-- How a counter that counts from `old` to `new` came to be negative: `why` where it turns negative now. -/
def NegativeCause.after (before why : NegativeCause) (old new : Word) : NegativeCause :=
  if bit new 0 && !bit old 0 then why else before

/-- What a count of PMC1 in this cycle counts (R552 a, b). -/
def State.countedCause (s : State) : NegativeCause :=
  match s.marked with
  | some m => if isThreshold (select1 s.mmcr0) then .threshold m else .counted
  | none => .counted

/-- PMC1 after a cycle (R542). -/
def State.nextPmc1 (s : State) (o : MonitorCycle) : Word :=
  if s.countEnabled && !s.frozen1 then s.pmc1 + BitVec.ofNat 32 (s.count1 o) else s.pmc1

/-- PMC2 after a cycle (R542). -/
def State.nextPmc2 (s : State) (o : MonitorCycle) : Word :=
  if s.countEnabled && !s.frozen2 && s.triggered2 then s.pmc2 + BitVec.ofNat 32 (s.count2 o) else s.pmc2

/-- The counting half of a cycle: both counters on the state at its start (R542), and the timing of the marked miss
(R550). -/
def State.countCycle (s : State) (o : MonitorCycle) : State :=
  { s with
    pmc1 := s.nextPmc1 o
    pmc2 := s.nextPmc2 o
    pmc1Cause := s.pmc1Cause.after s.countedCause s.pmc1 (s.nextPmc1 o)
    pmc2Cause := s.pmc2Cause.after .counted s.pmc2 (s.nextPmc2 o)
    thresholdShadow := s.nextShadow o
    marked := s.nextMarked o }

/-- PMC1 signals: it is negative and its interrupt is enabled (R543). -/
def State.signals1 (s : State) : Bool := bit s.mmcr0 16 && bit s.pmc1 0

/-- PMC2 signals (R543). -/
def State.signals2 (s : State) : Bool := bit s.mmcr0 17 && bit s.pmc2 0

/-- A negative counter signals, whatever the time base does: a level (R543). -/
def State.countersSignal (s : State) : Bool := bit s.mmcr0 5 && (s.signals1 || s.signals2)

/-- SIGNAL, on the values after the cycle's counting (R543). -/
def State.signals (s : State) : Bool := s.countersSignal || (bit s.mmcr0 5 && bit s.mmcr0 9 && s.timeBaseRose)

/-- SIA and SDA are frozen: ENINT is 0 after a signal (R540, R544 (1), R556 b; log 52). -/
def State.samplesFrozen (s : State) : Bool := s.everSignaled && !bit s.mmcr0 5

/-- A counter that `mtspr` made negative signals (R552 d, R592 a). -/
def State.signalsWritten (s : State) : Bool :=
  (s.signals1 && s.pmc1Cause == .written) || (s.signals2 && s.pmc2Cause == .written)

/-- SIA and SDA at a signal, from the state after counting (R552): any addresses where `mtspr` made the counter negative
(R552 d, U15); the very load or store whose miss made PMC1 negative, where that was a threshold event (R552 a); else the
last instruction completed, and any operand address (R552 b, c; log 29). -/
def State.signalSample (s : State) (any : Sample) : Sample :=
  if s.signalsWritten then any
  else
    match s.signals1, s.pmc1Cause with
    | true, .threshold m => m
    | _, _ => ⟨s.lastCompleted.getD any.insn, any.operand⟩

/-- SIA and SDA in a cycle without a signal: while a threshold event is selected SDA follows the marked operation that is
detected and SIA the one that finishes (R552 a); else any addresses (R552 c). DESIGN CHOICE (log 29): so too with MMCR0 = 0, as
after HRESET, where R556 (c) calls the monitor inert and R584 stopped: only the counters hold, and what an `mtspr` put into SIA
or SDA may be overwritten. -/
def State.runningSample (s : State) (o : MonitorCycle) : Sample :=
  if isThreshold (select1 s.mmcr0) then
    ⟨match s.marked with
      | some m => if s.thresholdExceeded || o.missEnds || (s.arriving o).isSome then m.insn else s.sia
      | none => s.sia,
      match s.arriving o with
      | some m => m.operand
      | none => s.sda⟩
  else ⟨o.someInsn, o.someOperand⟩

/-- SIA and SDA after a cycle whose counting gives `t`: they stay while they are frozen (R544 (1), R552), and not for MMCR0 = 0
alone (DESIGN CHOICE, log 29). -/
def State.nextSample (s t : State) (o : MonitorCycle) : Sample :=
  if s.samplesFrozen then ⟨s.sia, s.sda⟩
  else if t.signals then t.signalSample ⟨o.someInsn, o.someOperand⟩
  else s.runningSample o

/-- What signaling does: ENINT is cleared, the interrupt is pending, SIA and SDA are frozen, the DISCOUNT freeze starts and
PMC2 is triggered (R544, R549 a, d). -/
def State.signalInterrupt (s : State) : State :=
  { s with mmcr0 := writeBit s.mmcr0 5 false, pmiPending := true, pmSignaled := true, everSignaled := true }

/-- The end of an `mtspr` to MMCR0, PMC1 or PMC2: a counter that is negative with its interrupt and ENINT enabled signals at
that step (R592 a, U15; R543, R544 "at once"; log 29), with SIA and SDA as at any signal, the addresses that are open free
values (R552 d). The next cycle then finds it signaled whatever it counts (95_test_vectors.md E4). -/
def State.signalNow (s : State) : State :=
  if s.countersSignal then
    let sampled := s.signalSample ⟨s.fresh 32, (s.drawn 1).fresh 32⟩
    { (s.drawn 2).signalInterrupt with sia := sampled.insn, sda := sampled.operand }
  else s

/-- One cycle of the performance monitor (R542 to R544, R552; log 29). -/
def State.monitorCycle (s : State) (o : MonitorCycle) : State :=
  let t := s.countCycle o
  let sampled := s.nextSample t o
  { (if t.signals then t.signalInterrupt else t) with sia := sampled.insn, sda := sampled.operand, tbRose := 0 }

end Sys2Proof.Machine
end

