-- ==== Sys2Proof/Machine/System.lean ====
section
/-! DEFINITION. System linkage, traps, moves to and from CR, XER, MSR, the special-purpose registers and the time base (47_branch_cr_system.md R425 to R438), with the SPR map of 10_state.md R47. -/

namespace Sys2Proof.Machine

/-- `sc` (R425, R516): the system call exception, resuming at the next instruction. -/
def execSc (s : State) : Result := .next (takeException .systemCall (s.pc + 4) 0 s)

/-- `rfi` (R436). -/
def execRfi (s : State) : Result := supervisorOnly s returnFromException

/-- The trap condition (R426). -/
def trapHolds (trapOn : BitVec 5) (a b : Word) : Bool :=
  (bit trapOn 0 && decide (a.toInt < b.toInt)) || (bit trapOn 1 && decide (b.toInt < a.toInt)) ||
    (bit trapOn 2 && decide (a = b)) || (bit trapOn 3 && decide (a.toNat < b.toNat)) ||
    (bit trapOn 4 && decide (b.toNat < a.toNat))

/-- A trap that holds raises the program exception; otherwise nothing changes (R426). -/
def trapIf (s : State) (holds : Bool) : Result := if holds then raise .program trapCause s else .next s.advance

/-- `tw` (R427). -/
def execTw (trapOn a b : BitVec 5) (s : State) : Result := trapIf s (trapHolds trapOn (s.r a) (s.r b))

/-- `twi` (R428). -/
def execTwi (trapOn a : BitVec 5) (simm : BitVec 16) (s : State) : Result :=
  trapIf s (trapHolds trapOn (s.r a) (simmOf simm))

/-- `mcrxr` (R430): XER[0:3] moves and is cleared. -/
def execMcrxr (crfD : BitVec 3) (s : State) : Result :=
  .next { s.setCrField crfD (crField s.xer 0) with xer := s.xer &&& ~~~(fieldMask 3 4) }.advance

/-- `mfcr` (R431). -/
def execMfcr (d : BitVec 5) (s : State) : Result := .next (s.setR d s.cr).advance

/-- `mtcrf` (R432). -/
def execMtcrf (src : BitVec 5) (crm : BitVec 8) (s : State) : Result :=
  .next { s with cr := merge (fieldsMask crm) s.cr (s.r src) }.advance

/-- `mfmsr` (R433). -/
def execMfmsr (d : BitVec 5) (s : State) : Result := supervisorOnly s fun s => .next (s.setR d s.msr).advance

/-- `mtmsr` (R434): the defined bits are written and govern the next instruction. -/
def execMtmsr (src : BitVec 5) (s : State) : Result :=
  supervisorOnly s fun s => enterMsr (merge definedMsrBits s.msr (s.r src)) (s.pc + 4) s

/-- The special-purpose registers of R47. -/
inductive Spr where
  | xer
  | lr
  | ctr
  | dsisr
  | dar
  | dec
  | sdr1
  | srr0
  | srr1
  | sprg (n : BitVec 2)
  | ear
  | tbl
  | tbu
  | pvr
  | bat (n : BitVec 4)
  | mmcr0
  | pmc1
  | pmc2
  | sia
  | sda
  | hid0
  | iabr
  | dabr
  | pir
  deriving DecidableEq, Repr

/-- The SPR number map (R47). -/
def sprOf (n : BitVec 10) : Option Spr :=
  let k := n.toNat
  if k = 1 then some .xer
  else if k = 8 then some .lr
  else if k = 9 then some .ctr
  else if k = 18 then some .dsisr
  else if k = 19 then some .dar
  else if k = 22 then some .dec
  else if k = 25 then some .sdr1
  else if k = 26 then some .srr0
  else if k = 27 then some .srr1
  else if 272 ≤ k ∧ k ≤ 275 then some (.sprg (BitVec.ofNat 2 (k - 272)))
  else if k = 282 then some .ear
  else if k = 284 then some .tbl
  else if k = 285 then some .tbu
  else if k = 287 then some .pvr
  else if 528 ≤ k ∧ k ≤ 543 then some (.bat (BitVec.ofNat 4 (k - 528)))
  else if k = 952 then some .mmcr0
  else if k = 953 then some .pmc1
  else if k = 954 then some .pmc2
  else if k = 955 then some .sia
  else if k = 959 then some .sda
  else if k = 1008 then some .hid0
  else if k = 1010 then some .iabr
  else if k = 1013 then some .dabr
  else if k = 1023 then some .pir
  else none

/-- A register as `mfspr` reads it; `none` where it does not (R47: TBL and TBU are read by `mftb`). -/
def State.readSpr (s : State) : Spr → Option Word
  | .xer => some s.xer
  | .lr => some s.lr
  | .ctr => some s.ctr
  | .dsisr => some s.dsisr
  | .dar => some s.dar
  | .dec => some s.dec
  | .sdr1 => some s.sdr1
  | .srr0 => some s.srr0
  | .srr1 => some s.srr1
  | .sprg n => some s.sprg[n.toNat]
  | .ear => some s.ear
  | .tbl => none
  | .tbu => none
  | .pvr => some s.pvr
  | .bat n => some s.bat[n.toNat]
  | .mmcr0 => some s.mmcr0
  | .pmc1 => some s.pmc1
  | .pmc2 => some s.pmc2
  | .sia => some s.sia
  | .sda => some s.sda
  | .hid0 => some s.hid0
  | .iabr => some s.iabr
  | .dabr => some s.dabr
  | .pir => some s.pir

/-- The bits of XER that exist: 0:2 and 25:31 (R27, R437). -/
def xerBits : Word := 0xE000007F

/-- The time base takes a new value; bits that go from 0 to 1 are reported to the performance monitor (R56, R553, U9). -/
def State.setTimeBase (s : State) (v : BitVec 64) : State := { s with tb := v, tbRose := s.tbRose ||| (v &&& ~~~s.tb) }

/-- DEC takes a new value; a change of bit 0 from 0 to 1 sets the decrementer latch (R57, R437). -/
def State.setDec (s : State) (v : Word) : State :=
  { s with dec := v, decPending := s.decPending || (bit v 0 && !bit s.dec 0) }

/-- MMCR0 takes a new value; one with ENINT = 1 ends the freeze, and a counter that is still negative then signals again at
once (R50, R437, R543, R544, R549). DESIGN CHOICE (log 7): a bit of the time base that rose before stays risen for the next
cycle, which reads it under the new value. DESIGN CHOICE (log 29): a miss being timed stays marked with the shadow it was given
and runs out under the new value, so that it may count as another threshold event than it arrived for. -/
def State.setMmcr0 (s : State) (v : Word) : State :=
  State.signalNow { s with mmcr0 := v, pmSignaled := s.pmSignaled && !bit v 5 }

/-- PMC1 takes a value that software writes; the signal condition is evaluated on it at that step (R53, R592 a, U15). -/
def State.setPmc1 (s : State) (v : Word) : State := State.signalNow { s with pmc1 := v, pmc1Cause := .written }

/-- PMC2 takes a value that software writes, as in `setPmc1`. -/
def State.setPmc2 (s : State) (v : Word) : State := State.signalNow { s with pmc2 := v, pmc2Cause := .written }

/-- `mtspr` of a register with the effects of R437; PVR cannot be written; reserved bits are stored whole but for XER (log 24). -/
def State.writeSpr (s : State) (v : Word) : Spr → Option State
  | .xer => some { s with xer := v &&& xerBits }
  | .lr => some { s with lr := v }
  | .ctr => some { s with ctr := v }
  | .dsisr => some { s with dsisr := v }
  | .dar => some { s with dar := v }
  | .dec => some (s.setDec v)
  | .sdr1 => some { s with sdr1 := v }
  | .srr0 => some { s with srr0 := v }
  | .srr1 => some { s with srr1 := v }
  | .sprg n => some { s with sprg := s.sprg.set n.toNat v }
  | .ear => some { s with ear := v }
  | .tbl => some (s.setTimeBase (s.tb.extractLsb' 32 32 ++ v))
  | .tbu => some (s.setTimeBase (v ++ s.tb.extractLsb' 0 32))
  | .pvr => none
  | .bat n => some { s with bat := s.bat.set n.toNat v }
  | .mmcr0 => some (s.setMmcr0 v)
  | .pmc1 => some (s.setPmc1 v)
  | .pmc2 => some (s.setPmc2 v)
  | .sia => some { s with sia := v }
  | .sda => some { s with sda := v }
  | .hid0 => some { s with hid0 := v }
  | .iabr => some { s with iabr := v }
  | .dabr => some { s with dabr := v }
  | .pir => some { s with pir := v }

/-- Bit value 16 of an SPR number marks it supervisor-level (R48). -/
def sprSupervisor (n : BitVec 10) : Bool := n.getLsbD 4

/-- A number that is no row of R47 for this direction: in user mode the program exception, illegal type; in supervisor
mode the invalid form, refused (R48, R435 (2), D9; log 39). -/
def sprMissing (s : State) : Result := if s.userMode then raiseIllegal s else .refused .sprNotImplemented

/-- In user mode a supervisor-level number is the program exception, privileged type (R48, R435 (1)). -/
def sprAccess (n : BitVec 10) (s : State) (go : State → Result) : Result :=
  if s.userMode && sprSupervisor n then raisePrivileged s else go s

/-- `mfspr` (R435). -/
def execMfspr (d : BitVec 5) (spr : BitVec 10) (s : State) : Result :=
  sprAccess spr s fun s =>
    match (sprOf spr).bind s.readSpr with
    | some v => .next (s.setR d v).advance
    | none => sprMissing s

/-- `mtspr` (R437); a write of PVR is refused (R41, D20; log 39). -/
def execMtspr (src : BitVec 5) (spr : BitVec 10) (s : State) : Result :=
  sprAccess spr s fun s =>
    match sprOf spr with
    | none => sprMissing s
    | some reg =>
      match s.writeSpr (s.r src) reg with
      | some t => .next t.advance
      | none => .refused .pvrReadOnly

/-- `mftb` (R438): TBR 268 is TBL, 269 is TBU; any other number is an illegal instruction. -/
def execMftb (d : BitVec 5) (tbr : BitVec 10) (s : State) : Result :=
  if tbr.toNat = 268 then .next (s.setR d (s.tb.extractLsb' 0 32)).advance
  else if tbr.toNat = 269 then .next (s.setR d (s.tb.extractLsb' 32 32)).advance
  else raiseIllegal s

end Sys2Proof.Machine
end

