-- ==== Sys2Proof/Machine/Dispatch.lean ====
section
/-! DEFINITION. The dispatch: one arm per instruction, each one direct call of its meaning. -/

namespace Sys2Proof.Machine

/-- What an instruction does to the state. -/
def exec (i : Instr) (s : State) : Host.Outcome State Fault Refusal :=
  match i with
  | .addi d a simm => Sys2Proof.Machine.execAddi d a simm s
  | .addis d a simm => Sys2Proof.Machine.execAddis d a simm s
  | .addic d a simm => Sys2Proof.Machine.execAddic d a simm s
  | .addic_rc d a simm => Sys2Proof.Machine.execAddicRc d a simm s
  | .subfic d a simm => Sys2Proof.Machine.execSubfic d a simm s
  | .mulli d a simm => Sys2Proof.Machine.execMulli d a simm s
  | .addx d a b oe rc => Sys2Proof.Machine.execAddx d a b oe rc s
  | .addcx d a b oe rc => Sys2Proof.Machine.execAddcx d a b oe rc s
  | .addex d a b oe rc => Sys2Proof.Machine.execAddex d a b oe rc s
  | .addmex d a oe rc => Sys2Proof.Machine.execAddmex d a oe rc s
  | .addzex d a oe rc => Sys2Proof.Machine.execAddzex d a oe rc s
  | .subfx d a b oe rc => Sys2Proof.Machine.execSubfx d a b oe rc s
  | .subfcx d a b oe rc => Sys2Proof.Machine.execSubfcx d a b oe rc s
  | .subfex d a b oe rc => Sys2Proof.Machine.execSubfex d a b oe rc s
  | .subfmex d a oe rc => Sys2Proof.Machine.execSubfmex d a oe rc s
  | .subfzex d a oe rc => Sys2Proof.Machine.execSubfzex d a oe rc s
  | .negx d a oe rc => Sys2Proof.Machine.execNegx d a oe rc s
  | .mullwx d a b oe rc => Sys2Proof.Machine.execMullwx d a b oe rc s
  | .divwx d a b oe rc => Sys2Proof.Machine.execDivwx d a b oe rc s
  | .divwux d a b oe rc => Sys2Proof.Machine.execDivwux d a b oe rc s
  | .mulhwx d a b rc => Sys2Proof.Machine.execMulhwx d a b rc s
  | .mulhwux d a b rc => Sys2Proof.Machine.execMulhwux d a b rc s
  | .cmpi crfD a simm => Sys2Proof.Machine.execCmpi crfD a simm s
  | .cmp crfD a b => Sys2Proof.Machine.execCmp crfD a b s
  | .cmpli crfD a uimm => Sys2Proof.Machine.execCmpli crfD a uimm s
  | .cmpl crfD a b => Sys2Proof.Machine.execCmpl crfD a b s
  | .andi_rc src a uimm => Sys2Proof.Machine.execAndiRc src a uimm s
  | .andis_rc src a uimm => Sys2Proof.Machine.execAndisRc src a uimm s
  | .ori src a uimm => Sys2Proof.Machine.execOri src a uimm s
  | .oris src a uimm => Sys2Proof.Machine.execOris src a uimm s
  | .xori src a uimm => Sys2Proof.Machine.execXori src a uimm s
  | .xoris src a uimm => Sys2Proof.Machine.execXoris src a uimm s
  | .andx src a b rc => Sys2Proof.Machine.execAndx src a b rc s
  | .andcx src a b rc => Sys2Proof.Machine.execAndcx src a b rc s
  | .orx src a b rc => Sys2Proof.Machine.execOrx src a b rc s
  | .orcx src a b rc => Sys2Proof.Machine.execOrcx src a b rc s
  | .xorx src a b rc => Sys2Proof.Machine.execXorx src a b rc s
  | .nandx src a b rc => Sys2Proof.Machine.execNandx src a b rc s
  | .norx src a b rc => Sys2Proof.Machine.execNorx src a b rc s
  | .eqvx src a b rc => Sys2Proof.Machine.execEqvx src a b rc s
  | .extsbx src a rc => Sys2Proof.Machine.execExtsbx src a rc s
  | .extshx src a rc => Sys2Proof.Machine.execExtshx src a rc s
  | .cntlzwx src a rc => Sys2Proof.Machine.execCntlzwx src a rc s
  | .rlwinmx src a sh mb me rc => Sys2Proof.Machine.execRlwinmx src a sh mb me rc s
  | .rlwimix src a sh mb me rc => Sys2Proof.Machine.execRlwimix src a sh mb me rc s
  | .rlwnmx src a b mb me rc => Sys2Proof.Machine.execRlwnmx src a b mb me rc s
  | .slwx src a b rc => Sys2Proof.Machine.execSlwx src a b rc s
  | .srwx src a b rc => Sys2Proof.Machine.execSrwx src a b rc s
  | .srawx src a b rc => Sys2Proof.Machine.execSrawx src a b rc s
  | .srawix src a sh rc => Sys2Proof.Machine.execSrawix src a sh rc s
  | .faddx d a b rc => Sys2Proof.Machine.execFaddx d a b rc s
  | .faddsx d a b rc => Sys2Proof.Machine.execFaddsx d a b rc s
  | .fsubx d a b rc => Sys2Proof.Machine.execFsubx d a b rc s
  | .fsubsx d a b rc => Sys2Proof.Machine.execFsubsx d a b rc s
  | .fdivx d a b rc => Sys2Proof.Machine.execFdivx d a b rc s
  | .fdivsx d a b rc => Sys2Proof.Machine.execFdivsx d a b rc s
  | .fmulx d a c rc => Sys2Proof.Machine.execFmulx d a c rc s
  | .fmulsx d a c rc => Sys2Proof.Machine.execFmulsx d a c rc s
  | .fresx d b rc => Sys2Proof.Machine.execFresx d b rc s
  | .frsqrtex d b rc => Sys2Proof.Machine.execFrsqrtex d b rc s
  | .fselx d a b c rc => Sys2Proof.Machine.execFselx d a b c rc s
  | .fmaddx d a b c rc => Sys2Proof.Machine.execFmaddx d a b c rc s
  | .fmaddsx d a b c rc => Sys2Proof.Machine.execFmaddsx d a b c rc s
  | .fmsubx d a b c rc => Sys2Proof.Machine.execFmsubx d a b c rc s
  | .fmsubsx d a b c rc => Sys2Proof.Machine.execFmsubsx d a b c rc s
  | .fnmaddx d a b c rc => Sys2Proof.Machine.execFnmaddx d a b c rc s
  | .fnmaddsx d a b c rc => Sys2Proof.Machine.execFnmaddsx d a b c rc s
  | .fnmsubx d a b c rc => Sys2Proof.Machine.execFnmsubx d a b c rc s
  | .fnmsubsx d a b c rc => Sys2Proof.Machine.execFnmsubsx d a b c rc s
  | .frspx d b rc => Sys2Proof.Machine.execFrspx d b rc s
  | .fctiwx d b rc => Sys2Proof.Machine.execFctiwx d b rc s
  | .fctiwzx d b rc => Sys2Proof.Machine.execFctiwzx d b rc s
  | .fcmpu crfD a b => Sys2Proof.Machine.execFcmpu crfD a b s
  | .fcmpo crfD a b => Sys2Proof.Machine.execFcmpo crfD a b s
  | .mffsx d rc => Sys2Proof.Machine.execMffsx d rc s
  | .mcrfs crfD crfS => Sys2Proof.Machine.execMcrfs crfD crfS s
  | .mtfsfix crfD imm rc => Sys2Proof.Machine.execMtfsfix crfD imm rc s
  | .mtfsfx fm b rc => Sys2Proof.Machine.execMtfsfx fm b rc s
  | .mtfsb0x crbD rc => Sys2Proof.Machine.execMtfsb0x crbD rc s
  | .mtfsb1x crbD rc => Sys2Proof.Machine.execMtfsb1x crbD rc s
  | .fmrx d b rc => Sys2Proof.Machine.execFmrx d b rc s
  | .fnegx d b rc => Sys2Proof.Machine.execFnegx d b rc s
  | .fabsx d b rc => Sys2Proof.Machine.execFabsx d b rc s
  | .fnabsx d b rc => Sys2Proof.Machine.execFnabsx d b rc s
  | .lbz d a disp => Sys2Proof.Machine.execLbz d a disp s
  | .lbzu d a disp => Sys2Proof.Machine.execLbzu d a disp s
  | .lbzx d a b => Sys2Proof.Machine.execLbzx d a b s
  | .lbzux d a b => Sys2Proof.Machine.execLbzux d a b s
  | .lhz d a disp => Sys2Proof.Machine.execLhz d a disp s
  | .lhzu d a disp => Sys2Proof.Machine.execLhzu d a disp s
  | .lhzx d a b => Sys2Proof.Machine.execLhzx d a b s
  | .lhzux d a b => Sys2Proof.Machine.execLhzux d a b s
  | .lha d a disp => Sys2Proof.Machine.execLha d a disp s
  | .lhau d a disp => Sys2Proof.Machine.execLhau d a disp s
  | .lhax d a b => Sys2Proof.Machine.execLhax d a b s
  | .lhaux d a b => Sys2Proof.Machine.execLhaux d a b s
  | .lwz d a disp => Sys2Proof.Machine.execLwz d a disp s
  | .lwzu d a disp => Sys2Proof.Machine.execLwzu d a disp s
  | .lwzx d a b => Sys2Proof.Machine.execLwzx d a b s
  | .lwzux d a b => Sys2Proof.Machine.execLwzux d a b s
  | .stb src a disp => Sys2Proof.Machine.execStb src a disp s
  | .stbu src a disp => Sys2Proof.Machine.execStbu src a disp s
  | .stbx src a b => Sys2Proof.Machine.execStbx src a b s
  | .stbux src a b => Sys2Proof.Machine.execStbux src a b s
  | .sth src a disp => Sys2Proof.Machine.execSth src a disp s
  | .sthu src a disp => Sys2Proof.Machine.execSthu src a disp s
  | .sthx src a b => Sys2Proof.Machine.execSthx src a b s
  | .sthux src a b => Sys2Proof.Machine.execSthux src a b s
  | .stw src a disp => Sys2Proof.Machine.execStw src a disp s
  | .stwu src a disp => Sys2Proof.Machine.execStwu src a disp s
  | .stwx src a b => Sys2Proof.Machine.execStwx src a b s
  | .stwux src a b => Sys2Proof.Machine.execStwux src a b s
  | .lhbrx d a b => Sys2Proof.Machine.execLhbrx d a b s
  | .lwbrx d a b => Sys2Proof.Machine.execLwbrx d a b s
  | .sthbrx src a b => Sys2Proof.Machine.execSthbrx src a b s
  | .stwbrx src a b => Sys2Proof.Machine.execStwbrx src a b s
  | .lmw d a disp => Sys2Proof.Machine.execLmw d a disp s
  | .stmw src a disp => Sys2Proof.Machine.execStmw src a disp s
  | .lswi d a nb => Sys2Proof.Machine.execLswi d a nb s
  | .lswx d a b => Sys2Proof.Machine.execLswx d a b s
  | .stswi src a nb => Sys2Proof.Machine.execStswi src a nb s
  | .stswx src a b => Sys2Proof.Machine.execStswx src a b s
  | .lwarx d a b => Sys2Proof.Machine.execLwarx d a b s
  | .stwcx_rc src a b => Sys2Proof.Machine.execStwcxRc src a b s
  | .sync => Sys2Proof.Machine.execSync s
  | .eieio => Sys2Proof.Machine.execEieio s
  | .isync => Sys2Proof.Machine.execIsync s
  | .lfs d a disp => Sys2Proof.Machine.execLfs d a disp s
  | .lfsu d a disp => Sys2Proof.Machine.execLfsu d a disp s
  | .lfsx d a b => Sys2Proof.Machine.execLfsx d a b s
  | .lfsux d a b => Sys2Proof.Machine.execLfsux d a b s
  | .lfd d a disp => Sys2Proof.Machine.execLfd d a disp s
  | .lfdu d a disp => Sys2Proof.Machine.execLfdu d a disp s
  | .lfdx d a b => Sys2Proof.Machine.execLfdx d a b s
  | .lfdux d a b => Sys2Proof.Machine.execLfdux d a b s
  | .stfs src a disp => Sys2Proof.Machine.execStfs src a disp s
  | .stfsu src a disp => Sys2Proof.Machine.execStfsu src a disp s
  | .stfsx src a b => Sys2Proof.Machine.execStfsx src a b s
  | .stfsux src a b => Sys2Proof.Machine.execStfsux src a b s
  | .stfd src a disp => Sys2Proof.Machine.execStfd src a disp s
  | .stfdu src a disp => Sys2Proof.Machine.execStfdu src a disp s
  | .stfdx src a b => Sys2Proof.Machine.execStfdx src a b s
  | .stfdux src a b => Sys2Proof.Machine.execStfdux src a b s
  | .stfiwx src a b => Sys2Proof.Machine.execStfiwx src a b s
  | .bx li aa lk => Sys2Proof.Machine.execBx li aa lk s
  | .bcx bo bi bd aa lk => Sys2Proof.Machine.execBcx bo bi bd aa lk s
  | .bclrx bo bi lk => Sys2Proof.Machine.execBclrx bo bi lk s
  | .bcctrx bo bi lk => Sys2Proof.Machine.execBcctrx bo bi lk s
  | .crand crbD crbA crbB => Sys2Proof.Machine.execCrand crbD crbA crbB s
  | .crandc crbD crbA crbB => Sys2Proof.Machine.execCrandc crbD crbA crbB s
  | .creqv crbD crbA crbB => Sys2Proof.Machine.execCreqv crbD crbA crbB s
  | .crnand crbD crbA crbB => Sys2Proof.Machine.execCrnand crbD crbA crbB s
  | .crnor crbD crbA crbB => Sys2Proof.Machine.execCrnor crbD crbA crbB s
  | .cror crbD crbA crbB => Sys2Proof.Machine.execCror crbD crbA crbB s
  | .crorc crbD crbA crbB => Sys2Proof.Machine.execCrorc crbD crbA crbB s
  | .crxor crbD crbA crbB => Sys2Proof.Machine.execCrxor crbD crbA crbB s
  | .mcrf crfD crfS => Sys2Proof.Machine.execMcrf crfD crfS s
  | .sc => Sys2Proof.Machine.execSc s
  | .rfi => Sys2Proof.Machine.execRfi s
  | .tw trapOn a b => Sys2Proof.Machine.execTw trapOn a b s
  | .twi trapOn a simm => Sys2Proof.Machine.execTwi trapOn a simm s
  | .mcrxr crfD => Sys2Proof.Machine.execMcrxr crfD s
  | .mfcr d => Sys2Proof.Machine.execMfcr d s
  | .mtcrf src crm => Sys2Proof.Machine.execMtcrf src crm s
  | .mfmsr d => Sys2Proof.Machine.execMfmsr d s
  | .mtmsr src => Sys2Proof.Machine.execMtmsr src s
  | .mfspr d spr => Sys2Proof.Machine.execMfspr d spr s
  | .mtspr src spr => Sys2Proof.Machine.execMtspr src spr s
  | .mftb d tbr => Sys2Proof.Machine.execMftb d tbr s
  | .dcbf a b => Sys2Proof.Machine.execDcbf a b s
  | .dcbi a b => Sys2Proof.Machine.execDcbi a b s
  | .dcbst a b => Sys2Proof.Machine.execDcbst a b s
  | .dcbt a b => Sys2Proof.Machine.execDcbt a b s
  | .dcbtst a b => Sys2Proof.Machine.execDcbtst a b s
  | .dcbz a b => Sys2Proof.Machine.execDcbz a b s
  | .icbi a b => Sys2Proof.Machine.execIcbi a b s
  | .mfsr d sr => Sys2Proof.Machine.execMfsr d sr s
  | .mfsrin d b => Sys2Proof.Machine.execMfsrin d b s
  | .mtsr src sr => Sys2Proof.Machine.execMtsr src sr s
  | .mtsrin src b => Sys2Proof.Machine.execMtsrin src b s
  | .tlbie b => Sys2Proof.Machine.execTlbie b s
  | .tlbsync => Sys2Proof.Machine.execTlbsync s
  | .tlbsync_b31 => Sys2Proof.Machine.execTlbsyncB31 s
  | .eciwx d a b => Sys2Proof.Machine.execEciwx d a b s
  | .ecowx src a b => Sys2Proof.Machine.execEcowx src a b s

end Sys2Proof.Machine
end

