-- ==== Sys2Proof/Machine/Environment.lean ====
section
/-! DEFINITION. The steps of the agents other than the processor (70_reset_and_hazards.md R605 (2) to (4)): timers, other bus masters, pins, HRESET. -/

namespace Sys2Proof.Machine

/-- The core's clocks run: it is not in checkstop. While HRESET is asserted they do: only the processor stands still
(R520 b, R580, R605). -/
def State.clocked (s : State) : Bool := !s.checkstop

/-- The processor may step (R605 (1)). -/
def State.executing (s : State) : Bool := s.clocked && !s.hresetPin

/-- One tick of the time base and the decrementer, while TBEN is asserted (R56, R57). -/
def State.timerTick (s : State) : State :=
  if s.tbenPin then (s.setTimeBase (s.tb + 1)).setDec (s.dec - 1) else s

/-- Some byte of `n` bytes from `a` on lies in the reserved granule (R366). -/
def State.meetsReservation (s : State) (a : Word) (n : Nat) : Bool :=
  s.reserve && (span a n).any (fun b => granule b == s.reserveAddr)

/-- Another bus master stores: memory changes, and a reservation it meets is lost (R366); fetch may go on seeing the
old words until that master has published its store, whose part of the sequence of R112 is that master's to run (log 6). While the core's clocks are stopped its reservation keeps its value (R520 b; log 42). -/
def State.otherStore (s : State) (a : Word) (data : List Byte) : State :=
  let t := s.storeSpan false a data
  if s.clocked && s.meetsReservation a data.length then { t with reserve := false } else t

/-- Another bus master kills a block: a reservation in it is lost (R366). -/
def State.otherKill (s : State) (a : Word) : State :=
  if s.clocked && s.meetsReservation (blockBase a) Config.cacheBlock then { s with reserve := false } else s

/-- A machine-check cause: MCP counts only with HID0[EMCP]; with MSR[ME] = 0 it is a checkstop, else it waits for the
instruction boundary (R502, R520 a, d; log 25). -/
def State.machineCheckCause (s : State) (source : MachineCheckSource) : State :=
  if source = .mcpPin ∧ bit s.hid0 0 = false then s
  else if bit s.msr 19 then { s with machineChecks := s.machineChecks ++ [source] }
  else { s with checkstop := true }

/-- HRESET is negated (R580): the state the rules give; every register they leave unspecified takes an arbitrary value,
fixed from then on (R583); memory stays (R582); PVR is hard-wired. Of the model's own fields those that the performance monitor
reads (`tbRose`, `lastCompleted`, `accesses` and the causes of its counters) start anew, the others stay (log 23).
DESIGN CHOICE (log 23): the rises of time-base bits collected before HRESET are forgotten, and the change of TB to an unspecified
value is no transition, of which R75, R583 and R548 (c) say nothing. DESIGN CHOICE (log 23): HRESET falls between two steps, so
that the bytes of a store are all old or all new after it, where R582 lets a store in progress be lost or partial. -/
def State.hardReset (s : State) : State :=
  let any (n k : Nat) : BitVec n := Config.undefinedBits n (s.draws + k)
  { s with
    gpr := Vector.ofFn fun i : Fin 32 => any 32 i.val
    fpr := Vector.ofFn fun i : Fin 32 => any 64 (32 + i.val)
    bat := Vector.ofFn fun i : Fin 16 => any 32 (64 + i.val)
    sr := Vector.ofFn fun i : Fin 16 => any 32 (80 + i.val)
    sprg := Vector.ofFn fun i : Fin 4 => any 32 (96 + i.val)
    cr := any 32 100
    xer := any 32 101 &&& xerBits
    lr := any 32 102
    ctr := any 32 103
    fpscr := fpDerive (any 32 104)
    srr0 := any 32 105
    srr1 := any 32 106
    dar := any 32 107
    dsisr := any 32 108
    dec := any 32 109
    tb := any 64 110
    pir := any 32 111
    hid0 := any 32 112
    iabr := any 32 113
    dabr := any 32 114
    ear := any 32 115
    sdr1 := any 32 116
    sia := any 32 117
    sda := any 32 118
    thresholdShadow := any 6 119
    marked := none
    lastCompleted := none
    accesses := []
    pmc1Cause := .counted
    pmc2Cause := .counted
    reserveAddr := any 27 120
    draws := s.draws + 121
    pc := 0xFFF00100
    msr := 0x00000040
    mmcr0 := 0
    pmc1 := 0
    pmc2 := 0
    reserve := false
    intPin := false
    smiPin := false
    hresetPin := false
    decPending := false
    pmiPending := false
    pmSignaled := false
    everSignaled := false
    sresetPending := false
    machineChecks := []
    checkstop := false
    tbRose := 0 }

/-- A step of an agent that the core's clocks drive: nothing in checkstop (R520 b, R605). -/
def State.whenClocked (s : State) (t : State) : State := if s.clocked then t else s

/-- The step of an agent other than the processor. -/
def applyEvent (e : EnvStep) (s : State) : State :=
  match e with
  | .processor => s
  | .timerTick => s.whenClocked s.timerTick
  | .monitorCycle o => s.whenClocked (s.monitorCycle o)
  | .otherStore a data => s.otherStore a data
  | .otherKill a => s.otherKill a
  | .reservationLost => s.whenClocked { s with reserve := false }
  | .codePublished a => { s with stale := s.stale.map (fun b => StaleWord.published b a) }
  | .intPin level => { s with intPin := level }
  | .smiPin level => { s with smiPin := level }
  | .tbenPin level => { s with tbenPin := level }
  | .hresetPin true => { s with hresetPin := true }
  | .hresetPin false => if s.hresetPin then s.hardReset else s
  | .sreset => s.whenClocked { s with sresetPending := true }
  | .checkstopIn => s.whenClocked { s with checkstop := true }
  | .machineCheck source => s.whenClocked (s.machineCheckCause source)

end Sys2Proof.Machine
end

