-- ==== Sys2Proof/Machine/Processor.lean ====
section
/-! DEFINITION. The processor's step (70_reset_and_hazards.md R605 (1)): the pending exception of highest priority (60_exceptions.md R518), else fetch, decode and run one instruction, then trace (R512); and the choice of the agent that steps. -/

namespace Sys2Proof.Machine

/-- IABR names the instruction at `pc` and is enabled (R514). -/
def State.breakpoint (s : State) : Bool := bit s.iabr 30 && s.iabr >>> 2 == s.pc >>> 2

/-- The cause bits of a machine check: SRR1[12:15], which the rule holds undefined (R502; log 25). -/
def machineCheckInfo (s : State) : Word := (s.fresh 4).setWidth 32 <<< 16

/-- The exception that waits at this instruction boundary, taken; `none` where there is none: machine check (or
checkstop), SRESET, the breakpoint of the instruction at `pc`, then with MSR[EE] = 1 the system management, external,
performance monitor and decrementer interrupts (R518; DEDUCED order of the breakpoint, log 21). A handler of the performance
monitor interrupt is entered with MMCR0[ENINT] = 0, also where software set it again while the interrupt waited (R544 (2),
R556 e; DEDUCED, log 52); PM_SIGNALED is a signal's to set and stays (R61, R549 a). -/
def pendingException (s : State) : Option State :=
  match s.machineChecks with
  | _ :: rest =>
    if bit s.msr 19 then
      some (takeException .machineCheck s.pc (machineCheckInfo s) ({ s with machineChecks := rest }.drawn 1))
    else some { s with checkstop := true }
  | [] =>
    if s.sresetPending then some (takeException .systemReset s.pc 0 { s with sresetPending := false })
    else if s.breakpoint then some (takeException .instructionBreakpoint s.pc 0 s)
    else if !bit s.msr 16 then none
    else if s.smiPin then some (takeException .systemManagement s.pc 0 s)
    else if s.intPin then some (takeException .external s.pc 0 s)
    else if s.pmiPending then
      some (takeException .performanceMonitor s.pc 0 { s with pmiPending := false, mmcr0 := writeBit s.mmcr0 5 false })
    else if s.decPending then some (takeException .decrementer s.pc 0 { s with decPending := false })
    else none

/-- The branch instructions, which MSR[BE] traces (R413, R512). -/
def isBranch : Instr → Bool
  | .bx .. => true
  | .bcx .. => true
  | .bclrx .. => true
  | .bcctrx .. => true
  | _ => false

/-- The instructions single-step tracing leaves out (R413, R512; DEDUCED, log 26). -/
def isUntraced : Instr → Bool
  | .rfi => true
  | .sc => true
  | .isync => true
  | _ => false

/-- The instruction is traced under this machine state register (R512). -/
def traced (msr : Word) (i : Instr) : Bool := (bit msr 21 && !isUntraced i) || (bit msr 22 && isBranch i)

/-- The trace exception after an instruction that completed without another exception: SRR0 is the next instruction's
address, the cause bits are undefined (R512, R511 b; log 26). -/
def traceAfter (msr : Word) (i : Instr) (r : Result) : Result :=
  match r with
  | .next t =>
    if t.taken.isNone && traced msr i then .next (takeException .trace t.pc (t.fresh 32) (t.drawn 1)) else .next t
  | .fault why => .fault why
  | .refused why => .refused why

/-- The word at `pc` as fetch reads it, the byte at the lowest address most significant, decoded (R82, R112). -/
def State.fetch (s : State) : Except DecodeError Instr × State :=
  (decodeWord (s.fetchWord s.pc).1.toNat, (s.fetchWord s.pc).2)

/-- The instruction at `pc` of `s` completed with `t`: it took no exception, or one that resumes after it, as `sc` does
(R511). -/
def completed (s t : State) : Bool := t.taken.isNone || t.srr0 != wordAligned s.pc

/-- The performance monitor learns of an instruction that completed: its address, and its operand's if it is a load or
store (R54, R552). -/
def noteCompletion (i : Instr) (s : State) (r : Result) : Result :=
  match r with
  | .next t =>
    .next
      (if completed s t then
        { t with
          lastCompleted := some s.pc
          accesses := ((accessAddress i s).map (Sample.mk s.pc)).toList ++ t.accesses }
      else t)
  | .fault why => .fault why
  | .refused why => .refused why

/-- A fetched word: an instruction runs, a word with no row is the illegal-instruction exception (R150, D26), reserved
bits and invalid forms are refused (R155 b, D10; log 38). -/
def runFetched (f : Except DecodeError Instr × State) : Result :=
  match f with
  | (.ok i, s) => traceAfter s.msr i (noteCompletion i s (exec i s))
  | (.error .illegal, s) => raiseIllegal s
  | (.error .reservedBits, _) => .refused .reservedBits
  | (.error .invalidForm, _) => .refused .invalidForm

/-- Fetch, decode and run the instruction at `pc` (R605 (1)); a fetch outside MEM_MAP is refused (D6; log 40), one from a
device region is an access that the platform sees (R93; log 8). -/
def runInstruction (s : State) : Result :=
  match kindOf s.memMap s.pc 4 with
  | none => .refused .outsideMemMap
  | some .device => runFetched { s with busLog := .deviceRead s.pc 4 :: s.busLog }.fetch
  | some .ram => runFetched s.fetch

/-- One step of the processor (R605 (1)); a state the model gives no meaning is refused (D1, D5, D22). -/
def processorStep (s : State) : Result :=
  match msrRefusal s.msr with
  | some why => .refused why
  | none =>
    match pendingException s with
    | some t => .next t
    | none => runInstruction s

/-- The processor's turn with an empty schedule: in checkstop, or while HRESET is asserted, there is no step (R520,
R580). -/
def soleStep (s : State) : Result :=
  if s.checkstop then .fault .checkstop
  else if s.hresetPin then .fault .heldInReset
  else processorStep s

/-- The step of the agent that `schedule` names (R605); a scheduled processor step does nothing while the processor
executes nothing. DESIGN CHOICE (log 3): a schedule may put no monitor cycle at all between two instruction steps, where
R600 and R548 (b) let any positive number of cycles pass. DESIGN CHOICE (log 30): an instruction's loads and stores happen in
its own step, in program order, also beside another master's stores, where R103, R374 and D4 promise no order between different
words without a barrier. -/
def machineStep (s : State) : Result :=
  match s.schedule with
  | [] => soleStep { s with taken := none }
  | .processor :: rest =>
    if s.executing then processorStep { s with taken := none, schedule := rest }
    else .next { s with taken := none, schedule := rest }
  | e :: rest => .next (applyEvent e { s with taken := none, schedule := rest })

/-- An instruction's word is placed where the processor fetches next: its bytes at `pc`, nothing stale there, and the
processor to step next (log 13). -/
def State.placeAtPc (s : State) (w : Nat) : State :=
  let put (m : Memory) (k : Nat) : Memory :=
    Memory.write m (s.pc + BitVec.ofNat 32 k).toNat (BitVec.ofNat 8 (w / 256 ^ (3 - k)))
  { s with
    mem := put (put (put (put s.mem 0) 1) 2) 3
    stale := s.stale.filter fun e => e.addr != s.pc.toNat
    schedule := [] }

end Sys2Proof.Machine
end

