-- ==== Sys2Proof/Machine/Step.lean ====
section
/-! DEFINITION. The step of the machine and the placing of an instruction where it fetches. -/

namespace Sys2Proof.Machine

/-- One step (70_reset_and_hazards.md R605). -/
def step (s : State) : Host.Outcome State Fault Refusal := machineStep s

/-- The instruction whose bits are `w`, stored where `step` fetches next. -/
def State.withFetchWord (s : State) (_nbits w : Nat) : State := s.placeAtPc w

end Sys2Proof.Machine
end

