-- ==== Sys2Proof/Safety.lean ====
section
/-! DEFINITION. The terms in which claims about the machine are stated: what a run without a stop is, what stays unchanged (frames), when a data access goes through, the shapes of the loads and stores, and the invariant of the state. -/

namespace Sys2Proof.Machine

/-! ## Outcomes -/

/-- The outcome is a next state, and that state has a property. -/
def Completes (r : Result) (P : State → Prop) : Prop := ∃ t, r = .next t ∧ P t

/-- `k` steps from a state run without a fault or a refusal. -/
def RunsSafely : Nat → State → Prop
  | 0, _ => True
  | k + 1, s => Completes (step s) (RunsSafely k)

/-- The state in which the processor's turn runs: the schedule without that turn, no exception noted yet (70_reset_and_hazards.md
R605). -/
def State.turn (s : State) : State := { s with taken := none, schedule := s.schedule.tail }

/-- The processor's turn has come at an instruction: it is scheduled or no agent is, the core runs, MSR is one the model
runs in, and nothing waits to be taken (70_reset_and_hazards.md R605). -/
def State.AtInstruction (s : State) : Prop :=
  (s.schedule = [] ∨ ∃ rest, s.schedule = .processor :: rest) ∧ s.checkstop = false ∧ s.hresetPin = false ∧
    msrRefusal s.msr = none ∧ pendingException s.turn = none

/-- Instruction fetch sees the word that memory holds: the pc lies in `ram`, and no overwritten word lies there
(20_memory.md R112). -/
def State.FetchesMemory (s : State) : Prop :=
  kindOf s.memMap s.pc 4 = some .ram ∧ ∀ e ∈ s.stale, e.addr ≠ s.pc.toNat

/-- What the decoder reads from the word at the pc, the byte at the lowest address most significant (20_memory.md R82). -/
def State.decoded (s : State) : Except DecodeError Instr := decodeWord (s.wordAt s.pc).toNat

/-- Byte `k` of a word, 0 the least significant. -/
def wordByte (v : Word) (k : Nat) : Byte := v.extractLsb' (8 * k) 8

/-- Each byte of `v` is that byte of the word that a store overwrote, or of the one that fetch may mix it with: the word
itself, where the store is atomic (20_memory.md R91; 48_cache_segment_tlb_external.md R456; log 6). -/
def StaleWord.Shows (e : StaleWord) (v : Word) : Prop :=
  ∀ k, k < 4 → wordByte v k = wordByte e.word k ∨ wordByte v k = wordByte e.blend k

/-- What instruction fetch may read at the pc: the word that memory holds, or one the location held before a store whose
code-modification sequence is not complete, whole after an atomic store, mixed with what the store left after another; of the
bytes that lie in a device region anything (20_memory.md R91, R93, R112). -/
def State.MayFetch (s : State) (w : Word) : Prop :=
  ∃ v, (v = s.wordAt s.pc ∨ ∃ e ∈ s.stale, e.addr = s.pc.toNat ∧ e.Shows v) ∧
    ∀ k, k < 4 → s.isDevice (s.pc + BitVec.ofNat 32 k) = false → wordByte w (3 - k) = wordByte v (3 - k)

/-- The floating-point enabled exceptions are off: FE0 = FE1 = 0 (43_floating_point.md R285). -/
def State.FloatQuiet (s : State) : Prop := bit s.msr 18 = true ∧ bit s.msr 20 = false ∧ bit s.msr 23 = false

/-! ## Frames -/

/-- Every GPR but those listed keeps its value. -/
def GprsKept (s t : State) (except : List (BitVec 5)) : Prop := ∀ j, j ∉ except → t.r j = s.r j

/-- Every FPR but those listed keeps its value. -/
def FprsKept (s t : State) (except : List (BitVec 5)) : Prop := ∀ j, j ∉ except → t.f j = s.f j

/-- Every byte of memory reads as before. -/
def MemoryKept (s t : State) : Prop := ∀ a : Word, t.byteAt a = s.byteAt a

/-- Every byte of memory but the `n` bytes from `ea` on reads as before. -/
def MemoryKeptOutside (s t : State) (ea : Word) (n : Nat) : Prop := ∀ a : Word, a ∉ span ea n → t.byteAt a = s.byteAt a

/-- The `n` bits of a word from bit `first` on keep their values. -/
def BitsKept (old new : Word) (first n : Nat) : Prop := ∀ i, first ≤ i → i < first + n → bit new i = bit old i

/-! ## What the integer instructions leave (10_state.md R25, R27; 40_integer_arithmetic.md R170) -/

/-- CR0 describes a result and copies XER[SO] where `rc`; the other fields stay. Without `rc` CR stays (R25, R170 f). -/
def RecordsCr0 (s t : State) (res : Word) (rc : Bool) : Prop :=
  if rc then
    bit t.cr 0 = decide (res.toInt < 0) ∧ bit t.cr 1 = decide (0 < res.toInt) ∧ bit t.cr 2 = decide (res = 0) ∧
      bit t.cr 3 = bit t.xer 0 ∧ BitsKept s.cr t.cr 4 28
  else t.cr = s.cr

/-- The instruction leaves `res` in `r[d]`; CA takes `ca`, OV takes `ov` and SO accumulates it, where they are given; CR0
is recorded where `rc`; everything else, every byte of memory included, stays (R170 d to i). -/
def IntegerEffect (s t : State) (d : BitVec 5) (res : Word) (ca ov : Option Bool) (rc : Bool) : Prop :=
  t.r d = res ∧ GprsKept s t [d] ∧ t.pc = s.pc + 4 ∧
    bit t.xer 0 = (bit s.xer 0 || ov.getD false) ∧ bit t.xer 1 = ov.getD (bit s.xer 1) ∧
    bit t.xer 2 = ca.getD (bit s.xer 2) ∧ BitsKept s.xer t.xer 3 29 ∧ RecordsCr0 s t res rc ∧ MemoryKept s t ∧
    { t with gpr := s.gpr, xer := s.xer, cr := s.cr, pc := s.pc } = s

/-- The unbounded sum of R170 b. -/
def wideSum (x y : Word) (c : Bool) : Nat := x.toNat + y.toNat + (if c then 1 else 0)

/-- The bit form of the overflow of a sum (R170 c): the operands agree in sign and the result differs. -/
def signOverflow (x y res : Word) : Bool := (bit x 0 == bit y 0) && (bit res 0 != bit x 0)

/-- The instruction adds `x`, `y` and `c` into `r[d]`, writing CA where `withCa` and OV and SO where `oe` (R170). -/
def AddEffect (s t : State) (d : BitVec 5) (x y : Word) (c withCa oe rc : Bool) : Prop :=
  IntegerEffect s t d (BitVec.ofNat 32 (wideSum x y c))
    (if withCa then some (decide (2 ^ 32 ≤ wideSum x y c)) else none)
    (if oe then some (signOverflow x y (BitVec.ofNat 32 (wideSum x y c))) else none) rc

/-- A comparison leaves LT, GT, EQ and XER[SO] in one CR field and nothing else (41_integer_compare_logical.md R200). -/
def CompareEffect (s t : State) (crfD : BitVec 3) (lt gt eq : Bool) : Prop :=
  bit t.cr (4 * crfD.toNat) = lt ∧ bit t.cr (4 * crfD.toNat + 1) = gt ∧ bit t.cr (4 * crfD.toNat + 2) = eq ∧
    bit t.cr (4 * crfD.toNat + 3) = bit s.xer 0 ∧
    (∀ n, n ≠ crfD → crField t.cr n = crField s.cr n) ∧ t.pc = s.pc + 4 ∧ MemoryKept s t ∧
    { t with cr := s.cr, pc := s.pc } = s

/-- Bit `i` lies in `MASK(mb, me)`, wrapping past bit 31 when `mb > me` (42_integer_rotate_shift.md R230). -/
def inMask (mb me : BitVec 5) (i : Nat) : Bool :=
  if mb.toNat ≤ me.toNat then decide (mb.toNat ≤ i) && decide (i ≤ me.toNat)
  else decide (mb.toNat ≤ i) || decide (i ≤ me.toNat)

/-! ## Data accesses -/

/-- An access that goes through as one: aligned, in `ram`, not watched by DABR (44_integer_load_store.md R301). -/
def AccessReady (s : State) (store : Bool) (ea : Word) (n : Nat) : Prop :=
  aligned ea n = true ∧ s.watched store ea n = false ∧ kindOf s.memMap ea n = some .ram

/-- What a load does: the register it loads, the base register it updates, how many bytes it reads and what they
mean; `value` gives the target's contents from the bytes in address order (44_integer_load_store.md R304 to R319, R335,
R336). -/
structure LoadShape where
  target : BitVec 5
  update : Option (BitVec 5)
  bytes : Nat
  value : List Byte → Word

/-- The bytes of an unsigned number, most significant first (20_memory.md R80). -/
def zeroExtended (bytes : List Byte) : Word := BitVec.ofNat 32 (natOf bytes)

/-- A halfword's sign fills the high half (R312). -/
def signExtended (bytes : List Byte) : Word := (BitVec.ofNat 16 (natOf bytes)).signExtend 32

/-- The byte at the lowest address is the least significant (R335, R336). -/
def byteReversed (bytes : List Byte) : Word := BitVec.ofNat 32 (natOf bytes.reverse)

/-- The integer loads of one register. -/
def loadShape : Instr → Option LoadShape
  | .lbz d _ _ => some ⟨d, none, 1, zeroExtended⟩
  | .lbzu d a _ => some ⟨d, some a, 1, zeroExtended⟩
  | .lbzx d _ _ => some ⟨d, none, 1, zeroExtended⟩
  | .lbzux d a _ => some ⟨d, some a, 1, zeroExtended⟩
  | .lhz d _ _ => some ⟨d, none, 2, zeroExtended⟩
  | .lhzu d a _ => some ⟨d, some a, 2, zeroExtended⟩
  | .lhzx d _ _ => some ⟨d, none, 2, zeroExtended⟩
  | .lhzux d a _ => some ⟨d, some a, 2, zeroExtended⟩
  | .lha d _ _ => some ⟨d, none, 2, signExtended⟩
  | .lhau d a _ => some ⟨d, some a, 2, signExtended⟩
  | .lhax d _ _ => some ⟨d, none, 2, signExtended⟩
  | .lhaux d a _ => some ⟨d, some a, 2, signExtended⟩
  | .lwz d _ _ => some ⟨d, none, 4, zeroExtended⟩
  | .lwzu d a _ => some ⟨d, some a, 4, zeroExtended⟩
  | .lwzx d _ _ => some ⟨d, none, 4, zeroExtended⟩
  | .lwzux d a _ => some ⟨d, some a, 4, zeroExtended⟩
  | .lhbrx d _ _ => some ⟨d, none, 2, byteReversed⟩
  | .lwbrx d _ _ => some ⟨d, none, 4, byteReversed⟩
  | _ => none

/-- What a store does: the base register it updates and the bytes it stores, in address order
(44_integer_load_store.md R320 to R331, R337, R338). -/
structure StoreShape where
  update : Option (BitVec 5)
  data : State → List Byte

/-- The integer stores of one register. -/
def storeShape : Instr → Option StoreShape
  | .stb src _ _ => some ⟨none, fun s => [wordByte (s.r src) 0]⟩
  | .stbu src a _ => some ⟨some a, fun s => [wordByte (s.r src) 0]⟩
  | .stbx src _ _ => some ⟨none, fun s => [wordByte (s.r src) 0]⟩
  | .stbux src a _ => some ⟨some a, fun s => [wordByte (s.r src) 0]⟩
  | .sth src _ _ => some ⟨none, fun s => [wordByte (s.r src) 1, wordByte (s.r src) 0]⟩
  | .sthu src a _ => some ⟨some a, fun s => [wordByte (s.r src) 1, wordByte (s.r src) 0]⟩
  | .sthx src _ _ => some ⟨none, fun s => [wordByte (s.r src) 1, wordByte (s.r src) 0]⟩
  | .sthux src a _ => some ⟨some a, fun s => [wordByte (s.r src) 1, wordByte (s.r src) 0]⟩
  | .stw src _ _ => some ⟨none, fun s => [3, 2, 1, 0].map (wordByte (s.r src))⟩
  | .stwu src a _ => some ⟨some a, fun s => [3, 2, 1, 0].map (wordByte (s.r src))⟩
  | .stwx src _ _ => some ⟨none, fun s => [3, 2, 1, 0].map (wordByte (s.r src))⟩
  | .stwux src a _ => some ⟨some a, fun s => [3, 2, 1, 0].map (wordByte (s.r src))⟩
  | .sthbrx src _ _ => some ⟨none, fun s => [0, 1].map (wordByte (s.r src))⟩
  | .stwbrx src _ _ => some ⟨none, fun s => [0, 1, 2, 3].map (wordByte (s.r src))⟩
  | _ => none

/-- What a floating-point load does (46_fp_load_store.md R381 to R388). -/
structure FloatLoadShape where
  target : BitVec 5
  update : Option (BitVec 5)
  bytes : Nat
  value : List Byte → Dword

/-- A single in memory as a register holds it (R381). -/
def singleLoaded (bytes : List Byte) : Dword := doubleOf (BitVec.ofNat 32 (natOf bytes))

/-- A double in memory as a register holds it (R385). -/
def doubleLoaded (bytes : List Byte) : Dword := BitVec.ofNat 64 (natOf bytes)

/-- The floating-point loads. -/
def floatLoadShape : Instr → Option FloatLoadShape
  | .lfs d _ _ => some ⟨d, none, 4, singleLoaded⟩
  | .lfsu d a _ => some ⟨d, some a, 4, singleLoaded⟩
  | .lfsx d _ _ => some ⟨d, none, 4, singleLoaded⟩
  | .lfsux d a _ => some ⟨d, some a, 4, singleLoaded⟩
  | .lfd d _ _ => some ⟨d, none, 8, doubleLoaded⟩
  | .lfdu d a _ => some ⟨d, some a, 8, doubleLoaded⟩
  | .lfdx d _ _ => some ⟨d, none, 8, doubleLoaded⟩
  | .lfdux d a _ => some ⟨d, some a, 8, doubleLoaded⟩
  | _ => none

/-- What a floating-point store does: the base register it updates, how many bytes it stores, and the number they
spell, most significant byte first, `none` where the word stored by `stfs` is undefined (46_fp_load_store.md R389 to
R397). -/
structure FloatStoreShape where
  update : Option (BitVec 5)
  bytes : Nat
  number : State → Option Nat

/-- The floating-point stores. -/
def floatStoreShape : Instr → Option FloatStoreShape
  | .stfs src _ _ => some ⟨none, 4, fun s => (singleOf (s.f src)).map (·.toNat)⟩
  | .stfsu src a _ => some ⟨some a, 4, fun s => (singleOf (s.f src)).map (·.toNat)⟩
  | .stfsx src _ _ => some ⟨none, 4, fun s => (singleOf (s.f src)).map (·.toNat)⟩
  | .stfsux src a _ => some ⟨some a, 4, fun s => (singleOf (s.f src)).map (·.toNat)⟩
  | .stfd src _ _ => some ⟨none, 8, fun s => some (s.f src).toNat⟩
  | .stfdu src a _ => some ⟨some a, 8, fun s => some (s.f src).toNat⟩
  | .stfdx src _ _ => some ⟨none, 8, fun s => some (s.f src).toNat⟩
  | .stfdux src a _ => some ⟨some a, 8, fun s => some (s.f src).toNat⟩
  | .stfiwx src _ _ => some ⟨none, 4, fun s => some ((s.f src).toNat % 2 ^ 32)⟩
  | _ => none

/-- An integer load has read `ea`: the target holds what the bytes mean, the base register is updated where the form
says so, and nothing else has changed but the pc (R301). -/
def LoadDone (s t : State) (sh : LoadShape) (ea : Word) : Prop :=
  t.r sh.target = sh.value (s.bytesAt ea sh.bytes) ∧ (∀ a, sh.update = some a → t.r a = ea) ∧
    GprsKept s t (sh.target :: sh.update.toList) ∧ t.pc = s.pc + 4 ∧ MemoryKept s t ∧
    { t with gpr := s.gpr, pc := s.pc } = s

/-- Bytes have been stored from `ea` on, the base register is updated where the form says so, and nothing else has changed
but the pc and what instruction fetch may still see (R301; 20_memory.md R112). -/
def StoreDone (s t : State) (update : Option (BitVec 5)) (ea : Word) (data : List Byte) : Prop :=
  t.bytesAt ea data.length = data ∧ MemoryKeptOutside s t ea data.length ∧ (∀ a, update = some a → t.r a = ea) ∧
    GprsKept s t update.toList ∧ t.pc = s.pc + 4 ∧
    { t with mem := s.mem, stale := s.stale, gpr := s.gpr, pc := s.pc, draws := s.draws } = s

/-- A floating-point load has read `ea` (46_fp_load_store.md R380). -/
def FloatLoadDone (s t : State) (sh : FloatLoadShape) (ea : Word) : Prop :=
  t.f sh.target = sh.value (s.bytesAt ea sh.bytes) ∧ FprsKept s t [sh.target] ∧
    (∀ a, sh.update = some a → t.r a = ea) ∧ GprsKept s t sh.update.toList ∧ t.pc = s.pc + 4 ∧ MemoryKept s t ∧
    { t with fpr := s.fpr, gpr := s.gpr, pc := s.pc } = s

/-- A floating-point store has stored at `ea`: the number the shape gives, any word where it gives none (R389 c). -/
def FloatStoreDone (s t : State) (st : FloatStoreShape) (ea : Word) : Prop :=
  ∃ data : List Byte, data.length = st.bytes ∧ (∀ v, st.number s = some v → natOf data = v) ∧
    StoreDone s t st.update ea data

/-- Whether a load or store of one register stores, and how many bytes it accesses. -/
def accessSize (i : Instr) : Option (Bool × Nat) :=
  match loadShape i, storeShape i, floatLoadShape i, floatStoreShape i with
  | some l, _, _, _ => some (false, l.bytes)
  | _, some st, _, _ => some (true, (st.data State.reset).length)
  | _, _, some l, _ => some (false, l.bytes)
  | _, _, _, some st => some (true, st.bytes)
  | _, _, _, _ => none

/-- Whether the low five bits of DSISR show rA in an alignment exception of this access: the update forms (60_exceptions.md
R506). -/
def showsBase (i : Instr) : Bool :=
  ((loadShape i).bind (·.update)).isSome || ((storeShape i).bind (·.update)).isSome ||
    ((floatLoadShape i).bind (·.update)).isSome || ((floatStoreShape i).bind (·.update)).isSome

/-! ## Kinds of instructions -/

/-- The floating-point arithmetic instructions: the target, the operands in the order of 43_floating_point.md R243, and
Rc. -/
def arithmeticShape : Instr → Option (BitVec 5 × List (BitVec 5) × Bool)
  | .faddx d a b rc => some (d, [a, b], rc)
  | .faddsx d a b rc => some (d, [a, b], rc)
  | .fsubx d a b rc => some (d, [a, b], rc)
  | .fsubsx d a b rc => some (d, [a, b], rc)
  | .fmulx d a c rc => some (d, [a, c], rc)
  | .fmulsx d a c rc => some (d, [a, c], rc)
  | .fdivx d a b rc => some (d, [a, b], rc)
  | .fdivsx d a b rc => some (d, [a, b], rc)
  | .fresx d b rc => some (d, [b], rc)
  | .frsqrtex d b rc => some (d, [b], rc)
  | .fmaddx d a b c rc => some (d, [a, b, c], rc)
  | .fmaddsx d a b c rc => some (d, [a, b, c], rc)
  | .fmsubx d a b c rc => some (d, [a, b, c], rc)
  | .fmsubsx d a b c rc => some (d, [a, b, c], rc)
  | .fnmaddx d a b c rc => some (d, [a, b, c], rc)
  | .fnmaddsx d a b c rc => some (d, [a, b, c], rc)
  | .fnmsubx d a b c rc => some (d, [a, b, c], rc)
  | .fnmsubsx d a b c rc => some (d, [a, b, c], rc)
  | .frspx d b rc => some (d, [b], rc)
  | .fctiwx d b rc => some (d, [b], rc)
  | .fctiwzx d b rc => some (d, [b], rc)
  | _ => none

/-- The number that a finite double stands for (43_floating_point.md R240). -/
def realOf (v : Dword) : Rat := ((exactOf v).signed : Rat) / ((exactOf v).den : Rat)

/-- `2^e`. -/
def powerOfTwo (e : Int) : Rat := if 0 ≤ e then (2 : Rat) ^ e.toNat else 1 / (2 : Rat) ^ (-e).toNat

/-- The absolute value. -/
def magnitude (x : Rat) : Rat := if x < 0 then -x else x

/-- `y` is `x` rounded to a multiple of `u` in the mode `rn`: the nearest, the even multiple of two equally near; the one
toward zero; the one above; the one below (43_floating_point.md R242 a). -/
def RoundsTo (u : Rat) (rn : BitVec 2) (x y : Rat) : Prop :=
  ∃ n : Int, y = n * u ∧
    (rn = 0 → 2 * magnitude (y - x) ≤ u ∧ (2 * magnitude (y - x) = u → n % 2 = 0)) ∧
    (rn = 1 → magnitude y ≤ magnitude x ∧ magnitude x < magnitude y + u ∧ 0 ≤ x * y) ∧
    (rn = 2 → x ≤ y ∧ y < x + u) ∧ (rn = 3 → y ≤ x ∧ x < y + u)

/-- FX after an instruction: it stays set, and is set where an exception bit that was 0 is 1 (43_floating_point.md R244). -/
def FxFollows (s t : State) : Prop :=
  bit t.fpscr 0 =
    (bit s.fpscr 0 || [3, 4, 5, 6, 7, 8, 9, 10, 11, 12, 21, 22, 23].any fun k => bit t.fpscr k && !bit s.fpscr k)

/-- A value goes to `f[d]` as it is: FPRF says its class, FR = FI = 0, and no exception bit and no enable changes
(43_floating_point.md section 3). -/
def DeliveredExactly (s t : State) (d : BitVec 5) (v : Dword) : Prop :=
  t.f d = v ∧ field t.fpscr 15 19 = fprfOf doubleFormat v ∧ bit t.fpscr 13 = false ∧ bit t.fpscr 14 = false ∧
    BitsKept s.fpscr t.fpscr 0 1 ∧ BitsKept s.fpscr t.fpscr 3 10 ∧ BitsKept s.fpscr t.fpscr 21 11

/-- The instructions that need MSR[FP] (60_exceptions.md R507). -/
def needsFloat (i : Instr) : Bool :=
  (arithmeticShape i).isSome || (floatLoadShape i).isSome || (floatStoreShape i).isSome ||
    match i with
    | .fcmpu .. | .fcmpo .. | .fselx .. | .fmrx .. | .fnegx .. | .fabsx .. | .fnabsx .. | .mffsx .. | .mcrfs ..
    | .mtfsfix .. | .mtfsfx .. | .mtfsb0x .. | .mtfsb1x .. => true
    | _ => false

/-- The supervisor-level instructions (60_exceptions.md R521); `mfspr` and `mtspr` are so for some numbers. -/
def isPrivileged : Instr → Bool
  | .rfi | .mfmsr .. | .mtmsr .. | .mfsr .. | .mfsrin .. | .mtsr .. | .mtsrin .. | .tlbie .. | .tlbsync | .tlbsync_b31
  | .dcbi .. => true
  | .mfspr _ n => sprSupervisor n
  | .mtspr _ n => sprSupervisor n
  | _ => false

/-- The instructions that may store to memory. -/
def mayStore (i : Instr) : Bool :=
  (storeShape i).isSome || (floatStoreShape i).isSome ||
    match i with
    | .stmw .. | .stswi .. | .stswx .. | .stwcx_rc .. | .dcbz .. => true
    | _ => false

/-! ## Exceptions -/

/-- What the entry of an exception leaves: SRR0, SRR1 and MSR as the entry sequence says, the pc at the vector, and
everything else but DAR and DSISR unchanged (60_exceptions.md R510). -/
def Enters (s t : State) (k : ExceptionKind) (resume info : Word) : Prop :=
  t = { takeException k resume info s with dar := t.dar, dsisr := t.dsisr, draws := t.draws }

/-- Bit `i` of DSISR in an alignment exception of the word `w`, for `i` below 27 (60_exceptions.md R506). -/
def alignmentDsisrBit (w : Word) (i : Nat) : Bool :=
  if w.toNat / 2 ^ 26 = 31 then
    if i < 15 then false else if i < 17 then bit w (14 + i) else if i = 17 then bit w 25 else if i < 22 then bit w (3 + i)
    else bit w (i - 16)
  else if i < 17 then false else if i = 17 then bit w 5 else if i < 22 then bit w (i - 17) else bit w (i - 16)

/-- The instruction whose word is `w` took the alignment exception: DAR is the effective address, DSISR describes the
word, with rA in its low bits where `base`, any bits otherwise; nothing else has changed (R506). -/
def AlignmentTaken (s t : State) (w : Word) (base : Bool) (ea : Word) : Prop :=
  Enters s t .alignment s.pc 0 ∧ t.dar = ea ∧ (∀ i, i < 27 → bit t.dsisr i = alignmentDsisrBit w i) ∧
    (base = true → ∀ i, 27 ≤ i → i < 32 → bit t.dsisr i = bit w (i - 16))

/-- The access took the data storage interrupt with this cause (R503). -/
def DsiTaken (s t : State) (cause ea : Word) : Prop := Enters s t .dsi s.pc 0 ∧ t.dsisr = cause ∧ t.dar = ea

/-! ## Special-purpose registers -/

/-- The registers that `mfspr` reads, by number (10_state.md R47). -/
def sprTable : List (Nat × (State → Word)) :=
  [(1, State.xer), (8, State.lr), (9, State.ctr), (18, State.dsisr), (19, State.dar), (22, State.dec), (25, State.sdr1),
    (26, State.srr0), (27, State.srr1), (272, fun s => s.sprg[0]), (273, fun s => s.sprg[1]), (274, fun s => s.sprg[2]),
    (275, fun s => s.sprg[3]), (282, State.ear), (287, State.pvr), (528, fun s => s.bat[0]), (529, fun s => s.bat[1]),
    (530, fun s => s.bat[2]), (531, fun s => s.bat[3]), (532, fun s => s.bat[4]), (533, fun s => s.bat[5]),
    (534, fun s => s.bat[6]), (535, fun s => s.bat[7]), (536, fun s => s.bat[8]), (537, fun s => s.bat[9]),
    (538, fun s => s.bat[10]), (539, fun s => s.bat[11]), (540, fun s => s.bat[12]), (541, fun s => s.bat[13]),
    (542, fun s => s.bat[14]), (543, fun s => s.bat[15]), (952, State.mmcr0), (953, State.pmc1), (954, State.pmc2),
    (955, State.sia), (959, State.sda), (1008, State.hid0), (1010, State.iabr), (1013, State.dabr), (1023, State.pir)]

/-- TBL and TBU, which `mtspr` writes under these numbers (R47, R40). -/
def timeBaseTable : List (Nat × (State → Word)) :=
  [(284, fun s => s.tb.extractLsb' 0 32), (285, fun s => s.tb.extractLsb' 32 32)]

/-- The state with every special-purpose register of another state, and the flags that writing one may change. -/
def State.withSprsOf (t s : State) : State :=
  { t with
    xer := s.xer, lr := s.lr, ctr := s.ctr, dsisr := s.dsisr, dar := s.dar, dec := s.dec, sdr1 := s.sdr1,
    srr0 := s.srr0, srr1 := s.srr1, sprg := s.sprg, ear := s.ear, tb := s.tb, bat := s.bat, mmcr0 := s.mmcr0,
    pmc1 := s.pmc1, pmc2 := s.pmc2, sia := s.sia, sda := s.sda, hid0 := s.hid0, iabr := s.iabr, dabr := s.dabr,
    pir := s.pir, decPending := s.decPending, pmSignaled := s.pmSignaled, everSignaled := s.everSignaled,
    pmiPending := s.pmiPending, tbRose := s.tbRose, draws := s.draws,
    pmc1Cause := s.pmc1Cause, pmc2Cause := s.pmc2Cause }

/-! ## The invariant -/

/-- What every step keeps: the pc is word aligned; MSR has only defined bits and no mode the model refuses; the reserved
bits of XER are 0; FPSCR's summary bits are what its other bits say and its reserved bit is 0; memory is canonical
(10_state.md R27, R30, R32, R33, R34; 20_memory.md R80). -/
def State.Inv (s : State) : Prop :=
  s.pc &&& 3 = 0 ∧ s.msr &&& ~~~definedMsrBits = 0 ∧ msrRefusal s.msr = none ∧ s.xer &&& ~~~xerBits = 0 ∧
    fpDerive s.fpscr = s.fpscr ∧ Memory.wf s.mem = true

end Sys2Proof.Machine
end

