-- ==== Sys2Proof/Certificates/Slice0/Obligations.lean ====
section
/-! DEFINITION. The statements about the machine that are to be proved; what they rest on is said in OBLIGATIONS.json. -/

section Statements

open Sys2Proof Sys2Proof.Machine

/-! ## Encoding and the step -/

/-- Decoding the word of a well-formed instruction gives the instruction back: no bit of an encoding is dropped, and no
row of the opcode table hides another. -/
def Obligations.DecodeInvertsEncode : Prop :=
  ∀ i : Instr, i.wellFormed = true → encodeNat i < 2 ^ 32 ∧ decodeWord (encodeNat i) = .ok i

/-- Words written out from the encoding tables decode to the instructions they stand for. -/
def Obligations.TableWordsDecode : Prop :=
  decodeWord 0x7C642A14 = .ok (.addx 3 4 5 false false) ∧ decodeWord 0x8064FFFC = .ok (.lwz 3 4 0xFFFC) ∧
    decodeWord 0x4E800020 = .ok (.bclrx 20 0 false) ∧ decodeWord 0x7C78EAA6 = .ok (.mfspr 3 952) ∧
    decodeWord 0xFC2220FA = .ok (.fmaddx 1 2 4 3 false) ∧ decodeWord 0x7C60212D = .ok (.stwcx_rc 3 0 4) ∧
    decodeWord 0x7C0004AD = .ok .tlbsync_b31 ∧ decodeWord 0xE8030000 = .error .illegal ∧
    decodeWord 0x7C6F0026 = .error .reservedBits ∧ decodeWord 0x84630004 = .error .invalidForm

/-- At an instruction whose word fetch reads from memory, the step runs what the word decodes to, notes its completion for
the performance monitor, and takes the trace exception after it where it is traced. An instruction that takes no exception
and is not traced leaves what `exec` gives, with its address noted as the last completed one, and its operand's address where
it is a load or store. Wherever in MEM_MAP the pc lies, the step runs one word that fetch may read: memory's, or one the
location held before a store whose code-modification sequence is not complete, mixed byte by byte with what the store left
where the store is not atomic, and for the bytes in a device region anything, with the fetch recorded; a word without a row
takes the program exception, illegal type, one with reserved bits set and an invalid form are refused. -/
def Obligations.StepRunsDecodedInstruction : Prop :=
  (∀ (s : State) (i : Instr), s.AtInstruction → s.FetchesMemory → s.decoded = .ok i →
    step s = traceAfter s.msr i (noteCompletion i s.turn (exec i s.turn)) ∧
    ∀ t, exec i s.turn = .next t → t.taken = none → traced s.msr i = false →
      step s = .next { t with
        lastCompleted := some s.pc
        accesses := ((accessAddress i s).map (Sample.mk s.pc)).toList ++ t.accesses }) ∧
  ∀ s : State, s.AtInstruction → kindOf s.memMap s.pc 4 ≠ none →
    ∃ (w : Word) (n : Nat), s.MayFetch w ∧
      let u : State := { s.turn with
        draws := n
        busLog := if kindOf s.memMap s.pc 4 = some .device then .deviceRead s.pc 4 :: s.busLog else s.busLog }
      (∀ i, decodeWord w.toNat = .ok i → step s = traceAfter s.msr i (noteCompletion i u (exec i u))) ∧
      (decodeWord w.toNat = .error .illegal → step s = .next (takeException .program s.pc (bitMask 12) u)) ∧
      (decodeWord w.toNat = .error .reservedBits → step s = .refused .reservedBits) ∧
      (decodeWord w.toNat = .error .invalidForm → step s = .refused .invalidForm)

/-- A word in memory that is no row of the opcode table takes the program exception, illegal type; one with reserved bits set
and an invalid form are refused (the model's choice for the last two, the spec's D10). A fetch outside MEM_MAP is refused (the
spec's D6). -/
def Obligations.UndecodedWordsTrapOrStop : Prop :=
  ∀ s : State, s.AtInstruction →
    (s.FetchesMemory →
      (s.decoded = .error .illegal → step s = .next (takeException .program s.pc (bitMask 12) s.turn)) ∧
      (s.decoded = .error .reservedBits → step s = .refused .reservedBits) ∧
      (s.decoded = .error .invalidForm → step s = .refused .invalidForm)) ∧
    (kindOf s.memMap s.pc 4 = none → step s = .refused .outsideMemMap)

/-- After an instruction that completed without an exception, MSR[SE] traces every instruction but `rfi`, `sc` and
`isync`, MSR[BE] traces branches; SRR0 is the next instruction's address. -/
def Obligations.TraceFollowsTracedInstruction : Prop :=
  ∀ (msr : Word) (i : Instr) (t : State), t.taken = none →
    (traced msr i = true ↔
      (bit msr 21 = true ∧ i ≠ .rfi ∧ i ≠ .sc ∧ i ≠ .isync) ∨
        (bit msr 22 = true ∧ ((∃ li aa lk, i = .bx li aa lk) ∨ (∃ bo bi bd aa lk, i = .bcx bo bi bd aa lk) ∨
          (∃ bo bi lk, i = .bclrx bo bi lk) ∨ ∃ bo bi lk, i = .bcctrx bo bi lk))) ∧
    (traced msr i = false → traceAfter msr i (.next t) = .next t) ∧
    (traced msr i = true → Completes (traceAfter msr i (.next t)) fun u => ∃ info, Enters t u .trace t.pc info)

/-- Every step keeps the invariant of the state: the pc word aligned, MSR legal, XER's reserved bits 0, FPSCR's summary
bits right, memory canonical. -/
def Obligations.StepKeepsInvariant : Prop :=
  ∀ s t : State, s.Inv → step s = .next t → t.Inv

/-- The state after reset meets the invariant. -/
def Obligations.ResetMeetsInvariant : Prop := State.reset.Inv

/-- What HRESET leaves: the reset state has the values the rules give, and the negation of HRESET gives them from any
state in which it is asserted, keeping memory. -/
def Obligations.HardResetLeavesStatedValues : Prop :=
  (State.reset.pc = 0xFFF00100 ∧ State.reset.msr = 0x00000040 ∧ State.reset.mmcr0 = 0 ∧ State.reset.pmc1 = 0 ∧
      State.reset.pmc2 = 0 ∧ State.reset.reserve = false ∧ State.reset.checkstop = false) ∧
    ∀ (s : State) (rest : List EnvStep), s.hresetPin = true → s.schedule = .hresetPin false :: rest →
      Completes (step s) fun t =>
        t.pc = 0xFFF00100 ∧ t.msr = 0x00000040 ∧ t.mmcr0 = 0 ∧ t.pmc1 = 0 ∧ t.pmc2 = 0 ∧ t.reserve = false ∧
          t.checkstop = false ∧ t.decPending = false ∧ t.pmiPending = false ∧ t.pmSignaled = false ∧
          t.machineChecks = [] ∧ t.sresetPending = false ∧ t.pvr = s.pvr ∧ MemoryKept s t ∧ t.schedule = rest

/-! ## Exceptions and modes -/

/-- Taking an exception: SRR0, SRR1 and MSR bit by bit, the vector with its offset for each exception, and nothing else. -/
def Obligations.ExceptionEntrySavesAndSwitches : Prop :=
  ∀ (k : ExceptionKind) (resume info : Word) (s : State),
    (∀ i, i < 32 → bit (takeException k resume info s).srr0 i = (bit resume i && decide (i < 30))) ∧
    (∀ i, i < 32 → bit (takeException k resume info s).srr1 i =
      if i ∈ [1, 2, 3, 4, 10, 11, 12, 13, 14, 15] then bit info i
      else if i ∈ [16, 17, 18, 19, 20, 21, 22, 23, 25, 26, 27, 29, 30, 31] then bit s.msr i else false) ∧
    (∀ i, i < 32 → bit (takeException k resume info s).msr i =
      if i ∈ [13, 16, 17, 18, 20, 21, 22, 23, 26, 27, 29, 30] then false
      else if i = 31 then bit s.msr 15
      else if i = 19 then bit s.msr 19 && decide (k ≠ .machineCheck) else bit s.msr i) ∧
    (∀ offset, (k, offset) ∈
        [(ExceptionKind.systemReset, (0x00100 : Word)), (.machineCheck, 0x00200), (.dsi, 0x00300), (.external, 0x00500),
          (.alignment, 0x00600), (.program, 0x00700), (.fpUnavailable, 0x00800), (.decrementer, 0x00900),
          (.systemCall, 0x00C00), (.trace, 0x00D00), (.performanceMonitor, 0x00F00), (.instructionBreakpoint, 0x01300),
          (.systemManagement, 0x01400)] →
      (takeException k resume info s).pc = (if bit s.msr 25 then 0xFFF00000 else 0x00000000) + offset) ∧
    { takeException k resume info s with
      srr0 := s.srr0, srr1 := s.srr1, msr := s.msr, pc := s.pc, taken := s.taken } = s

/-- `sc` enters the system call handler, and `rfi` there returns to the next instruction with the old MSR: the round trip
changes nothing but SRR0, SRR1 and the pc. That the PM bit, MSR[29], comes back is the spec's D18 (log 44, DEDUCED). -/
def Obligations.SystemCallReturns : Prop :=
  ∀ s : State, s.Inv → s.floatTraps = false →
    Completes (exec .sc s) fun t =>
      t.pc = (if bit s.msr 25 then 0xFFF00C00 else 0x00000C00) ∧ t.srr0 = s.pc + 4 ∧ Enters s t .systemCall (s.pc + 4) 0 ∧
      Completes (exec .rfi t) fun u =>
        u = { s with pc := s.pc + 4, srr0 := t.srr0, srr1 := t.srr1, taken := t.taken }

/-- `mtmsr` writes the defined bits of MSR and `rfi` restores them from SRR1: the new MSR governs from the next
instruction, a newly enabled floating-point exception is taken there, and a mode the model does not run in is refused (the
spec's D1, D5 and D22). -/
def Obligations.MsrLoadsSwitchMode : Prop :=
  ∀ (s : State) (src : BitVec 5) (i : Instr) (m next : Word), s.userMode = false →
    ((i = .mtmsr src ∧ next = s.pc + 4 ∧ ∀ k, k < 32 → bit m k =
        if k ∈ [13, 15, 16, 17, 18, 19, 20, 21, 22, 23, 25, 26, 27, 29, 30, 31] then bit (s.r src) k else bit s.msr k) ∨
      (i = .rfi ∧ next = s.srr0 &&& 0xFFFFFFFC ∧ ∀ k, k < 32 → bit m k =
        if k ∈ [16, 17, 18, 19, 20, 21, 22, 23, 25, 26, 27, 29, 30, 31] then bit s.srr1 k else bit s.msr k)) →
    ((bit m 15 || bit m 31) = true → exec i s = .refused .littleEndian) ∧
    ((bit m 15 || bit m 31) = false → (bit m 26 || bit m 27) = true → exec i s = .refused .translation) ∧
    ((bit m 15 || bit m 31 || bit m 26 || bit m 27) = false → bit m 13 = true → exec i s = .refused .powerManagement) ∧
    ((bit m 13 || bit m 15 || bit m 26 || bit m 27 || bit m 31) = false →
      exec i s = .next
        (if bit s.fpscr 1 && (bit m 20 || bit m 23) then
          takeException .program next (bitMask 11) { s with msr := m, pc := next }
        else { s with msr := m, pc := next }))

/-- In user mode every supervisor-level instruction takes the program exception, privileged type; with MSR[FP] = 0 every
floating-point instruction takes the floating-point unavailable exception. Neither has another effect. -/
def Obligations.ModeChecksTrap : Prop :=
  (∀ (i : Instr) (s : State), isPrivileged i = true → s.userMode = true →
      exec i s = .next (takeException .program s.pc (bitMask 13) s)) ∧
    ∀ (i : Instr) (s : State), needsFloat i = true → bit s.msr 18 = false →
      exec i s = .next (takeException .fpUnavailable s.pc 0 s)

/-- No instruction run in user mode, unless it takes an exception, changes anything but the user-level state: the
supervisor registers, MSR, the timers, the monitor and the pending flags stay. -/
def Obligations.UserModeKeepsSupervisorState : Prop :=
  ∀ (i : Instr) (s t : State), s.userMode = true → s.taken = none → exec i s = .next t → t.taken = none →
    { t with
      gpr := s.gpr, fpr := s.fpr, cr := s.cr, xer := s.xer, lr := s.lr, ctr := s.ctr, pc := s.pc, fpscr := s.fpscr
      reserve := s.reserve, reserveAddr := s.reserveAddr, mem := s.mem, stale := s.stale, busLog := s.busLog
      draws := s.draws } = s

/-- Only stores, `stwcx.` and `dcbz` change memory: after any other instruction every byte reads as before. -/
def Obligations.OnlyStoresChangeMemory : Prop :=
  ∀ (i : Instr) (s t : State), mayStore i = false → exec i s = .next t → MemoryKept s t ∧ t.mem = s.mem

/-- Which exception is taken at an instruction boundary, by the step of the processor's turn: machine check, then SRESET,
then the instruction breakpoint (log 21), then with MSR[EE] = 1 system management (the spec's U19), external, performance
monitor and decrementer. A machine check that waits is taken with MSR[ME] = 1, and with MSR[ME] = 0 the processor enters the
checkstop state. That causes wait for the boundary, are taken one at a time and leave the pc in SRR0 is the model's choice
(log 25, DESIGN CHOICE; the spec's D24). The performance monitor interrupt enters its handler with MMCR0[ENINT] = 0, also
where software had set ENINT again (log 52, DEDUCED from R544 and R556 e), and with PM_SIGNALED as it was (R61, R549 a). -/
def Obligations.PendingExceptionsByPriority : Prop :=
  (∀ s : State,
    (∀ c rest, s.machineChecks = c :: rest → bit s.msr 19 = true →
      ∃ u, pendingException s = some u ∧ u.machineChecks = rest ∧
        ∃ info, Enters { s with machineChecks := rest } u .machineCheck s.pc info) ∧
    (∀ c rest, s.machineChecks = c :: rest → bit s.msr 19 = false →
      pendingException s = some { s with checkstop := true }) ∧
    (s.machineChecks = [] →
      (s.sresetPending = true →
        pendingException s = some (takeException .systemReset s.pc 0 { s with sresetPending := false })) ∧
      (s.sresetPending = false → s.breakpoint = true →
        pendingException s = some (takeException .instructionBreakpoint s.pc 0 s)) ∧
      (s.sresetPending = false → s.breakpoint = false →
        (bit s.msr 16 = false → pendingException s = none) ∧
        (bit s.msr 16 = true →
          pendingException s =
            if s.smiPin then some (takeException .systemManagement s.pc 0 s)
            else if s.intPin then some (takeException .external s.pc 0 s)
            else if s.pmiPending then some (takeException .performanceMonitor s.pc 0
              { s with pmiPending := false, mmcr0 := s.mmcr0 &&& ~~~(bitMask 5) })
            else if s.decPending then some (takeException .decrementer s.pc 0 { s with decPending := false })
            else none)))) ∧
    ∀ s u : State, (s.schedule = [] ∨ ∃ rest, s.schedule = .processor :: rest) → s.checkstop = false →
      s.hresetPin = false → msrRefusal s.msr = none →
      pendingException s.turn = some u → step s = .next u

/-! ## Integer instructions -/

/-- The D-form additions, subtraction and multiplication: the result, CA where the form writes it, CR0 for `addic.`. -/
def Obligations.ImmediateArithmeticResults : Prop :=
  ∀ (d a : BitVec 5) (simm : BitVec 16) (s : State),
    Completes (exec (.addi d a simm) s) (fun t =>
      IntegerEffect s t d ((if a = 0 then 0 else s.r a) + simm.signExtend 32) none none false) ∧
    Completes (exec (.addis d a simm) s) (fun t =>
      IntegerEffect s t d ((if a = 0 then 0 else s.r a) + (simm ++ (0 : BitVec 16))) none none false) ∧
    Completes (exec (.addic d a simm) s) (fun t => AddEffect s t d (s.r a) (simm.signExtend 32) false true false false) ∧
    Completes (exec (.addic_rc d a simm) s) (fun t =>
      AddEffect s t d (s.r a) (simm.signExtend 32) false true false true) ∧
    Completes (exec (.subfic d a simm) s) (fun t =>
      AddEffect s t d (~~~(s.r a)) (simm.signExtend 32) true true false false) ∧
    Completes (exec (.mulli d a simm) s) (fun t =>
      IntegerEffect s t d (BitVec.ofInt 32 ((s.r a).toInt * simm.toInt)) none none false)

/-- The register additions and the subtractions `B - A` as sums with the complement: CA for the carrying forms, OV and SO
with OE by the signs of the operands and the result, CR0 with Rc; a difference carries when nothing is borrowed. -/
def Obligations.RegisterSumResults : Prop :=
  ∀ (d a b : BitVec 5) (oe rc : Bool) (s : State),
    Completes (exec (.addx d a b oe rc) s) (fun t => AddEffect s t d (s.r a) (s.r b) false false oe rc) ∧
    Completes (exec (.addcx d a b oe rc) s) (fun t => AddEffect s t d (s.r a) (s.r b) false true oe rc) ∧
    Completes (exec (.addex d a b oe rc) s) (fun t => AddEffect s t d (s.r a) (s.r b) (bit s.xer 2) true oe rc) ∧
    Completes (exec (.addmex d a oe rc) s) (fun t => AddEffect s t d (s.r a) (BitVec.allOnes 32) (bit s.xer 2) true oe rc) ∧
    Completes (exec (.addzex d a oe rc) s) (fun t => AddEffect s t d (s.r a) 0 (bit s.xer 2) true oe rc) ∧
    Completes (exec (.subfx d a b oe rc) s) (fun t =>
      AddEffect s t d (~~~(s.r a)) (s.r b) true false oe rc ∧ t.r d = s.r b - s.r a) ∧
    Completes (exec (.subfcx d a b oe rc) s) (fun t =>
      AddEffect s t d (~~~(s.r a)) (s.r b) true true oe rc ∧
        bit t.xer 2 = decide ((s.r a).toNat ≤ (s.r b).toNat)) ∧
    Completes (exec (.subfex d a b oe rc) s) (fun t => AddEffect s t d (~~~(s.r a)) (s.r b) (bit s.xer 2) true oe rc) ∧
    Completes (exec (.subfmex d a oe rc) s) (fun t =>
      AddEffect s t d (~~~(s.r a)) (BitVec.allOnes 32) (bit s.xer 2) true oe rc) ∧
    Completes (exec (.subfzex d a oe rc) s) (fun t => AddEffect s t d (~~~(s.r a)) 0 (bit s.xer 2) true oe rc) ∧
    Completes (exec (.negx d a oe rc) s) (fun t =>
      IntegerEffect s t d (-(s.r a)) none (if oe then some (decide (s.r a = 0x80000000)) else none) rc)

/-- The multiplications: the low word with OV where the signed product does not fit, and the high words. -/
def Obligations.MultiplicationResults : Prop :=
  ∀ (d a b : BitVec 5) (oe rc : Bool) (s : State),
    Completes (exec (.mullwx d a b oe rc) s) (fun t =>
      IntegerEffect s t d (s.r a * s.r b) none
        (if oe then some (decide ((s.r a * s.r b).toInt ≠ (s.r a).toInt * (s.r b).toInt)) else none) rc) ∧
    Completes (exec (.mulhwx d a b rc) s) (fun t =>
      IntegerEffect s t d (t.r d) none none rc ∧ (t.r d).toInt = (s.r a).toInt * (s.r b).toInt / 2 ^ 32) ∧
    Completes (exec (.mulhwux d a b rc) s) (fun t =>
      IntegerEffect s t d (t.r d) none none rc ∧ (t.r d).toNat = (s.r a).toNat * (s.r b).toNat / 2 ^ 32)

/-- The divisions. Defined: the signed quotient truncates toward zero, so that the remainder has the dividend's sign; the
unsigned quotient rounds down; OV is cleared with OE. Without a defined quotient they complete: with OE they set OV and SO,
with Rc they record SO; the target and CR0's LT, GT and EQ may take any value, and nothing else changes. -/
def Obligations.DivisionResults : Prop :=
  (∀ (d a b : BitVec 5) (oe rc : Bool) (s : State), s.r b ≠ 0 →
    (¬ (s.r a = 0x80000000 ∧ s.r b = 0xFFFFFFFF) →
      Completes (exec (.divwx d a b oe rc) s) fun t =>
        IntegerEffect s t d (t.r d) none (if oe then some false else none) rc ∧
        ∃ rest : Int, (s.r a).toInt = (s.r b).toInt * (t.r d).toInt + rest ∧ rest.natAbs < (s.r b).toInt.natAbs ∧
          0 ≤ rest * (s.r a).toInt) ∧
    Completes (exec (.divwux d a b oe rc) s) fun t =>
      IntegerEffect s t d (t.r d) none (if oe then some false else none) rc ∧
      ∃ rest : Nat, (s.r a).toNat = (s.r b).toNat * (t.r d).toNat + rest ∧ rest < (s.r b).toNat) ∧
  ∀ (d a b : BitVec 5) (oe rc : Bool) (s : State) (i : Instr),
    (i = .divwx d a b oe rc ∧ (s.r b = 0 ∨ (s.r a = 0x80000000 ∧ s.r b = 0xFFFFFFFF))) ∨
      (i = .divwux d a b oe rc ∧ s.r b = 0) →
    Completes (exec i s) fun t =>
      GprsKept s t [d] ∧ t.pc = s.pc + 4 ∧ bit t.xer 0 = (bit s.xer 0 || oe) ∧ bit t.xer 1 = (bit s.xer 1 || oe) ∧
        BitsKept s.xer t.xer 2 30 ∧ (if rc then bit t.cr 3 = bit t.xer 0 ∧ BitsKept s.cr t.cr 4 28 else t.cr = s.cr) ∧
        MemoryKept s t ∧
        { t with gpr := s.gpr, xer := s.xer, cr := s.cr, pc := s.pc, draws := s.draws } = s

/-- The comparisons, signed and unsigned. -/
def Obligations.ComparisonResults : Prop :=
  ∀ (crfD : BitVec 3) (a b : BitVec 5) (imm : BitVec 16) (s : State),
    Completes (exec (.cmpi crfD a imm) s) (fun t => CompareEffect s t crfD (decide ((s.r a).toInt < imm.toInt))
      (decide (imm.toInt < (s.r a).toInt)) (decide ((s.r a).toInt = imm.toInt))) ∧
    Completes (exec (.cmp crfD a b) s) (fun t => CompareEffect s t crfD (decide ((s.r a).toInt < (s.r b).toInt))
      (decide ((s.r b).toInt < (s.r a).toInt)) (decide (s.r a = s.r b))) ∧
    Completes (exec (.cmpli crfD a imm) s) (fun t => CompareEffect s t crfD (decide ((s.r a).toNat < imm.toNat))
      (decide (imm.toNat < (s.r a).toNat)) (decide ((s.r a).toNat = imm.toNat))) ∧
    Completes (exec (.cmpl crfD a b) s) (fun t => CompareEffect s t crfD (decide ((s.r a).toNat < (s.r b).toNat))
      (decide ((s.r b).toNat < (s.r a).toNat)) (decide (s.r a = s.r b)))

/-- The logical instructions, sign extension and the count of leading zeros: the target is the field A, XER is not written,
`andi.` and `andis.` always record. -/
def Obligations.LogicalResults : Prop :=
  ∀ (src a b : BitVec 5) (imm : BitVec 16) (rc : Bool) (s : State),
    (∀ (i : Instr) (res : Word) (rec : Bool),
      (i, res, rec) ∈
        [(Instr.andi_rc src a imm, s.r src &&& imm.setWidth 32, true),
          (.andis_rc src a imm, s.r src &&& (imm ++ (0 : BitVec 16)), true),
          (.ori src a imm, s.r src ||| imm.setWidth 32, false), (.oris src a imm, s.r src ||| (imm ++ (0 : BitVec 16)), false),
          (.xori src a imm, s.r src ^^^ imm.setWidth 32, false), (.xoris src a imm, s.r src ^^^ (imm ++ (0 : BitVec 16)), false),
          (.andx src a b rc, s.r src &&& s.r b, rc), (.andcx src a b rc, s.r src &&& ~~~(s.r b), rc),
          (.orx src a b rc, s.r src ||| s.r b, rc), (.orcx src a b rc, s.r src ||| ~~~(s.r b), rc),
          (.xorx src a b rc, s.r src ^^^ s.r b, rc), (.nandx src a b rc, ~~~(s.r src &&& s.r b), rc),
          (.norx src a b rc, ~~~(s.r src ||| s.r b), rc), (.eqvx src a b rc, ~~~(s.r src ^^^ s.r b), rc)] →
      Completes (exec i s) fun t => IntegerEffect s t a res none none rec) ∧
    Completes (exec (.extsbx src a rc) s) (fun t =>
      IntegerEffect s t a (t.r a) none none rc ∧
        ∀ i, i < 32 → bit (t.r a) i = bit (s.r src) (if i < 24 then 24 else i)) ∧
    Completes (exec (.extshx src a rc) s) (fun t =>
      IntegerEffect s t a (t.r a) none none rc ∧
        ∀ i, i < 32 → bit (t.r a) i = bit (s.r src) (if i < 16 then 16 else i)) ∧
    Completes (exec (.cntlzwx src a rc) s) (fun t =>
      IntegerEffect s t a (t.r a) none none rc ∧ (t.r a).toNat ≤ 32 ∧
        (∀ i, i < (t.r a).toNat → bit (s.r src) i = false) ∧
        ((t.r a).toNat < 32 → bit (s.r src) (t.r a).toNat = true))

/-- The rotates, bit by bit: bit `i` of the result is bit `i + n` of the source, counted modulo 32, where the mask has a
one; elsewhere 0, or for `rlwimi` the target's old bit. The shifts by `r[B][26:31]` or SH: left and right fill with zeros,
algebraic right divides rounding down and sets CA when a negative source loses a one. -/
def Obligations.RotateAndShiftResults : Prop :=
  ∀ (src a b sh mb me : BitVec 5) (rc : Bool) (s : State),
    Completes (exec (.rlwinmx src a sh mb me rc) s) (fun t =>
      IntegerEffect s t a (t.r a) none none rc ∧
        ∀ i, i < 32 → bit (t.r a) i = (inMask mb me i && bit (s.r src) ((i + sh.toNat) % 32))) ∧
    Completes (exec (.rlwimix src a sh mb me rc) s) (fun t =>
      IntegerEffect s t a (t.r a) none none rc ∧
        ∀ i, i < 32 → bit (t.r a) i =
          if inMask mb me i then bit (s.r src) ((i + sh.toNat) % 32) else bit (s.r a) i) ∧
    Completes (exec (.rlwnmx src a b mb me rc) s) (fun t =>
      IntegerEffect s t a (t.r a) none none rc ∧
        ∀ i, i < 32 → bit (t.r a) i = (inMask mb me i && bit (s.r src) ((i + (s.r b).toNat % 32) % 32))) ∧
    Completes (exec (.slwx src a b rc) s) (fun t =>
      IntegerEffect s t a (BitVec.ofNat 32 ((s.r src).toNat * 2 ^ ((s.r b).toNat % 64))) none none rc) ∧
    Completes (exec (.srwx src a b rc) s) (fun t =>
      IntegerEffect s t a (BitVec.ofNat 32 ((s.r src).toNat / 2 ^ ((s.r b).toNat % 64))) none none rc) ∧
    Completes (exec (.srawx src a b rc) s) (fun t =>
      IntegerEffect s t a (BitVec.ofInt 32 ((s.r src).toInt / 2 ^ ((s.r b).toNat % 64)))
        (some (decide ((s.r src).toInt < 0 ∧ (s.r src).toInt % 2 ^ ((s.r b).toNat % 64) ≠ 0))) none rc) ∧
    Completes (exec (.srawix src a sh rc) s) (fun t =>
      IntegerEffect s t a (BitVec.ofInt 32 ((s.r src).toInt / 2 ^ sh.toNat))
        (some (decide ((s.r src).toInt < 0 ∧ (s.r src).toInt % 2 ^ sh.toNat ≠ 0))) none rc)

/-! ## Loads and stores -/

/-- An aligned load of unwatched `ram` completes, with MSR[FP] = 1 for a floating-point one: the target, the updated base
register, and nothing else. -/
def Obligations.AlignedLoadsReadMemory : Prop :=
  ∀ (i : Instr) (ea : Word) (s : State), effectiveAddress i s = some ea → i.wellFormed = true →
    (∀ sh, loadShape i = some sh → AccessReady s false ea sh.bytes →
      Completes (exec i s) fun t => LoadDone s t sh ea) ∧
    ∀ sh, floatLoadShape i = some sh → bit s.msr 18 = true → AccessReady s false ea sh.bytes →
      Completes (exec i s) fun t => FloatLoadDone s t sh ea

/-- An aligned store to unwatched `ram` completes, with MSR[FP] = 1 for a floating-point one: the register's old bytes in
memory at the effective address, the updated base register, and nothing else. -/
def Obligations.AlignedStoresWriteMemory : Prop :=
  ∀ (i : Instr) (ea : Word) (s : State), effectiveAddress i s = some ea → i.wellFormed = true → Memory.wf s.mem = true →
    (∀ st, storeShape i = some st → AccessReady s true ea (st.data s).length →
      Completes (exec i s) fun t => StoreDone s t st.update ea (st.data s)) ∧
    ∀ st, floatStoreShape i = some st → bit s.msr 18 = true → AccessReady s true ea st.bytes →
      Completes (exec i s) fun t => FloatStoreDone s t st ea

/-- A misaligned load or store of one register in unwatched `ram` either takes the alignment exception before any other
effect, or is split and gives what an aligned one gives; which of the two is the platform's policy (log 11). -/
def Obligations.MisalignedAccessesTrapOrSplit : Prop :=
  ∀ (i : Instr) (ea : Word) (s : State) (store : Bool) (n : Nat),
    accessSize i = some (store, n) → effectiveAddress i s = some ea → i.wellFormed = true →
    (needsFloat i = true → bit s.msr 18 = true) → Memory.wf s.mem = true →
    aligned ea n = false → s.watched store ea n = false → kindOf s.memMap ea n = some .ram →
    Completes (exec i s) fun t =>
      if Config.misalignedTraps (encode i) ea then AlignmentTaken s t (encode i) (showsBase i) ea
      else
        (∀ sh, loadShape i = some sh → LoadDone s t sh ea) ∧
        (∀ st, storeShape i = some st → StoreDone s t st.update ea (st.data s)) ∧
        (∀ sh, floatLoadShape i = some sh → FloatLoadDone s t sh ea) ∧
        ∀ st, floatStoreShape i = some st → FloatStoreDone s t st ea

/-- `lwarx`, `stwcx.`, `lmw`, `stmw`, `eciwx` and `ecowx`, the last two whatever EAR says, with an address that is no multiple
of 4 take the alignment exception (log 12); `lmw` shows rA in DSISR. -/
def Obligations.UnsplittableAccessesTrapMisaligned : Prop :=
  ∀ (i : Instr) (x a b : BitVec 5) (disp : BitVec 16) (ea : Word) (s : State),
    (i = .lwarx x a b ∨ i = .stwcx_rc x a b ∨ i = .lmw x a disp ∨ i = .stmw x a disp ∨
      i = .eciwx x a b ∨ i = .ecowx x a b) →
    effectiveAddress i s = some ea → aligned ea 4 = false →
    Completes (exec i s) fun t => AlignmentTaken s t (encode i) (decide (i = .lmw x a disp)) ea

/-- A load or store of one register that DABR watches takes the data storage interrupt, a floating-point one too (log 54,
DEDUCED: R519 names it for the integer ones only); so does a misaligned one that the policy splits, before any of its byte accesses, with DAR the first byte watched. An aligned one outside MEM_MAP is refused
(the spec's D6). `lwarx`, a `stwcx.` that stores, and `dcbz`, whose whole block is watched (log 19), take it too and change
nothing else. That this holds whatever MEM_MAP says (log 50), and that the reservation stays as it was, for `lwarx` (log 51)
and for `stwcx.`, against the letter of R365 (a) and R375 (a) (log 36), is the model's choice (DESIGN CHOICE). The multiple
and string instructions take it at the first access watched, with DAR its address and the accesses before it done (log 43). -/
def Obligations.BlockedAccessesTrapOrStop : Prop :=
  (∀ (i : Instr) (ea : Word) (s : State) (store : Bool) (n : Nat),
    accessSize i = some (store, n) → effectiveAddress i s = some ea → (needsFloat i = true → bit s.msr 18 = true) →
    (aligned ea n = true → s.watched store ea n = true →
      Completes (exec i s) fun t => DsiTaken s t (if store then 0x02400000 else 0x00400000) ea) ∧
    (aligned ea n = false → Config.misalignedTraps (encode i) ea = false → s.watched store ea n = true →
      Completes (exec i s) fun t => ∃ k, k < n ∧ s.watched store (ea + BitVec.ofNat 32 k) 1 = true ∧
        (∀ j, j < k → s.watched store (ea + BitVec.ofNat 32 j) 1 = false) ∧
        DsiTaken s t (if store then 0x02400000 else 0x00400000) (ea + BitVec.ofNat 32 k)) ∧
    (aligned ea n = true → s.watched store ea n = false → kindOf s.memMap ea n = none →
      exec i s = .refused .outsideMemMap)) ∧
  (∀ (x a b : BitVec 5) (s : State),
    (aligned (s.eaX a b) 4 = true → s.watched false (s.eaX a b) 4 = true →
      Completes (exec (.lwarx x a b) s) fun t => DsiTaken s t 0x00400000 (s.eaX a b)) ∧
    (aligned (s.eaX a b) 4 = true → s.watched true (s.eaX a b) 4 = true → s.reserve = true →
      s.reserveAddr = (s.eaX a b).extractLsb' 5 27 →
      Completes (exec (.stwcx_rc x a b) s) fun t => DsiTaken s t 0x02400000 (s.eaX a b)) ∧
    ∀ block : Word, block.toNat = (s.eaX a b).toNat / 32 * 32 → s.watched true block 32 = true →
      kindOf s.memMap block 32 ≠ some .device →
      Completes (exec (.dcbz a b) s) fun t => DsiTaken s t 0x02400000 (s.eaX a b)) ∧
  (∀ (x a : BitVec 5) (disp : BitVec 16) (s : State) (store : Bool) (k : Nat) (ea : Word), ea = s.eaD a disp →
    aligned ea 4 = true → k < 32 - x.toNat →
    (∀ j, j < k → s.watched store (ea + BitVec.ofNat 32 (4 * j)) 4 = false ∧
      kindOf s.memMap (ea + BitVec.ofNat 32 (4 * j)) 4 = some .ram) →
    s.watched store (ea + BitVec.ofNat 32 (4 * k)) 4 = true →
    (store = false → Completes (exec (.lmw x a disp) s) fun t =>
      DsiTaken { s with gpr := t.gpr } t 0x00400000 (ea + BitVec.ofNat 32 (4 * k)) ∧
      (∀ j, j < k → t.r (x + BitVec.ofNat 5 j) =
        BitVec.ofNat 32 (natOf (s.bytesAt (ea + BitVec.ofNat 32 (4 * j)) 4))) ∧
      ∀ r : BitVec 5, r.toNat < x.toNat ∨ x.toNat + k ≤ r.toNat → t.r r = s.r r) ∧
    (store = true → Memory.wf s.mem = true → Completes (exec (.stmw x a disp) s) fun t =>
      DsiTaken { s with mem := t.mem, stale := t.stale } t 0x02400000 (ea + BitVec.ofNat 32 (4 * k)) ∧
      (∀ j, j < 4 * k → t.byteAt (ea + BitVec.ofNat 32 j) = wordByte (s.r (x + BitVec.ofNat 5 (j / 4))) (3 - j % 4)) ∧
      MemoryKeptOutside s t ea (4 * k))) ∧
  ∀ (x a b : BitVec 5) (s : State) (store : Bool) (i : Instr) (n k : Nat) (ea : Word),
    ((i = (if store then .stswi x a b else .lswi x a b) ∧ n = (if b = 0 then 32 else b.toNat) ∧
        ea = (if a = 0 then 0 else s.r a)) ∨
      (i = (if store then .stswx x a b else .lswx x a b) ∧ n = s.xer.toNat % 128 ∧
        ea = (if a = 0 then 0 else s.r a) + s.r b)) →
    (i = .lswx x a b → x ≠ a ∧ x ≠ b ∧ inRegisterRange x a ((n + 3) / 4) = false ∧
      inRegisterRange x b ((n + 3) / 4) = false) →
    k < n →
    (∀ j, j < k → s.watched store (ea + BitVec.ofNat 32 j) 1 = false ∧
      kindOf s.memMap (ea + BitVec.ofNat 32 j) 1 = some .ram) →
    s.watched store (ea + BitVec.ofNat 32 k) 1 = true →
    (store = false → Completes (exec i s) fun t =>
      DsiTaken { s with gpr := t.gpr } t 0x00400000 (ea + BitVec.ofNat 32 k) ∧
      (∀ j, j < k / 4 → t.r (x + BitVec.ofNat 5 j) =
        BitVec.ofNat 32 (natOf (s.bytesAt (ea + BitVec.ofNat 32 (4 * j)) 4))) ∧
      ∀ r, inRegisterRange x r ((k + 3) / 4) = false → t.r r = s.r r) ∧
    (store = true → Memory.wf s.mem = true → Completes (exec i s) fun t =>
      DsiTaken { s with mem := t.mem, stale := t.stale } t 0x02400000 (ea + BitVec.ofNat 32 k) ∧
      (∀ j, j < k → t.byteAt (ea + BitVec.ofNat 32 j) = wordByte (s.r (x + BitVec.ofNat 5 (j / 4))) (3 - j % 4)) ∧
      MemoryKeptOutside s t ea k)

/-- An aligned load of one register with a byte in a device region completes with whatever the device answers for that
byte, and memory's for a byte in `ram`; the device sees the access. An aligned store with a byte in a device region reaches
the device and stores only its bytes in `ram` (log 8). -/
def Obligations.DeviceAccessesReachTheDevice : Prop :=
  ∀ (i : Instr) (ea : Word) (s : State) (store : Bool) (n : Nat),
    accessSize i = some (store, n) → effectiveAddress i s = some ea → i.wellFormed = true →
    (needsFloat i = true → bit s.msr 18 = true) → Memory.wf s.mem = true →
    aligned ea n = true → s.watched store ea n = false → kindOf s.memMap ea n = some .device →
    Completes (exec i s) fun t =>
      t.pc = s.pc + 4 ∧
      (∀ x, x ∉ span ea n ∨ s.isDevice x = true ∨ store = false → t.byteAt x = s.byteAt x) ∧
      { t with
        gpr := s.gpr, fpr := s.fpr, pc := s.pc, draws := s.draws, busLog := s.busLog, mem := s.mem
        stale := s.stale } = s ∧
      (store = false → t.busLog = .deviceRead ea n :: s.busLog) ∧
      (∀ sh, loadShape i = some sh →
        (∃ bytes, bytes.length = n ∧ t.r sh.target = sh.value bytes ∧ ∀ k, k < n →
          s.isDevice (ea + BitVec.ofNat 32 k) = false → bytes[k]? = some (s.byteAt (ea + BitVec.ofNat 32 k))) ∧
        (∀ a, sh.update = some a → t.r a = ea) ∧ GprsKept s t (sh.target :: sh.update.toList) ∧ t.fpr = s.fpr) ∧
      (∀ sh, floatLoadShape i = some sh →
        (∃ bytes, bytes.length = n ∧ t.f sh.target = sh.value bytes ∧ ∀ k, k < n →
          s.isDevice (ea + BitVec.ofNat 32 k) = false → bytes[k]? = some (s.byteAt (ea + BitVec.ofNat 32 k))) ∧
        (∀ a, sh.update = some a → t.r a = ea) ∧ FprsKept s t [sh.target] ∧ GprsKept s t sh.update.toList) ∧
      (∀ st, storeShape i = some st → t.busLog = .deviceWrite ea (st.data s) :: s.busLog ∧
        (∀ k, k < n → s.isDevice (ea + BitVec.ofNat 32 k) = false →
          (st.data s)[k]? = some (t.byteAt (ea + BitVec.ofNat 32 k))) ∧
        (∀ a, st.update = some a → t.r a = ea) ∧ GprsKept s t st.update.toList ∧ t.fpr = s.fpr) ∧
      ∀ st, floatStoreShape i = some st →
        (∃ data, t.busLog = .deviceWrite ea data :: s.busLog ∧ data.length = n ∧
          (∀ v, st.number s = some v → natOf data = v) ∧
          ∀ k, k < n → s.isDevice (ea + BitVec.ofNat 32 k) = false →
            data[k]? = some (t.byteAt (ea + BitVec.ofNat 32 k))) ∧
        (∀ a, st.update = some a → t.r a = ea) ∧ GprsKept s t st.update.toList ∧ t.fpr = s.fpr

/-- `lmw` loads the words from an aligned address on into `r[D]` to `r[31]`; `stmw` stores `r[S]` to `r[31]`. Words with bytes
in device regions move too: a device answers anything for its bytes of a loaded word, takes what is stored to it, and sees one
access for each word, in ascending order (log 8). At the first access outside MEM_MAP, unwatched, the instruction is refused
(the spec's D6). -/
def Obligations.MultipleWordsMove : Prop :=
  ∀ (x a : BitVec 5) (disp : BitVec 16) (s : State), aligned (s.eaD a disp) 4 = true →
    ((∀ k, k < 32 - x.toNat → s.watched false (s.eaD a disp + BitVec.ofNat 32 (4 * k)) 4 = false ∧
        kindOf s.memMap (s.eaD a disp + BitVec.ofNat 32 (4 * k)) 4 = some .ram) →
      Completes (exec (.lmw x a disp) s) fun t =>
        (∀ k, k < 32 - x.toNat → t.r (x + BitVec.ofNat 5 k) =
          BitVec.ofNat 32 (natOf (s.bytesAt (s.eaD a disp + BitVec.ofNat 32 (4 * k)) 4))) ∧
        (∀ j : BitVec 5, j.toNat < x.toNat → t.r j = s.r j) ∧ t.pc = s.pc + 4 ∧ MemoryKept s t ∧
        { t with gpr := s.gpr, pc := s.pc } = s) ∧
    (Memory.wf s.mem = true →
      (∀ k, k < 32 - x.toNat → s.watched true (s.eaD a disp + BitVec.ofNat 32 (4 * k)) 4 = false ∧
        kindOf s.memMap (s.eaD a disp + BitVec.ofNat 32 (4 * k)) 4 = some .ram) →
      Completes (exec (.stmw x a disp) s) fun t =>
        (∀ k, k < 4 * (32 - x.toNat) → t.byteAt (s.eaD a disp + BitVec.ofNat 32 k) =
          wordByte (s.r (x + BitVec.ofNat 5 (k / 4))) (3 - k % 4)) ∧
        MemoryKeptOutside s t (s.eaD a disp) (4 * (32 - x.toNat)) ∧ t.pc = s.pc + 4 ∧
        { t with mem := s.mem, stale := s.stale, pc := s.pc } = s) ∧
    let word (k : Nat) : Word := s.eaD a disp + BitVec.ofNat 32 (4 * k)
    let devices := (List.range (32 - x.toNat)).reverse.filter fun k => kindOf s.memMap (word k) 4 == some .device
    ((∀ k, k < 32 - x.toNat → s.watched false (word k) 4 = false ∧ kindOf s.memMap (word k) 4 ≠ none) →
      Completes (exec (.lmw x a disp) s) fun t =>
        t.busLog = devices.map (fun k => .deviceRead (word k) 4) ++ s.busLog ∧
        (∀ k j, k < 32 - x.toNat → j < 4 → s.isDevice (word k + BitVec.ofNat 32 j) = false →
          wordByte (t.r (x + BitVec.ofNat 5 k)) (3 - j) = s.byteAt (word k + BitVec.ofNat 32 j)) ∧
        (∀ j : BitVec 5, j.toNat < x.toNat → t.r j = s.r j) ∧ t.pc = s.pc + 4 ∧ MemoryKept s t ∧
        { t with gpr := s.gpr, pc := s.pc, draws := s.draws, busLog := s.busLog } = s) ∧
    (Memory.wf s.mem = true →
      (∀ k, k < 32 - x.toNat → s.watched true (word k) 4 = false ∧ kindOf s.memMap (word k) 4 ≠ none) →
      Completes (exec (.stmw x a disp) s) fun t =>
        t.busLog = devices.map (fun k =>
          .deviceWrite (word k) ([3, 2, 1, 0].map (wordByte (s.r (x + BitVec.ofNat 5 k))))) ++ s.busLog ∧
        (∀ k j, k < 32 - x.toNat → j < 4 → s.isDevice (word k + BitVec.ofNat 32 j) = false →
          t.byteAt (word k + BitVec.ofNat 32 j) = wordByte (s.r (x + BitVec.ofNat 5 k)) (3 - j)) ∧
        (∀ y, y ∉ span (s.eaD a disp) (4 * (32 - x.toNat)) ∨ s.isDevice y = true → t.byteAt y = s.byteAt y) ∧
        t.pc = s.pc + 4 ∧ { t with mem := s.mem, stale := s.stale, pc := s.pc, busLog := s.busLog } = s) ∧
    ∀ (store : Bool) (k : Nat), k < 32 - x.toNat →
      (∀ j, j < k → s.watched store (word j) 4 = false ∧ kindOf s.memMap (word j) 4 ≠ none) →
      s.watched store (word k) 4 = false → kindOf s.memMap (word k) 4 = none →
      exec (if store then .stmw x a disp else .lmw x a disp) s = .refused .outsideMemMap

/-- The string loads: the bytes fill registers from `r[D]` on, wrapping past `r[31]`, most significant byte first, the last
one padded with zeros. `lswx` with a count of 0 leaves only `r[D]` open, and with a base or index register in the range
loaded it is refused as an invalid form. For a byte in a device region the device answers anything and sees one access, in
ascending order (log 8); at the first byte outside MEM_MAP, unwatched, the instruction is refused (the spec's D6). -/
def Obligations.StringLoadsFillRegisters : Prop :=
  ∀ (d a b : BitVec 5) (s : State) (i : Instr) (n : Nat) (ea : Word),
    ((i = .lswi d a b ∧ n = (if b = 0 then 32 else b.toNat) ∧ ea = (if a = 0 then 0 else s.r a)) ∨
      (i = .lswx d a b ∧ n = s.xer.toNat % 128 ∧ ea = (if a = 0 then 0 else s.r a) + s.r b)) →
    ((i = .lswi d a b ∨ (d ≠ a ∧ d ≠ b ∧ inRegisterRange d a ((n + 3) / 4) = false ∧
          inRegisterRange d b ((n + 3) / 4) = false)) →
      0 < n →
      (∀ k, k < n → s.watched false (ea + BitVec.ofNat 32 k) 1 = false ∧
        kindOf s.memMap (ea + BitVec.ofNat 32 k) 1 = some .ram) →
      Completes (exec i s) fun t =>
        (∀ j, j < (n + 3) / 4 → t.r (d + BitVec.ofNat 5 j) =
          BitVec.ofNat 32 (natOf (((s.bytesAt ea n ++ [0, 0, 0]).drop (4 * j)).take 4))) ∧
        (∀ r, inRegisterRange d r ((n + 3) / 4) = false → t.r r = s.r r) ∧ t.pc = s.pc + 4 ∧ MemoryKept s t ∧
        { t with gpr := s.gpr, pc := s.pc } = s) ∧
    ((i = .lswi d a b ∨ (d ≠ a ∧ d ≠ b ∧ inRegisterRange d a ((n + 3) / 4) = false ∧
          inRegisterRange d b ((n + 3) / 4) = false)) →
      0 < n →
      ((∀ k, k < n → s.watched false (ea + BitVec.ofNat 32 k) 1 = false ∧
          kindOf s.memMap (ea + BitVec.ofNat 32 k) 1 ≠ none) →
        Completes (exec i s) fun t =>
          (∃ bytes : List Byte, bytes.length = n ∧
            (∀ k, k < n → s.isDevice (ea + BitVec.ofNat 32 k) = false →
              bytes[k]? = some (s.byteAt (ea + BitVec.ofNat 32 k))) ∧
            ∀ j, j < (n + 3) / 4 → t.r (d + BitVec.ofNat 5 j) =
              BitVec.ofNat 32 (natOf (((bytes ++ [0, 0, 0]).drop (4 * j)).take 4))) ∧
          t.busLog = ((List.range n).reverse.filter fun k => s.isDevice (ea + BitVec.ofNat 32 k)).map
            (fun k => .deviceRead (ea + BitVec.ofNat 32 k) 1) ++ s.busLog ∧
          (∀ r, inRegisterRange d r ((n + 3) / 4) = false → t.r r = s.r r) ∧ t.pc = s.pc + 4 ∧ MemoryKept s t ∧
          { t with gpr := s.gpr, pc := s.pc, draws := s.draws, busLog := s.busLog } = s) ∧
      ∀ k, k < n →
        (∀ j, j < k → s.watched false (ea + BitVec.ofNat 32 j) 1 = false ∧
          kindOf s.memMap (ea + BitVec.ofNat 32 j) 1 ≠ none) →
        s.watched false (ea + BitVec.ofNat 32 k) 1 = false → kindOf s.memMap (ea + BitVec.ofNat 32 k) 1 = none →
        exec i s = .refused .outsideMemMap) ∧
    (i = .lswx d a b → (d = a ∨ d = b ∨ inRegisterRange d a ((n + 3) / 4) = true ∨
        inRegisterRange d b ((n + 3) / 4) = true) → exec i s = .refused .invalidForm) ∧
    (i = .lswx d a b → d ≠ a → d ≠ b → n = 0 →
      Completes (exec i s) fun t => GprsKept s t [d] ∧ t.pc = s.pc + 4 ∧ MemoryKept s t ∧
        { t with gpr := s.gpr, pc := s.pc, draws := s.draws } = s)

/-- The string stores: the bytes of registers from `r[S]` on, most significant first, go to memory in ascending order. A byte
in a device region goes to the device, which sees one access for it, in the same order (log 8); at the first byte outside
MEM_MAP, unwatched, the instruction is refused (the spec's D6). -/
def Obligations.StringStoresWriteBytes : Prop :=
  ∀ (src a b : BitVec 5) (s : State) (i : Instr) (n : Nat) (ea : Word), Memory.wf s.mem = true →
    ((i = .stswi src a b ∧ n = (if b = 0 then 32 else b.toNat) ∧ ea = (if a = 0 then 0 else s.r a)) ∨
      (i = .stswx src a b ∧ n = s.xer.toNat % 128 ∧ ea = (if a = 0 then 0 else s.r a) + s.r b)) →
    ((∀ k, k < n → s.watched true (ea + BitVec.ofNat 32 k) 1 = false ∧
        kindOf s.memMap (ea + BitVec.ofNat 32 k) 1 = some .ram) →
      Completes (exec i s) fun t =>
        (∀ k, k < n → t.byteAt (ea + BitVec.ofNat 32 k) = wordByte (s.r (src + BitVec.ofNat 5 (k / 4))) (3 - k % 4)) ∧
        MemoryKeptOutside s t ea n ∧ t.pc = s.pc + 4 ∧ { t with mem := s.mem, stale := s.stale, pc := s.pc } = s) ∧
    ((∀ k, k < n → s.watched true (ea + BitVec.ofNat 32 k) 1 = false ∧
        kindOf s.memMap (ea + BitVec.ofNat 32 k) 1 ≠ none) →
      Completes (exec i s) fun t =>
        t.busLog = ((List.range n).reverse.filter fun k => s.isDevice (ea + BitVec.ofNat 32 k)).map
          (fun k => .deviceWrite (ea + BitVec.ofNat 32 k)
            [wordByte (s.r (src + BitVec.ofNat 5 (k / 4))) (3 - k % 4)]) ++ s.busLog ∧
        (∀ k, k < n → s.isDevice (ea + BitVec.ofNat 32 k) = false →
          t.byteAt (ea + BitVec.ofNat 32 k) = wordByte (s.r (src + BitVec.ofNat 5 (k / 4))) (3 - k % 4)) ∧
        (∀ y, y ∉ span ea n ∨ s.isDevice y = true → t.byteAt y = s.byteAt y) ∧ t.pc = s.pc + 4 ∧
        { t with mem := s.mem, stale := s.stale, pc := s.pc, busLog := s.busLog } = s) ∧
    ∀ k, k < n →
      (∀ j, j < k → s.watched true (ea + BitVec.ofNat 32 j) 1 = false ∧
        kindOf s.memMap (ea + BitVec.ofNat 32 j) 1 ≠ none) →
      s.watched true (ea + BitVec.ofNat 32 k) 1 = false → kindOf s.memMap (ea + BitVec.ofNat 32 k) 1 = none →
      exec i s = .refused .outsideMemMap

/-- `lwarx` at an aligned word of unwatched `ram` loads it and takes the reservation of its 32-byte granule in one step;
with a byte in a device region, or outside MEM_MAP, it is refused (the spec's D6). -/
def Obligations.LoadReserveTakesReservation : Prop :=
  ∀ (d a b : BitVec 5) (s : State), aligned (s.eaX a b) 4 = true →
    (s.watched false (s.eaX a b) 4 = false → kindOf s.memMap (s.eaX a b) 4 = some .ram →
      Completes (exec (.lwarx d a b) s) fun t =>
        t.reserve = true ∧ t.reserveAddr = (s.eaX a b).extractLsb' 5 27 ∧
        t.r d = BitVec.ofNat 32 (natOf (s.bytesAt (s.eaX a b) 4)) ∧ GprsKept s t [d] ∧ t.pc = s.pc + 4 ∧ MemoryKept s t ∧
        { t with gpr := s.gpr, pc := s.pc, reserve := s.reserve, reserveAddr := s.reserveAddr } = s) ∧
    (s.watched false (s.eaX a b) 4 = false →
      (kindOf s.memMap (s.eaX a b) 4 = some .device → exec (.lwarx d a b) s = .refused .lwarxNotRam) ∧
      (kindOf s.memMap (s.eaX a b) 4 = none → exec (.lwarx d a b) s = .refused .outsideMemMap))

/-- `stwcx.` with no reservation stores nothing; with the reservation of its granule it stores the word; with another
granule's it does one of the two. It always clears the reservation, and CR0 says whether it stored. With its granule's
reservation, unwatched and outside MEM_MAP it is refused (the spec's D6); without a reservation it makes no access, so that
neither DABR nor MEM_MAP stops it, which is the model's choice (log 36, DESIGN CHOICE). -/
def Obligations.StoreConditionalNeedsReservation : Prop :=
  ∀ (src a b : BitVec 5) (s : State), aligned (s.eaX a b) 4 = true →
    (Memory.wf s.mem = true → s.watched true (s.eaX a b) 4 = false → kindOf s.memMap (s.eaX a b) 4 = some .ram →
      Completes (exec (.stwcx_rc src a b) s) fun t =>
        t.reserve = false ∧ bit t.cr 0 = false ∧ bit t.cr 1 = false ∧ bit t.cr 3 = bit s.xer 0 ∧
        BitsKept s.cr t.cr 4 28 ∧ t.pc = s.pc + 4 ∧
        MemoryKeptOutside s t (s.eaX a b) 4 ∧
        (bit t.cr 2 = true → t.bytesAt (s.eaX a b) 4 = [3, 2, 1, 0].map (wordByte (s.r src))) ∧
        (bit t.cr 2 = false → MemoryKept s t) ∧
        (s.reserve = false → bit t.cr 2 = false) ∧
        (s.reserve = true → s.reserveAddr = (s.eaX a b).extractLsb' 5 27 → bit t.cr 2 = true) ∧
        { t with
          mem := s.mem, stale := s.stale, cr := s.cr, pc := s.pc, reserve := s.reserve, draws := s.draws } = s) ∧
    (s.watched true (s.eaX a b) 4 = false → kindOf s.memMap (s.eaX a b) 4 = none → s.reserve = true →
      s.reserveAddr = (s.eaX a b).extractLsb' 5 27 → exec (.stwcx_rc src a b) s = .refused .outsideMemMap) ∧
    (s.reserve = false →
      Completes (exec (.stwcx_rc src a b) s) fun t =>
        bit t.cr 0 = false ∧ bit t.cr 1 = false ∧ bit t.cr 2 = false ∧ bit t.cr 3 = bit s.xer 0 ∧
        BitsKept s.cr t.cr 4 28 ∧ t.pc = s.pc + 4 ∧ MemoryKept s t ∧ { t with cr := s.cr, pc := s.pc } = s)

/-- The barriers and the cache instructions that change no data complete: registers, memory and every flag stay; only what
instruction fetch may still see moves on. `dcbt` and `dcbtst` do so at any address; `dcbf`, `dcbst`, `icbi` and `dcbi` inside
MEM_MAP, outside which they are refused. That the byte at the effective address decides, whatever the other bytes of the
block are, is the model's choice (log 40, DESIGN CHOICE). -/
def Obligations.BarriersAndCacheHintsKeepData : Prop :=
  ∀ (a b : BitVec 5) (s : State),
    (∀ i, i ∈ [Instr.sync, .eieio, .isync, .dcbt a b, .dcbtst a b] →
      Completes (exec i s) fun t => t.pc = s.pc + 4 ∧ MemoryKept s t ∧ { t with stale := s.stale, pc := s.pc } = s) ∧
    (∀ i, (i ∈ [Instr.dcbf a b, .dcbst a b, .icbi a b] ∨ (i = .dcbi a b ∧ s.userMode = false)) →
      (kindAt s.memMap (s.eaX a b).toNat ≠ none →
        Completes (exec i s) fun t => t.pc = s.pc + 4 ∧ MemoryKept s t ∧ { t with stale := s.stale, pc := s.pc } = s) ∧
      (kindAt s.memMap (s.eaX a b).toNat = none → exec i s = .refused .outsideMemMap))

/-- After `dcbst` or `dcbf`, `sync`, `icbi`, `sync` and `isync` for a block, instruction fetch sees no word of it as it was
before this processor stored, and where this processor stored last it sees no old word at all; on a uniprocessor `isync` may
stand for the second `sync`. The old words under another master's stores stay otherwise, until that master has published them,
after which an `isync` here ends them and every older word at their addresses, and none of this processor's later stores. -/
def Obligations.CodeModificationSequencePublishes : Prop :=
  (∀ (a b : BitVec 5) (first fourth : Instr) (s : State), (first = .dcbst a b ∨ first = .dcbf a b) →
    (fourth = .sync ∨ (fourth = .isync ∧ Config.uniprocessor = true)) → kindAt s.memMap (s.eaX a b).toNat ≠ none →
    Completes (exec first s) fun s1 => Completes (exec .sync s1) fun s2 => Completes (exec (.icbi a b) s2) fun s3 =>
      Completes (exec fourth s3) fun s4 => Completes (exec .isync s4) fun t =>
        (∀ e ∈ t.stale, e.own = true → e.inBlock (s.eaX a b) = false) ∧
        (∀ (k : Nat) (e : StaleWord), s.stale.find? (fun x => x.addr == k) = some e → e.own = true →
          e.inBlock (s.eaX a b) = true → ∀ x ∈ t.stale, x.addr ≠ k) ∧
        (∀ (newer older : List StaleWord) (e : StaleWord), s.stale = newer ++ e :: older → e.own = false →
          e.stage = .stored → (∀ x ∈ newer, x.addr = e.addr → x.own = false ∧ x.stage = .stored) → e ∈ t.stale) ∧
        MemoryKept s t) ∧
  ∀ (a : Word) (s : State), Completes (exec .isync (applyEvent (.codePublished a) s)) fun t =>
    (∀ e ∈ t.stale, e.own = false → e.inBlock a = false) ∧
    (∀ (k : Nat) (e : StaleWord), s.stale.find? (fun x => x.addr == k) = some e → e.own = false → e.inBlock a = true →
      ∀ x ∈ t.stale, x.addr ≠ k) ∧
    (∀ (newer older : List StaleWord) (e : StaleWord), s.stale = newer ++ e :: older → e.own = true → e.stage = .stored →
      (∀ x ∈ newer, x.addr = e.addr → x.own = true ∧ x.stage = .stored) → e ∈ t.stale) ∧
    MemoryKept s t

/-- `dcbz` clears the 32 bytes of the block that holds the address, in unwatched `ram`; until the block is published, fetch may
see each byte of its words as it was or zero, each on its own (R456: no more than per-byte visibility; the form is log 6). In a
device region it takes the alignment exception; unwatched and outside MEM_MAP it is refused (the spec's D6). That one byte of
the block in a device region is enough for the alignment exception is the model's choice (logs 5 and 40, DESIGN CHOICE). -/
def Obligations.BlockZeroClearsBlock : Prop :=
  ∀ (a b : BitVec 5) (s : State) (block : Word), block.toNat = (s.eaX a b).toNat / 32 * 32 →
    (Memory.wf s.mem = true → kindOf s.memMap block 32 = some .ram → s.watched true block 32 = false →
      Completes (exec (.dcbz a b) s) fun t => StoreDone s t none block (List.replicate 32 0) ∧
        t.stale = ((List.range 8).reverse.map fun k =>
          let w := block + BitVec.ofNat 32 (4 * k)
          (⟨w.toNat, s.wordAt w, 0, .stored, true⟩ : StaleWord)) ++ s.stale ∧
        ∀ (k : Nat) (v : Word), k < 8 →
          (∀ j, j < 4 → wordByte v j = wordByte (s.wordAt (block + BitVec.ofNat 32 (4 * k))) j ∨ wordByte v j = 0) →
          ({ t with pc := block + BitVec.ofNat 32 (4 * k) } : State).MayFetch v) ∧
    (kindOf s.memMap block 32 = some .device →
      Completes (exec (.dcbz a b) s) fun t => AlignmentTaken s t (encode (.dcbz a b)) false (s.eaX a b)) ∧
    (kindOf s.memMap block 32 = none → s.watched true block 32 = false → exec (.dcbz a b) s = .refused .outsideMemMap)

/-- The formats round-trip: a single that `lfs` puts into a register comes back unchanged through `stfs`, for every bit
pattern; packing the sign, significand and exponent of a finite double gives the double back. -/
def Obligations.FormatsRoundTrip : Prop :=
  (∀ w : Word, singleOf (doubleOf w) = some w) ∧
    ∀ v : Dword, fpIsNaN v = false → fpIsInf v = false → packDouble (fpSign v) (fpSignificand v) (fpScale v) = v

/-- `eciwx` and `ecowx`: a misaligned address takes the alignment exception, whatever EAR says; an aligned one with EAR[E] = 0
a data storage interrupt; with EAR[E] = 1 the platform sees the access with EAR's resource number, `eciwx` takes its answer
(any word: log 8), and memory stays. That a misaligned one takes the alignment exception under every misalignment policy, where
D3, C15 and R88 (a) refuse it under `refuse` and `split`, is the model's choice (log 12, DESIGN CHOICE). That the alignment comes
first is D3, C15, R88 (a) and R518 against the order of the steps
of R470 (log 47); that DABR watches neither instruction, and that they complete outside MEM_MAP too, is the model's choice (log
47, DESIGN CHOICE). -/
def Obligations.ExternalControlReachesPlatform : Prop :=
  ∀ (x a b : BitVec 5) (s : State),
    (aligned (s.eaX a b) 4 = false →
      Completes (exec (.eciwx x a b) s) (fun t => AlignmentTaken s t (encode (.eciwx x a b)) false (s.eaX a b)) ∧
      Completes (exec (.ecowx x a b) s) (fun t => AlignmentTaken s t (encode (.ecowx x a b)) false (s.eaX a b))) ∧
    (aligned (s.eaX a b) 4 = true → bit s.ear 0 = false →
      Completes (exec (.eciwx x a b) s) (fun t => DsiTaken s t 0x00100000 (s.eaX a b)) ∧
      Completes (exec (.ecowx x a b) s) (fun t => DsiTaken s t 0x02100000 (s.eaX a b))) ∧
    (bit s.ear 0 = true → aligned (s.eaX a b) 4 = true →
      Completes (exec (.eciwx x a b) s) (fun t =>
        t.busLog = .externalIn (s.ear.setWidth 6) (s.eaX a b) :: s.busLog ∧ GprsKept s t [x] ∧ t.pc = s.pc + 4 ∧
        MemoryKept s t ∧ { t with gpr := s.gpr, pc := s.pc, busLog := s.busLog, draws := s.draws } = s) ∧
      Completes (exec (.ecowx x a b) s) (fun t =>
        t.busLog = .externalOut (s.ear.setWidth 6) (s.eaX a b) (s.r x) :: s.busLog ∧ t.pc = s.pc + 4 ∧ MemoryKept s t ∧
        { t with pc := s.pc, busLog := s.busLog } = s))

/-! ## Branches, CR, traps and moves -/

/-- The branches: CTR counts where BO[2] = 0, the condition and the count decide, LR takes the next address with LK whether
or not the branch is taken, the target is relative unless AA, and its low two bits are 0. -/
def Obligations.BranchResults : Prop :=
  ∀ (i : Instr) (bo bi : BitVec 5) (li : BitVec 24) (bd : BitVec 14) (aa lk : Bool) (s : State)
    (taken : Bool) (target ctr : Word),
    ((i = .bx li aa lk ∧ taken = true ∧ ctr = s.ctr ∧
        target = (if aa then 0 else s.pc) + (li ++ (0 : BitVec 2)).signExtend 32) ∨
      (i = .bcx bo bi bd aa lk ∧ ctr = (if bit bo 2 then s.ctr else s.ctr - 1) ∧
        target = (if aa then 0 else s.pc) + (bd ++ (0 : BitVec 2)).signExtend 32 ∧
        taken = ((bit bo 2 || (decide (ctr ≠ 0) != bit bo 3)) && (bit bo 0 || bit s.cr bi.toNat == bit bo 1))) ∨
      (i = .bclrx bo bi lk ∧ ctr = (if bit bo 2 then s.ctr else s.ctr - 1) ∧ target = s.lr ∧
        taken = ((bit bo 2 || (decide (ctr ≠ 0) != bit bo 3)) && (bit bo 0 || bit s.cr bi.toNat == bit bo 1))) ∨
      (i = .bcctrx bo bi lk ∧ bit bo 2 = true ∧ ctr = s.ctr ∧ target = s.ctr ∧
        taken = (bit bo 0 || bit s.cr bi.toNat == bit bo 1))) →
    Completes (exec i s) fun t =>
      t.pc = (if taken then target &&& 0xFFFFFFFC else s.pc + 4) ∧ t.ctr = ctr ∧
      t.lr = (if lk then s.pc + 4 else s.lr) ∧ MemoryKept s t ∧
      { t with pc := s.pc, ctr := s.ctr, lr := s.lr } = s

/-- The CR-logical instructions write one bit, `mcrf` one field, and nothing else. -/
def Obligations.ConditionRegisterLogicResults : Prop :=
  (∀ (x y z : BitVec 5) (s : State) (i : Instr) (v : Bool),
    (i, v) ∈
      [(Instr.crand x y z, bit s.cr y.toNat && bit s.cr z.toNat), (.crandc x y z, bit s.cr y.toNat && !bit s.cr z.toNat),
        (.creqv x y z, !(bit s.cr y.toNat ^^ bit s.cr z.toNat)), (.crnand x y z, !(bit s.cr y.toNat && bit s.cr z.toNat)),
        (.crnor x y z, !(bit s.cr y.toNat || bit s.cr z.toNat)), (.cror x y z, bit s.cr y.toNat || bit s.cr z.toNat),
        (.crorc x y z, bit s.cr y.toNat || !bit s.cr z.toNat), (.crxor x y z, bit s.cr y.toNat ^^ bit s.cr z.toNat)] →
    Completes (exec i s) fun t =>
      bit t.cr x.toNat = v ∧ (∀ k, k < 32 → k ≠ x.toNat → bit t.cr k = bit s.cr k) ∧ t.pc = s.pc + 4 ∧ MemoryKept s t ∧
      { t with cr := s.cr, pc := s.pc } = s) ∧
  ∀ (crfD crfS : BitVec 3) (s : State), Completes (exec (.mcrf crfD crfS) s) fun t =>
    crField t.cr crfD = crField s.cr crfS ∧ (∀ n, n ≠ crfD → crField t.cr n = crField s.cr n) ∧ t.pc = s.pc + 4 ∧
    MemoryKept s t ∧ { t with cr := s.cr, pc := s.pc } = s

/-- `tw` and `twi` trap when a condition that TO selects holds: SRR0 is their own address, SRR1[14] = 1, the vector 0x00700,
and nothing but SRR0, SRR1, MSR and the pc changes. Otherwise only the pc moves. -/
def Obligations.TrapInstructionResults : Prop :=
  ∀ (on ra rb : BitVec 5) (simm : BitVec 16) (s : State) (i : Instr) (x y : Word),
    ((i = .tw on ra rb ∧ x = s.r ra ∧ y = s.r rb) ∨ (i = .twi on ra simm ∧ x = s.r ra ∧ y = simm.signExtend 32)) →
    let t := takeException .program s.pc (bitMask 14) s
    exec i s = .next
      (if (bit on 0 = true ∧ x.toInt < y.toInt) ∨ (bit on 1 = true ∧ x.toInt > y.toInt) ∨ (bit on 2 = true ∧ x = y) ∨
          (bit on 3 = true ∧ x.toNat < y.toNat) ∨ (bit on 4 = true ∧ x.toNat > y.toNat) then t
      else { s with pc := s.pc + 4 }) ∧
    t.srr0 = s.pc &&& 0xFFFFFFFC ∧ bit t.srr1 14 = true ∧ t.pc = (if bit s.msr 25 then 0xFFF00700 else 0x00000700) ∧
    { t with srr0 := s.srr0, srr1 := s.srr1, msr := s.msr, pc := s.pc, taken := s.taken } = s

/-- The moves among registers: `mfcr`, `mtcrf`, `mcrxr`, `mfmsr` in supervisor mode, `mftb`; an undefined time-base number
takes the illegal-instruction exception. In supervisor mode `mtsr` and `mtsrin` write one segment register, `mfsr` and
`mfsrin` read one, and `tlbie` and `tlbsync` under both encodings change nothing. That a segment register keeps all 32 bits
written, its reserved bits too, of which U24 says that they read 0, is the model's choice (log 24, DESIGN CHOICE). -/
def Obligations.RegisterMoveResults : Prop :=
  (∀ (d : BitVec 5) (crfD : BitVec 3) (crm : BitVec 8) (tbr : BitVec 10) (s : State),
    exec (.mfcr d) s = .next { s.setR d s.cr with pc := s.pc + 4 } ∧
    Completes (exec (.mtcrf d crm) s) (fun t =>
      (∀ k, k < 32 → bit t.cr k = if bit crm (k / 4) then bit (s.r d) k else bit s.cr k) ∧
      t = { s with cr := t.cr, pc := s.pc + 4 }) ∧
    Completes (exec (.mcrxr crfD) s) (fun t =>
      (∀ k, k < 4 → bit t.cr (4 * crfD.toNat + k) = bit s.xer k ∧ bit t.xer k = false) ∧ BitsKept s.xer t.xer 4 28 ∧
      (∀ n, n ≠ crfD → crField t.cr n = crField s.cr n) ∧ t = { s with cr := t.cr, xer := t.xer, pc := s.pc + 4 }) ∧
    (s.userMode = false → exec (.mfmsr d) s = .next { s.setR d s.msr with pc := s.pc + 4 }) ∧
    (tbr = 268 → exec (.mftb d tbr) s = .next { s.setR d (s.tb.setWidth 32) with pc := s.pc + 4 }) ∧
    (tbr = 269 → exec (.mftb d tbr) s = .next { s.setR d ((s.tb >>> 32).setWidth 32) with pc := s.pc + 4 }) ∧
    (tbr ≠ 268 → tbr ≠ 269 → exec (.mftb d tbr) s = .next (takeException .program s.pc (bitMask 12) s))) ∧
  ∀ (x b : BitVec 5) (n : BitVec 4) (s : State), s.userMode = false →
    exec (.mfsr x n) s = .next { s.setR x (s.sr[n.toNat]) with pc := s.pc + 4 } ∧
    exec (.mfsrin x b) s = .next { s.setR x (s.sr[(s.r b).toNat / 2 ^ 28]'(by have := (s.r b).isLt; omega)) with pc := s.pc + 4 } ∧
    exec (.mtsr x n) s = .next { s with sr := s.sr.set n.toNat (s.r x), pc := s.pc + 4 } ∧
    exec (.mtsrin x b) s =
      .next { s with sr := s.sr.set ((s.r b).toNat / 2 ^ 28) (s.r x) (by have := (s.r b).isLt; omega), pc := s.pc + 4 } ∧
    ∀ i, i ∈ [Instr.tlbie b, .tlbsync, .tlbsync_b31] → exec i s = .next { s with pc := s.pc + 4 }

/-- `mfspr` reads every special-purpose register under its number, where the mode allows it; a number without a register
is an illegal instruction in user mode and refused in supervisor mode (the spec's D9). -/
def Obligations.SpecialRegisterReads : Prop :=
  ∀ (d : BitVec 5) (n : BitVec 10) (s : State), (s.userMode = false ∨ n.getLsbD 4 = false) →
    (∀ get, (n.toNat, get) ∈ sprTable → exec (.mfspr d n) s = .next { s.setR d (get s) with pc := s.pc + 4 }) ∧
    (n.toNat ∉ sprTable.map (·.1) →
      exec (.mfspr d n) s =
        if s.userMode then .next (takeException .program s.pc (bitMask 12) s) else .refused .sprNotImplemented)

/-- `mtspr` writes one special-purpose register, TBL or TBU: it reads back as written (XER without its reserved bits), every
other one stays, and so does everything else but the flags that a write of DEC, MMCR0 or the time base raises; a bit of
the time base that a write takes from 0 to 1 has risen for the performance monitor (the spec's U9, log 7). A write of MMCR0,
PMC1 or PMC2 that leaves a counter negative with its interrupt and ENINT enabled signals at that step (the spec's U15, R544
"at once"; log 29): ENINT is cleared and the interrupt pends; SIA and SDA are free where `mtspr` made the counter negative;
where it counted there, SIA is the last instruction completed, or both are the load or store of a threshold event. PVR cannot be
written, and numbers without a register stop as for `mfspr`. -/
def Obligations.SpecialRegisterWrites : Prop :=
  ∀ (src : BitVec 5) (n : BitVec 10) (s : State), (s.userMode = false ∨ n.getLsbD 4 = false) →
    (∀ get, (n.toNat, get) ∈ sprTable ++ timeBaseTable → n ≠ 287 →
      let v := s.r src
      let mmcr0 := if n = 952 then v else s.mmcr0
      let pmc1 := if n = 953 then v else s.pmc1
      let pmc2 := if n = 954 then v else s.pmc2
      let signals := (n == 952 || n == 953 || n == 954) && bit mmcr0 5 &&
        ((bit mmcr0 16 && bit pmc1 0) || (bit mmcr0 17 && bit pmc2 0))
      Completes (exec (.mtspr src n) s) fun t =>
        get t = (if n = 1 then v &&& 0xE000007F else if n = 952 ∧ signals = true then v &&& ~~~(bitMask 5) else v) ∧
        (∀ m other, (m, other) ∈ sprTable ++ timeBaseTable → m ≠ n.toNat → (signals = true → m ∉ [952, 955, 959]) →
          other t = other s) ∧
        t.decPending = (s.decPending || (n == 22 && bit v 0 && !bit s.dec 0)) ∧
        t.pmSignaled = (signals || (s.pmSignaled && !(n == 952 && bit v 5))) ∧
        t.pmiPending = (s.pmiPending || signals) ∧ t.everSignaled = (s.everSignaled || signals) ∧
        t.pmc1Cause = (if n = 953 then .written else s.pmc1Cause) ∧
        t.pmc2Cause = (if n = 954 then .written else s.pmc2Cause) ∧
        (signals = true → t.mmcr0 = mmcr0 &&& ~~~(bitMask 5)) ∧ (signals = false → t.draws = s.draws) ∧
        (n = 952 → signals = true → (bit v 16 && bit s.pmc1 0 && s.pmc1Cause == .written) = false →
          (bit v 17 && bit s.pmc2 0 && s.pmc2Cause == .written) = false →
          (∀ m, (bit v 16 && bit s.pmc1 0) = true → s.pmc1Cause = .threshold m → t.sia = m.insn ∧ t.sda = m.operand) ∧
          ((bit v 16 && bit s.pmc1 0) = false ∨ s.pmc1Cause = .counted → ∀ a, s.lastCompleted = some a → t.sia = a)) ∧
        (∀ k, k < 64 → bit t.tbRose k = (bit s.tbRose k || (bit t.tb k && !bit s.tb k))) ∧ t.pc = s.pc + 4 ∧ MemoryKept s t ∧
        { t.withSprsOf s with pc := s.pc } = s) ∧
    (n = 287 → exec (.mtspr src n) s = .refused .pvrReadOnly) ∧
    (n.toNat ∉ (sprTable ++ timeBaseTable).map (·.1) →
      exec (.mtspr src n) s =
        if s.userMode then .next (takeException .program s.pc (bitMask 12) s) else .refused .sprNotImplemented)

/-! ## Floating point -/

/-- With the enabled exceptions off, every floating-point arithmetic instruction completes, whatever its operands: it may
write its target, FPSCR, with Rc CR field 1, and draw free values, and changes nothing else; FPSCR keeps its enables, NI and
RN, loses no exception bit, sets FX with a new one, and its summary bits stay right. -/
def Obligations.FloatArithmeticCompletes : Prop :=
  ∀ (i : Instr) (d : BitVec 5) (ops : List (BitVec 5)) (rc : Bool) (s : State),
    arithmeticShape i = some (d, ops, rc) → s.FloatQuiet →
    Completes (exec i s) fun t =>
      t.pc = s.pc + 4 ∧ FprsKept s t [d] ∧ MemoryKept s t ∧ BitsKept s.fpscr t.fpscr 24 8 ∧
      (∀ k, k ∈ [0, 3, 4, 5, 6, 7, 8, 9, 10, 11, 12, 21, 22, 23] → bit s.fpscr k = true → bit t.fpscr k = true) ∧
      FxFollows s t ∧ fpDerive t.fpscr = t.fpscr ∧ (∀ n, n ≠ 1 ∨ rc = false → crField t.cr n = crField s.cr n) ∧
      (rc = true → crField t.cr 1 = crField t.fpscr 0) ∧
      { t with fpr := s.fpr, fpscr := s.fpscr, cr := s.cr, pc := s.pc, draws := s.draws } = s

/-- With the enabled exceptions on, an arithmetic instruction, a compare or a write of FPSCR does to the registers what it
does with them off, and where FPSCR[FEX] is then 1 it takes the program exception with SRR0 at itself; `mtfsf` and `mtfsfi`
that set a FEX that was 0 take it with SRR0 at the next instruction, the others never (log 17, DEDUCED). -/
def Obligations.EnabledFloatExceptionsTrapAfterwards : Prop :=
  ∀ (i : Instr) (s : State) (crfD crfS : BitVec 3) (x y : BitVec 5) (imm : BitVec 4) (fm : BitVec 8) (rc after : Bool),
    ((arithmeticShape i).isSome = true ∧ after = false) ∨
      ((i, after) ∈
        [(Instr.fcmpu crfD x y, false), (.fcmpo crfD x y, false), (.mcrfs crfD crfS, false), (.mtfsb0x x rc, false),
          (.mtfsb1x x rc, false), (.mtfsfix crfD imm rc, true), (.mtfsfx fm x rc, true)]) →
    bit s.msr 18 = true →
    Completes (exec i { s with msr := s.msr &&& ~~~(bitMask 20 ||| bitMask 23) }) fun u =>
      exec i s = .next
        (if bit u.fpscr 1 && (bit s.msr 20 || bit s.msr 23) then
          takeException .program (if after && !bit s.fpscr 1 then s.pc + 4 else s.pc) (bitMask 11)
            { u with msr := s.msr, pc := s.pc }
        else { u with msr := s.msr })

/-- A NaN operand of an addition, subtraction, multiplication, division, multiply-add or estimate is passed on: the first
NaN in the order A, B, C, made quiet, never negated; VXSNAN is set where an operand is signaling, VXIMZ where a multiply-add
also multiplies an infinity by zero, and with VE = 1 either of these leaves the target and FPRF as they were (also where the
NaN is quiet and only VXIMZ is set: log 45, DESIGN CHOICE); no other exception bit changes, and FX follows. In single precision so where the operands are single-precision
values; `frsp` keeps the upper 35 bits of a NaN. -/
def Obligations.NaNOperandsPropagate : Prop :=
  ∀ (d a b c : BitVec 5) (rc : Bool) (s : State) (i : Instr) (ops : List (BitVec 5)) (single : Bool) (v : Dword),
    ((i, ops, single) ∈
      [(Instr.faddx d a b rc, [a, b], false), (.fsubx d a b rc, [a, b], false), (.fmulx d a c rc, [a, c], false),
        (.fdivx d a b rc, [a, b], false), (.fmaddx d a b c rc, [a, b, c], false), (.fmsubx d a b c rc, [a, b, c], false),
        (.fnmaddx d a b c rc, [a, b, c], false), (.fnmsubx d a b c rc, [a, b, c], false),
        (.frsqrtex d b rc, [b], false), (.frspx d b rc, [b], false),
        (.faddsx d a b rc, [a, b], true), (.fsubsx d a b rc, [a, b], true), (.fmulsx d a c rc, [a, c], true),
        (.fdivsx d a b rc, [a, b], true), (.fmaddsx d a b c rc, [a, b, c], true), (.fmsubsx d a b c rc, [a, b, c], true),
        (.fnmaddsx d a b c rc, [a, b, c], true), (.fnmsubsx d a b c rc, [a, b, c], true), (.fresx d b rc, [b], true)]) →
    s.FloatQuiet → bit s.fpscr 29 = false →
    (single = true → (ops.map s.f).all isSingle = true) → (ops.map s.f).find? fpIsNaN = some v →
    let signaling := (ops.map s.f).any fpIsSignaling
    let product := decide (ops = [a, b, c]) &&
      ((fpIsInf (s.f a) && fpIsZero (s.f c)) || (fpIsZero (s.f a) && fpIsInf (s.f c)))
    let withheld := bit s.fpscr 24 && (signaling || product)
    Completes (exec i s) fun t =>
      (withheld = false →
        t.f d = (if i = .frspx d b rc then v &&& 0xFFFFFFFFE0000000 else v) ||| 0x0008000000000000 ∧
        field t.fpscr 15 19 = 0b10001) ∧
      (withheld = true → t.f d = s.f d ∧ bit t.fpscr 1 = true ∧ BitsKept s.fpscr t.fpscr 15 5) ∧
      bit t.fpscr 13 = false ∧ bit t.fpscr 14 = false ∧ bit t.fpscr 7 = (bit s.fpscr 7 || signaling) ∧
      bit t.fpscr 11 = (bit s.fpscr 11 || product) ∧ BitsKept s.fpscr t.fpscr 3 4 ∧ BitsKept s.fpscr t.fpscr 8 3 ∧
      BitsKept s.fpscr t.fpscr 12 1 ∧ BitsKept s.fpscr t.fpscr 21 11 ∧ FxFollows s t

/-- The invalid operations and the division by zero of the additions, subtractions, multiplications, divisions, multiply-adds
and estimates, in single precision of single-precision values: infinity minus infinity, infinity times zero, 0/0,
infinity/infinity, x/0, the estimates of a zero, the square root of a negative number. Disabled, they deliver the default
NaN or the signed infinity; enabled, the target stays. -/
def Obligations.InvalidOperationsAndZeroDivide : Prop :=
  ∀ (d a b c : BitVec 5) (rc single subtract : Bool) (s : State) (i : Instr) (cause enable : Nat) (result : Dword),
    s.FloatQuiet → bit s.fpscr 29 = false → (single = true → isSingle (s.f a) = true ∧ isSingle (s.f b) = true) →
    ((i = (if single then .faddsx d a b rc else .faddx d a b rc) ∧ fpIsInf (s.f a) = true ∧ fpIsInf (s.f b) = true ∧
        fpSign (s.f a) ≠ fpSign (s.f b) ∧ cause = 8 ∧ enable = 24 ∧ result = 0x7FF8000000000000) ∨
      (i = (if single then .fsubsx d a b rc else .fsubx d a b rc) ∧ fpIsInf (s.f a) = true ∧ fpIsInf (s.f b) = true ∧
        fpSign (s.f a) = fpSign (s.f b) ∧ cause = 8 ∧ enable = 24 ∧ result = 0x7FF8000000000000) ∨
      (i = (if single then .fmulsx d a b rc else .fmulx d a b rc) ∧ ((fpIsInf (s.f a) = true ∧ fpIsZero (s.f b) = true) ∨
          (fpIsZero (s.f a) = true ∧ fpIsInf (s.f b) = true)) ∧
        cause = 11 ∧ enable = 24 ∧ result = 0x7FF8000000000000) ∨
      (i = (if single then .fdivsx d a b rc else .fdivx d a b rc) ∧ fpIsInf (s.f a) = true ∧ fpIsInf (s.f b) = true ∧
        cause = 9 ∧ enable = 24 ∧ result = 0x7FF8000000000000) ∨
      (i = (if single then .fdivsx d a b rc else .fdivx d a b rc) ∧ fpIsZero (s.f a) = true ∧ fpIsZero (s.f b) = true ∧
        cause = 10 ∧ enable = 24 ∧ result = 0x7FF8000000000000) ∨
      (i = (if single then .fdivsx d a b rc else .fdivx d a b rc) ∧ fpIsNaN (s.f a) = false ∧ fpIsInf (s.f a) = false ∧
        fpIsZero (s.f a) = false ∧ fpIsZero (s.f b) = true ∧ cause = 5 ∧ enable = 27 ∧
        result = if fpSign (s.f a) = fpSign (s.f b) then 0x7FF0000000000000 else 0xFFF0000000000000) ∨
      ((i = .fresx d b rc ∨ i = .frsqrtex d b rc) ∧ fpIsZero (s.f b) = true ∧ cause = 5 ∧ enable = 27 ∧
        result = if fpSign (s.f b) then 0xFFF0000000000000 else 0x7FF0000000000000) ∨
      (i = .frsqrtex d b rc ∧ fpIsNaN (s.f b) = false ∧ fpIsZero (s.f b) = false ∧ fpSign (s.f b) = true ∧
        cause = 22 ∧ enable = 24 ∧ result = 0x7FF8000000000000) ∨
      ((i, subtract) ∈
          (if single then
            [(Instr.fmaddsx d a b c rc, false), (.fnmaddsx d a b c rc, false), (.fmsubsx d a b c rc, true),
              (.fnmsubsx d a b c rc, true)]
          else
            [(Instr.fmaddx d a b c rc, false), (.fnmaddx d a b c rc, false), (.fmsubx d a b c rc, true),
              (.fnmsubx d a b c rc, true)]) ∧
        (single = true → isSingle (s.f c) = true) ∧ enable = 24 ∧ result = 0x7FF8000000000000 ∧
        ((fpIsNaN (s.f b) = false ∧ ((fpIsInf (s.f a) = true ∧ fpIsZero (s.f c) = true) ∨
            (fpIsZero (s.f a) = true ∧ fpIsInf (s.f c) = true)) ∧ cause = 11) ∨
          ((fpIsInf (s.f a) = true ∨ fpIsInf (s.f c) = true) ∧
            (∀ r ∈ [a, c], fpIsNaN (s.f r) = false ∧ fpIsZero (s.f r) = false) ∧ fpIsInf (s.f b) = true ∧
            (fpSign (s.f a) ^^ fpSign (s.f c) ^^ fpSign (s.f b)) ≠ subtract ∧ cause = 8)))) →
    Completes (exec i s) fun t =>
      bit t.fpscr cause = true ∧ bit t.fpscr 13 = false ∧ bit t.fpscr 14 = false ∧
      (bit s.fpscr cause = false → bit t.fpscr 0 = true) ∧ FxFollows s t ∧
      (∀ k, k ∈ [3, 4, 5, 6, 7, 8, 9, 10, 11, 12, 21, 22, 23] → k ≠ cause → bit t.fpscr k = bit s.fpscr k) ∧
      (bit s.fpscr enable = false → t.f d = result) ∧
      (bit s.fpscr enable = true → t.f d = s.f d ∧ bit t.fpscr 1 = true ∧ BitsKept s.fpscr t.fpscr 15 5)

/-- Results that need no rounding, which raise nothing: no exception bit changes and FR = FI = 0. (1) A sum, product, quotient
or multiply-add of finite doubles whose exact value is a double other than zero gives that double, in every rounding mode.
(2) A sum, difference or multiply-add, also in single precision of single-precision values: an infinite addend or product
that meets no infinity of the other sign gives itself; an exact zero is the zero of the addends' sign where they agree, else
+0, or -0 with RN = 11; the negated forms then change the sign. (3) A product of an infinity and a number other than zero is an
infinity, of a zero and a finite number a zero; a quotient of an infinity by a finite number is an infinity, of a finite number
by an infinity and of a zero by a number other than zero a zero, each with the exclusive or of the signs; `frsp` copies zeros
and infinities. -/
def Obligations.RepresentableResultsAreExact : Prop :=
  (∀ (d a b c : BitVec 5) (rc : Bool) (s : State) (i : Instr) (exact : Rat) (v : Dword),
    s.FloatQuiet → bit s.fpscr 26 = false → bit s.fpscr 29 = false →
    (∀ r ∈ [a, b, c], fpIsNaN (s.f r) = false ∧ fpIsInf (s.f r) = false) →
    (i, exact) ∈
      [(Instr.faddx d a b rc, realOf (s.f a) + realOf (s.f b)), (.fsubx d a b rc, realOf (s.f a) - realOf (s.f b)),
        (.fmulx d a c rc, realOf (s.f a) * realOf (s.f c)), (.fdivx d a b rc, realOf (s.f a) / realOf (s.f b)),
        (.fmaddx d a b c rc, realOf (s.f a) * realOf (s.f c) + realOf (s.f b)),
        (.fmsubx d a b c rc, realOf (s.f a) * realOf (s.f c) - realOf (s.f b)),
        (.fnmaddx d a b c rc, -(realOf (s.f a) * realOf (s.f c) + realOf (s.f b))),
        (.fnmsubx d a b c rc, -(realOf (s.f a) * realOf (s.f c) - realOf (s.f b)))] →
    fpIsNaN v = false → fpIsInf v = false → realOf v = exact → exact ≠ 0 →
    Completes (exec i s) fun t => DeliveredExactly s t d v) ∧
  (∀ (d a b c : BitVec 5) (rc single subtract negated : Bool) (s : State) (i : Instr) (ops : List (BitVec 5)) (x : Rat)
      (p infinite : Bool),
    s.FloatQuiet → bit s.fpscr 29 = false →
    (((i, single, subtract) ∈
          [(Instr.faddx d a b rc, false, false), (.fsubx d a b rc, false, true), (.faddsx d a b rc, true, false),
            (.fsubsx d a b rc, true, true)] ∧
        negated = false ∧ ops = [a, b] ∧ x = realOf (s.f a) ∧ p = fpSign (s.f a) ∧ infinite = fpIsInf (s.f a)) ∨
      ((i, single, subtract, negated) ∈
          [(Instr.fmaddx d a b c rc, false, false, false), (.fmsubx d a b c rc, false, true, false),
            (.fnmaddx d a b c rc, false, false, true), (.fnmsubx d a b c rc, false, true, true),
            (.fmaddsx d a b c rc, true, false, false), (.fmsubsx d a b c rc, true, true, false),
            (.fnmaddsx d a b c rc, true, false, true), (.fnmsubsx d a b c rc, true, true, true)] ∧
        ops = [a, b, c] ∧ x = realOf (s.f a) * realOf (s.f c) ∧ p = (fpSign (s.f a) != fpSign (s.f c)) ∧
        infinite = (fpIsInf (s.f a) || fpIsInf (s.f c)) ∧
        (infinite = true → fpIsZero (s.f a) = false ∧ fpIsZero (s.f c) = false))) →
    (∀ r ∈ ops, fpIsNaN (s.f r) = false ∧ (single = true → isSingle (s.f r) = true)) →
    let q := fpSign (s.f b) != subtract
    (infinite = true → fpIsInf (s.f b) = true → p = q) →
    (infinite = false → fpIsInf (s.f b) = false →
      (if subtract then x - realOf (s.f b) else x + realOf (s.f b)) = 0) →
    let v := if infinite then infinityOf p else if fpIsInf (s.f b) then infinityOf q
      else zeroOf (if p = q then p else decide (field s.fpscr 30 31 = 3))
    Completes (exec i s) fun t => DeliveredExactly s t d (if negated then v ^^^ 0x8000000000000000 else v)) ∧
  ∀ (d a b c : BitVec 5) (rc single : Bool) (s : State) (i : Instr) (ops : List (BitVec 5)) (v : Dword),
    s.FloatQuiet → bit s.fpscr 29 = false →
    ((i = (if single then .fmulsx d a c rc else .fmulx d a c rc) ∧ ops = [a, c] ∧
        (((fpIsInf (s.f a) || fpIsInf (s.f c)) = true ∧ fpIsZero (s.f a) = false ∧ fpIsZero (s.f c) = false ∧
            v = infinityOf (fpSign (s.f a) != fpSign (s.f c))) ∨
          ((fpIsZero (s.f a) || fpIsZero (s.f c)) = true ∧ fpIsInf (s.f a) = false ∧ fpIsInf (s.f c) = false ∧
            v = zeroOf (fpSign (s.f a) != fpSign (s.f c))))) ∨
      (i = (if single then .fdivsx d a b rc else .fdivx d a b rc) ∧ ops = [a, b] ∧
        ((fpIsInf (s.f a) = true ∧ fpIsInf (s.f b) = false ∧ v = infinityOf (fpSign (s.f a) != fpSign (s.f b))) ∨
          (fpIsInf (s.f a) = false ∧ fpIsInf (s.f b) = true ∧ v = zeroOf (fpSign (s.f a) != fpSign (s.f b))) ∨
          (fpIsZero (s.f a) = true ∧ fpIsZero (s.f b) = false ∧ v = zeroOf (fpSign (s.f a) != fpSign (s.f b))))) ∨
      (i = .frspx d b rc ∧ ops = [b] ∧ single = false ∧ (fpIsInf (s.f b) || fpIsZero (s.f b)) = true ∧ v = s.f b)) →
    (∀ r ∈ ops, fpIsNaN (s.f r) = false ∧ (single = true → isSingle (s.f r) = true)) →
    Completes (exec i s) fun t => DeliveredExactly s t d v

/-- Rounding an exact value to a multiple of `2^q`: the result is a neighbour of the exact value, the nearer one (the even
one of two equally near) in mode 0, the smaller magnitude in mode 1, the one above in mode 2, the one below in mode 3; FI
says whether it differs, FR whether the magnitude grew. -/
def Obligations.RoundingPicksTheRightNeighbour : Prop :=
  ∀ (x : Exact) (q : Int) (rn : BitVec 2), 0 < x.den →
    let y := x.shift q
    let r := x.roundTo q rn
    (r.significand * y.den < y.num + y.den ∧ y.num < (r.significand + 1) * y.den) ∧
    (r.inexact = true ↔ r.significand * y.den ≠ y.num) ∧ (r.incremented = true ↔ y.num < r.significand * y.den) ∧
    (rn = 0 → 2 * ((r.significand * y.den : Int) - y.num).natAbs ≤ y.den ∧
      (2 * ((r.significand * y.den : Int) - y.num).natAbs = y.den → r.significand % 2 = 0)) ∧
    (rn = 1 → r.significand * y.den ≤ y.num) ∧
    (rn = 2 → if x.neg then r.significand * y.den ≤ y.num else y.num ≤ r.significand * y.den) ∧
    (rn = 3 → if x.neg then y.num ≤ r.significand * y.den else r.significand * y.den ≤ y.num)

/-- The arithmetic instructions round the exact value of their operands once, to double or to single precision: overflow,
underflow and inexact results. The rounding is of the exact value before the negated forms change its sign. A result below
the normalized range is rounded to a multiple of the smallest denormal, or with UE = 1 delivered normalized with its exponent
raised; one above the range is with OE = 1 delivered with its exponent lowered, with OE = 0 an infinity or the largest
number. OX, UX, XX, FI, FR and FPRF say what happened (FR is free after a disabled overflow), and FX follows. That the
exponent is raised with UE = 1 also where `fadd` of a denormalized number and -0 is to return it unchanged by the law R287 (e)
is the model's choice (log 49, DESIGN CHOICE). -/
def Obligations.ArithmeticRoundsOnce : Prop :=
  ∀ (d a b c : BitVec 5) (rc : Bool) (s : State) (i : Instr) (fmt : Format) (x : Rat) (neg : Bool) (e : Int),
    s.FloatQuiet → bit s.fpscr 29 = false →
    (i, fmt, x, neg) ∈
      [(Instr.faddx d a b rc, doubleFormat, realOf (s.f a) + realOf (s.f b), false),
        (.fsubx d a b rc, doubleFormat, realOf (s.f a) - realOf (s.f b), false),
        (.fmulx d a c rc, doubleFormat, realOf (s.f a) * realOf (s.f c), false),
        (.fdivx d a b rc, doubleFormat, realOf (s.f a) / realOf (s.f b), false),
        (.fmaddx d a b c rc, doubleFormat, realOf (s.f a) * realOf (s.f c) + realOf (s.f b), false),
        (.fmsubx d a b c rc, doubleFormat, realOf (s.f a) * realOf (s.f c) - realOf (s.f b), false),
        (.fnmaddx d a b c rc, doubleFormat, realOf (s.f a) * realOf (s.f c) + realOf (s.f b), true),
        (.fnmsubx d a b c rc, doubleFormat, realOf (s.f a) * realOf (s.f c) - realOf (s.f b), true),
        (.faddsx d a b rc, singleFormat, realOf (s.f a) + realOf (s.f b), false),
        (.fsubsx d a b rc, singleFormat, realOf (s.f a) - realOf (s.f b), false),
        (.fmulsx d a c rc, singleFormat, realOf (s.f a) * realOf (s.f c), false),
        (.fdivsx d a b rc, singleFormat, realOf (s.f a) / realOf (s.f b), false),
        (.fmaddsx d a b c rc, singleFormat, realOf (s.f a) * realOf (s.f c) + realOf (s.f b), false),
        (.fmsubsx d a b c rc, singleFormat, realOf (s.f a) * realOf (s.f c) - realOf (s.f b), false),
        (.fnmaddsx d a b c rc, singleFormat, realOf (s.f a) * realOf (s.f c) + realOf (s.f b), true),
        (.fnmsubsx d a b c rc, singleFormat, realOf (s.f a) * realOf (s.f c) - realOf (s.f b), true),
        (.frspx d b rc, singleFormat, realOf (s.f b), false)] →
    (∀ r ∈ [a, b, c], fpIsNaN (s.f r) = false ∧ fpIsInf (s.f r) = false ∧
      (fmt = singleFormat → i ≠ .frspx d b rc → isSingle (s.f r) = true)) →
    x ≠ 0 → powerOfTwo e ≤ magnitude x → magnitude x < powerOfTwo (e + 1) →
    let tiny := decide (e < fmt.emin)
    let negative := decide (x < 0) != neg
    let rn := field s.fpscr 30 31
    let unit := if tiny && !bit s.fpscr 26 then fmt.emin - fmt.precision + 1 else e - fmt.precision + 1
    Completes (exec i s) fun t => ∃ y : Rat, RoundsTo (powerOfTwo unit) rn x y ∧
      let overflow := decide (powerOfTwo (fmt.emax + 1) ≤ magnitude y)
      (realOf (t.f d) =
        (if neg then -1 else 1) * y *
          (if tiny && bit s.fpscr 26 then powerOfTwo fmt.adjust
            else if overflow && bit s.fpscr 25 then powerOfTwo (-fmt.adjust) else 1) ∨
        (overflow && !bit s.fpscr 25) = true) ∧
      ((overflow && !bit s.fpscr 25) = true →
        t.f d = if rn = 0 ∨ (rn = 2 ∧ 0 < x) ∨ (rn = 3 ∧ x < 0) then infinityOf negative else largestOf fmt negative) ∧
      fpSign (t.f d) = negative ∧
      field t.fpscr 15 19 =
        (if (tiny && bit s.fpscr 26) || (overflow && bit s.fpscr 25) then classBits negative .normalized
          else fprfOf fmt (t.f d)) ∧
      bit t.fpscr 3 = (bit s.fpscr 3 || overflow) ∧
      bit t.fpscr 4 = (bit s.fpscr 4 || (tiny && (bit s.fpscr 26 || decide (y ≠ x)))) ∧
      bit t.fpscr 6 = (bit s.fpscr 6 || decide (y ≠ x) || (overflow && !bit s.fpscr 25)) ∧
      bit t.fpscr 14 = (decide (y ≠ x) || (overflow && !bit s.fpscr 25)) ∧
      ((overflow && !bit s.fpscr 25) = false → bit t.fpscr 13 = decide (magnitude x < magnitude y)) ∧
      BitsKept s.fpscr t.fpscr 5 1 ∧ BitsKept s.fpscr t.fpscr 7 6 ∧ BitsKept s.fpscr t.fpscr 21 11 ∧ FxFollows s t

/-- The estimates: of a single-precision number whose reciprocal the largest single-precision number reaches within 1/256,
`fres` delivers a finite single-precision value with the number's sign whose product with it is within 1/256 of 1, `frsqrte`
of a positive number a double within 1/32 of the reciprocal of its square root; of an infinity they deliver a zero (the
values are the platform's: log 14). -/
def Obligations.EstimatesKeepTheirBounds : Prop :=
  ∀ (d b : BitVec 5) (rc : Bool) (s : State), s.FloatQuiet → bit s.fpscr 29 = false → fpIsNaN (s.f b) = false →
    (fpIsInf (s.f b) = false → isSingle (s.f b) = true →
      255 ≤ 256 * ((2 ^ 24 - 1) * powerOfTwo 104 * magnitude (realOf (s.f b))) →
      (bit s.fpscr 26 = false ∨ magnitude (realOf (s.f b)) ≤ powerOfTwo 125) →
      Completes (exec (.fresx d b rc) s) fun t =>
        isSingle (t.f d) = true ∧ fpIsInf (t.f d) = false ∧ fpSign (t.f d) = fpSign (s.f b) ∧
        255 ≤ 256 * (realOf (t.f d) * realOf (s.f b)) ∧
        256 * (realOf (t.f d) * realOf (s.f b)) ≤ 257 ∧ field t.fpscr 15 19 = fprfOf singleFormat (t.f d)) ∧
    (fpIsInf (s.f b) = false → 0 < realOf (s.f b) →
      Completes (exec (.frsqrtex d b rc) s) fun t =>
        fpIsNaN (t.f d) = false ∧ fpIsInf (t.f d) = false ∧ 0 < realOf (t.f d) ∧
        961 ≤ 1024 * (realOf (t.f d) * realOf (t.f d) * realOf (s.f b)) ∧
        1024 * (realOf (t.f d) * realOf (t.f d) * realOf (s.f b)) ≤ 1089 ∧
        field t.fpscr 15 19 = fprfOf doubleFormat (t.f d) ∧ BitsKept s.fpscr t.fpscr 3 10 ∧
        BitsKept s.fpscr t.fpscr 21 11) ∧
    (fpIsInf (s.f b) = true →
      (Completes (exec (.fresx d b rc) s) fun t => t.f d = zeroOf (fpSign (s.f b))) ∧
      (fpSign (s.f b) = false → Completes (exec (.frsqrtex d b rc) s) fun t => t.f d = 0))

/-- The floating-point moves and `fsel`: a bit pattern goes to the target, FPSCR stays, CR field 1 takes FPSCR's exception
summary with Rc. -/
def Obligations.FloatMoveResults : Prop :=
  ∀ (d a b c : BitVec 5) (rc : Bool) (s : State) (i : Instr) (v : Dword), bit s.msr 18 = true →
    (i, v) ∈
      [(Instr.fmrx d b rc, s.f b), (.fnegx d b rc, s.f b ^^^ 0x8000000000000000),
        (.fabsx d b rc, s.f b &&& 0x7FFFFFFFFFFFFFFF), (.fnabsx d b rc, s.f b ||| 0x8000000000000000),
        (.fselx d a b c rc,
          if fpIsNaN (s.f a) = false ∧ (fpSign (s.f a) = false ∨ fpIsZero (s.f a) = true) then s.f c else s.f b)] →
    Completes (exec i s) fun t =>
      t.f d = v ∧ FprsKept s t [d] ∧ t.pc = s.pc + 4 ∧ MemoryKept s t ∧
      (rc = true → crField t.cr 1 = crField s.fpscr 0 ∧ ∀ n, n ≠ 1 → crField t.cr n = crField s.cr n) ∧
      (rc = false → t.cr = s.cr) ∧ { t with fpr := s.fpr, cr := s.cr, pc := s.pc } = s

/-- The floating-point compares put less, greater, equal or unordered into a CR field and FPCC; a signaling NaN sets
VXSNAN, and `fcmpo` sets VXVC for a NaN unless that is signaling and VE = 1; FX follows. That a compare does not depend on
FPSCR[NI] is the model's choice (log 15, DESIGN CHOICE). -/
def Obligations.FloatCompareResults : Prop :=
  ∀ (crfD : BitVec 3) (a b : BitVec 5) (s : State) (i : Instr), s.FloatQuiet →
    (i = .fcmpu crfD a b ∨ i = .fcmpo crfD a b) →
    let x : Int := if fpSign (s.f a) then -((s.f a).toNat % 2 ^ 63 : Nat) else (s.f a).toNat
    let y : Int := if fpSign (s.f b) then -((s.f b).toNat % 2 ^ 63 : Nat) else (s.f b).toNat
    let nan := fpIsNaN (s.f a) || fpIsNaN (s.f b)
    let signaling := fpIsSignaling (s.f a) || fpIsSignaling (s.f b)
    Completes (exec i s) fun t =>
      crField t.cr crfD = (if nan then 0b0001 else if x < y then 0b1000 else if y < x then 0b0100 else 0b0010) ∧
      (∀ n, n ≠ crfD → crField t.cr n = crField s.cr n) ∧ field t.fpscr 16 19 = crField t.cr crfD ∧
      bit t.fpscr 7 = (bit s.fpscr 7 || signaling) ∧
      bit t.fpscr 12 = (bit s.fpscr 12 || (decide (i = .fcmpo crfD a b) && nan && !(signaling && bit s.fpscr 24))) ∧
      BitsKept s.fpscr t.fpscr 3 4 ∧ BitsKept s.fpscr t.fpscr 8 4 ∧ BitsKept s.fpscr t.fpscr 13 3 ∧
      BitsKept s.fpscr t.fpscr 21 11 ∧ FxFollows s t ∧ fpDerive t.fpscr = t.fpscr ∧ t.pc = s.pc + 4 ∧ MemoryKept s t ∧
      { t with cr := s.cr, fpscr := s.fpscr, pc := s.pc } = s

/-- The conversions to an integer word: a number rounded into range gives that word, a number out of range or an infinity
the nearest end, a NaN the most negative word; out of range VXCVI is set and, enabled, the target stays. `fctiwz` rounds
toward zero. In range FI says whether the word differs from the number, FR whether its magnitude is greater, and an inexact
conversion sets XX; otherwise FR = FI = 0. A signaling NaN sets VXSNAN. No other exception bit changes, and FX follows. That a
conversion does not depend on FPSCR[NI] is the model's choice (log 15, DESIGN CHOICE). -/
def Obligations.FloatConvertResults : Prop :=
  ∀ (d b : BitVec 5) (rc : Bool) (s : State) (i : Instr) (rn : BitVec 2), s.FloatQuiet →
    ((i = .fctiwx d b rc ∧ rn = field s.fpscr 30 31) ∨ (i = .fctiwzx d b rc ∧ rn = 1)) →
    let size : Int := ((exactOf (s.f b)).roundTo 0 rn).significand
    let n : Int := if fpSign (s.f b) then -size else size
    Completes (exec i s) fun t =>
      (fpIsNaN (s.f b) = false → fpIsInf (s.f b) = false → -(2 ^ 31) ≤ n → n < 2 ^ 31 →
        (t.f d).setWidth 32 = BitVec.ofInt 32 n ∧ bit t.fpscr 23 = bit s.fpscr 23 ∧
        bit t.fpscr 14 = decide (realOf (s.f b) ≠ n) ∧ bit t.fpscr 13 = decide (magnitude (realOf (s.f b)) < size) ∧
        bit t.fpscr 6 = (bit s.fpscr 6 || decide (realOf (s.f b) ≠ n))) ∧
      (fpIsNaN (s.f b) = true ∨ fpIsInf (s.f b) = true ∨ n < -(2 ^ 31) ∨ 2 ^ 31 ≤ n →
        bit t.fpscr 23 = true ∧ bit t.fpscr 13 = false ∧ bit t.fpscr 14 = false ∧ bit t.fpscr 6 = bit s.fpscr 6 ∧
        (bit s.fpscr 24 = true → t.f d = s.f d) ∧
        (bit s.fpscr 24 = false →
          (t.f d).setWidth 32 =
            if fpIsNaN (s.f b) = true ∨ fpSign (s.f b) = true then (0x80000000 : Word) else 0x7FFFFFFF)) ∧
      bit t.fpscr 7 = (bit s.fpscr 7 || fpIsSignaling (s.f b)) ∧ BitsKept s.fpscr t.fpscr 3 3 ∧
      BitsKept s.fpscr t.fpscr 8 5 ∧ BitsKept s.fpscr t.fpscr 21 2 ∧ BitsKept s.fpscr t.fpscr 24 8 ∧ FxFollows s t

/-- The FPSCR instructions, bit by bit: what each writes of FPSCR's own bits, the summary bits following, and the targets of
`mffs` and `mcrfs`. -/
def Obligations.FpscrInstructionResults : Prop :=
  ∀ (d x : BitVec 5) (crfD crfS : BitVec 3) (imm : BitVec 4) (fm : BitVec 8) (rc : Bool) (s : State), s.FloatQuiet →
    Completes (exec (.mffsx d rc) s) (fun t =>
      (t.f d).setWidth 32 = s.fpscr ∧ FprsKept s t [d] ∧
      (rc = true → crField t.cr 1 = crField s.fpscr 0 ∧ ∀ n, n ≠ 1 → crField t.cr n = crField s.cr n) ∧
      (rc = false → t.cr = s.cr) ∧
      { t with fpr := s.fpr, cr := s.cr, pc := s.pc, draws := s.draws } = s ∧ t.pc = s.pc + 4) ∧
    Completes (exec (.mcrfs crfD crfS) s) (fun t =>
      crField t.cr crfD = crField s.fpscr crfS ∧ (∀ n, n ≠ crfD → crField t.cr n = crField s.cr n) ∧
      (∀ k, k < 32 → k ∉ [1, 2, 20] → bit t.fpscr k =
        (bit s.fpscr k && !decide (k / 4 = crfS.toNat ∧ k ∈ [0, 3, 4, 5, 6, 7, 8, 9, 10, 11, 12, 21, 22, 23]))) ∧
      fpDerive t.fpscr = t.fpscr ∧ { t with cr := s.cr, fpscr := s.fpscr, pc := s.pc } = s ∧ t.pc = s.pc + 4) ∧
    ∀ (i : Instr) (new : Nat → Bool),
      ((i = .mtfsfix crfD imm rc ∧ ∀ k, new k = if k / 4 = crfD.toNat then bit imm (k % 4) else bit s.fpscr k) ∨
        (i = .mtfsfx fm x rc ∧ ∀ k, new k = if bit fm (k / 4) then bit (s.f x) (32 + k) else bit s.fpscr k) ∨
        (i = .mtfsb0x x rc ∧ ∀ k, new k = (bit s.fpscr k && decide (k ≠ x.toNat))) ∨
        (i = .mtfsb1x x rc ∧ ∀ k, new k = (bit s.fpscr k || decide (k = x.toNat) ||
          decide (k = 0 ∧ x.toNat ∈ [3, 4, 5, 6, 7, 8, 9, 10, 11, 12, 21, 22, 23] ∧ bit s.fpscr x.toNat = false)))) →
      Completes (exec i s) fun t =>
        (∀ k, k < 32 → k ∉ [1, 2, 20] → bit t.fpscr k = new k) ∧ fpDerive t.fpscr = t.fpscr ∧
        (rc = true → crField t.cr 1 = crField t.fpscr 0 ∧ ∀ n, n ≠ 1 → crField t.cr n = crField s.cr n) ∧
        (rc = false → t.cr = s.cr) ∧ { t with cr := s.cr, fpscr := s.fpscr, pc := s.pc } = s ∧ t.pc = s.pc + 4

/-! ## Other agents -/

/-- A tick with TBEN asserted counts the time base up and the decrementer down, and sets the decrementer latch where bit 0 of
DEC goes from 0 to 1; a bit of the time base that goes from 0 to 1 has risen for the performance monitor (log 7); without TBEN,
or in checkstop, it changes nothing; HRESET does not stop it. -/
def Obligations.TimerTickCounts : Prop :=
  ∀ (s : State) (rest : List EnvStep), s.schedule = .timerTick :: rest →
    Completes (step s) fun t =>
      if s.tbenPin ∧ s.checkstop = false then
        t.tb = s.tb + 1 ∧ t.dec = s.dec - 1 ∧
        t.decPending = (s.decPending || (bit (s.dec - 1) 0 && !bit s.dec 0)) ∧
        (∀ k, k < 64 → bit t.tbRose k = (bit s.tbRose k || (bit (s.tb + 1) k && !bit s.tb k))) ∧ MemoryKept s t ∧
        { t with tb := s.tb, dec := s.dec, decPending := s.decPending, tbRose := s.tbRose, schedule := s.schedule
                 taken := s.taken } = s
      else { t with schedule := s.schedule, taken := s.taken } = s

/-- The checkstop state and the pins. In it, or while HRESET is asserted, no instruction runs: an empty schedule has no step,
and a scheduled turn of the processor changes nothing. In the checkstop state a tick, a cycle of the monitor, a reservation
loss, SRESET, CKSTP_IN or a machine-check cause changes nothing either (for the reservation and the pins log 42, DESIGN CHOICE).
Outside it, HRESET asserted or not, CKSTP_IN enters the checkstop state, SRESET becomes pending, a spurious loss clears the
reservation, and a machine-check cause becomes pending with MSR[ME] = 1 and enters the checkstop state with MSR[ME] = 0, but MCP
has no effect with HID0[EMCP] = 0. INT, SMI and TBEN are levels. -/
def Obligations.CheckstopAndPinEvents : Prop :=
  (∀ s : State, s.schedule = [] →
    (s.checkstop = true → step s = .fault .checkstop) ∧
    (s.checkstop = false → s.hresetPin = true → step s = .fault .heldInReset)) ∧
  ∀ (s : State) (e : EnvStep) (rest : List EnvStep), s.schedule = e :: rest →
    let t : State := { s with schedule := rest, taken := none }
    (s.checkstop = true ∨ s.hresetPin = true → e = .processor → step s = .next t) ∧
    (s.checkstop = true →
      (e ∈ [EnvStep.timerTick, .reservationLost, .sreset, .checkstopIn] → step s = .next t) ∧
      (∀ o, e = .monitorCycle o → step s = .next t) ∧ ∀ source, e = .machineCheck source → step s = .next t) ∧
    (s.checkstop = false →
      (e = .checkstopIn → step s = .next { t with checkstop := true }) ∧
      (e = .sreset → step s = .next { t with sresetPending := true }) ∧
      (e = .reservationLost → step s = .next { t with reserve := false }) ∧
      ∀ source, e = .machineCheck source →
        step s = .next
          (if source = .mcpPin ∧ bit s.hid0 0 = false then t
          else if bit s.msr 19 then { t with machineChecks := s.machineChecks ++ [source] }
          else { t with checkstop := true })) ∧
    (∀ level, e = .intPin level → step s = .next { t with intPin := level }) ∧
    (∀ level, e = .smiPin level → step s = .next { t with smiPin := level }) ∧
    (∀ level, e = .tbenPin level → step s = .next { t with tbenPin := level }) ∧
    (e = .hresetPin true → step s = .next { t with hresetPin := true })

/-- The performance monitor counts only where MMCR0 lets it in the mode MSR says, and signals when an enabled condition
holds after counting: ENINT is cleared and the interrupt pends; SIA and SDA stay while ENINT is 0 after a signal. A miss that arrives
is timed from THRESHOLD on; a threshold event counts where the time of the miss has run out. At a signal SIA and SDA are the
load or store whose miss made PMC1 negative, where a threshold event did; else SIA is the last instruction completed, unless
`mtspr` made the counter negative. With DISCOUNT a signal freezes PMC1, and PMC2 where neither PMC2COUNTCTL nor
PMC2INTCONTROL is set (the spec's U11); with PMC2COUNTCTL, PMC2 waits for PMC1 to be negative or a signal. A counter counts
within the range of its event. The time-base bit that RTCSELECT chooses by Table 9-4 (log 20) counts as having gone from 0 to 1
in the cycle where it has risen since the cycle before (log 7). Outside checkstop the step of a scheduled cycle is that
cycle. -/
def Obligations.MonitorCountsAndSignals : Prop :=
  (∀ (s : State) (o : MonitorCycle) (rest : List EnvStep), s.schedule = .monitorCycle o :: rest → s.checkstop = false →
    step s = .next (State.monitorCycle { s with taken := none, schedule := rest } o)) ∧
  ∀ (s : State) (o : MonitorCycle),
    let blocked := bit s.mmcr0 0 || (bit s.mmcr0 1 && !bit s.msr 17) || (bit s.mmcr0 2 && bit s.msr 17) ||
      (bit s.mmcr0 3 && bit s.msr 29) || (bit s.mmcr0 4 && !bit s.msr 29)
    let t := s.monitorCycle o
    let rose := bit s.tbRose
      (if field s.mmcr0 7 8 = 0 then 63 else if field s.mmcr0 7 8 = 1 then 55 else if field s.mmcr0 7 8 = 2 then 51 else 47)
    let signals := bit s.mmcr0 5 && ((bit s.mmcr0 16 && bit t.pmc1 0) || (bit s.mmcr0 17 && bit t.pmc2 0) ||
      (bit s.mmcr0 9 && rose))
    let frozen2 := bit s.mmcr0 6 && s.pmSignaled && !bit s.mmcr0 18 && !bit s.mmcr0 17
    let triggered2 := !bit s.mmcr0 18 || bit s.pmc1 0 || s.pmSignaled
    let select1 := (field s.mmcr0 19 25).toNat
    let select2 := (field s.mmcr0 26 31).toNat
    (blocked = true → t.pmc1 = s.pmc1 ∧ t.pmc2 = s.pmc2) ∧
    (bit s.mmcr0 6 = true → s.pmSignaled = true → t.pmc1 = s.pmc1) ∧
    ((frozen2 = true ∨ triggered2 = false) → t.pmc2 = s.pmc2) ∧
    (blocked = false → frozen2 = false → triggered2 = true →
      (select2 = 0 → t.pmc2 = s.pmc2) ∧ (select2 = 1 → t.pmc2 = s.pmc2 + 1) ∧
      (select2 = 3 → t.pmc2 = s.pmc2 + (if rose then 1 else 0)) ∧
      ∃ n, n ≤ (if select2 ∈ [2, 4, 18] ∨ 21 ≤ select2 then 4 else if select2 = 8 then 2 else 1) ∧
        t.pmc2 = s.pmc2 + BitVec.ofNat 32 n) ∧
    (blocked = false → (s.pmSignaled = false ∨ bit s.mmcr0 6 = false) →
      (select1 = 0 → t.pmc1 = s.pmc1) ∧ (select1 = 1 → t.pmc1 = s.pmc1 + 1) ∧
      (select1 = 3 → t.pmc1 = s.pmc1 + (if rose then 1 else 0)) ∧
      (∃ n, n ≤ (if select1 ∈ [2, 4, 14, 15] ∨ 25 ≤ select1 then 4 else 1) ∧ t.pmc1 = s.pmc1 + BitVec.ofNat 32 n) ∧
      (select1 ∈ [9, 10, 23, 24] →
        t.pmc1 = s.pmc1 + (if s.marked ≠ none ∧ s.thresholdShadow = 0 then 1 else 0) ∧
        ∀ m, s.marked = some m → bit s.pmc1 0 = false → bit t.pmc1 0 = true → t.pmc1Cause = .threshold m)) ∧
    (∀ k m, o.missArrives = some k → s.accesses[k]? = some m →
      t.marked = some m ∧ t.thresholdShadow = field s.mmcr0 10 15) ∧
    (o.missArrives = none →
      t.thresholdShadow = (if s.thresholdShadow = 0 then 0 else s.thresholdShadow - 1) ∧
      t.marked = (if s.thresholdShadow = 0 ∨ o.missEnds = true then none else s.marked)) ∧
    (signals = true → (bit s.mmcr0 17 && bit t.pmc2 0 && t.pmc2Cause == .written) = false →
      (bit s.mmcr0 16 && bit t.pmc1 0 && t.pmc1Cause == .written) = false →
      (∀ m, (bit s.mmcr0 16 && bit t.pmc1 0) = true → t.pmc1Cause = .threshold m → t.sia = m.insn ∧ t.sda = m.operand) ∧
      ((bit s.mmcr0 16 && bit t.pmc1 0) = false ∨ t.pmc1Cause = .counted → ∀ a, s.lastCompleted = some a → t.sia = a)) ∧
    (signals = true → t.pmiPending = true ∧ t.pmSignaled = true ∧ t.everSignaled = true ∧ bit t.mmcr0 5 = false ∧
      ∀ k, k < 32 → k ≠ 5 → bit t.mmcr0 k = bit s.mmcr0 k) ∧
    (signals = false → t.pmiPending = s.pmiPending ∧ t.pmSignaled = s.pmSignaled ∧ t.everSignaled = s.everSignaled ∧
      t.mmcr0 = s.mmcr0) ∧
    (s.everSignaled = true → bit s.mmcr0 5 = false → t.sia = s.sia ∧ t.sda = s.sda) ∧ t.tbRose = 0 ∧
    { t with
      pmc1 := s.pmc1, pmc2 := s.pmc2, mmcr0 := s.mmcr0, pmiPending := s.pmiPending, pmSignaled := s.pmSignaled
      everSignaled := s.everSignaled, sia := s.sia, sda := s.sda, thresholdShadow := s.thresholdShadow, tbRose := s.tbRose, marked := s.marked
      pmc1Cause := s.pmc1Cause, pmc2Cause := s.pmc2Cause } = s

/-- Another bus master's store changes the bytes it stores and no other, whatever MEM_MAP says of them (log 42, DESIGN
CHOICE), and takes the reservation away exactly where one of them lies in the reserved granule; another master's kill of a
block takes it away exactly where the block is that granule, and changes nothing else. -/
def Obligations.OtherStoresTakeTheReservation : Prop :=
  (∀ (s : State) (a : Word) (data : List Byte) (rest : List EnvStep), s.checkstop = false →
    Memory.wf s.mem = true → s.schedule = .otherStore a data :: rest → data.length < 2 ^ 32 →
    Completes (step s) fun t =>
      t.bytesAt a data.length = data ∧ MemoryKeptOutside s t a data.length ∧
      (t.reserve = true ↔ s.reserve = true ∧ ∀ b ∈ span a data.length, b.extractLsb' 5 27 ≠ s.reserveAddr) ∧
      { t with mem := s.mem, stale := s.stale, reserve := s.reserve, schedule := s.schedule, taken := s.taken } = s) ∧
  ∀ (s : State) (a : Word) (rest : List EnvStep), s.checkstop = false →
    s.schedule = .otherKill a :: rest →
    Completes (step s) fun t =>
      (t.reserve = true ↔ s.reserve = true ∧ a.extractLsb' 5 27 ≠ s.reserveAddr) ∧
      { t with reserve := s.reserve, schedule := s.schedule, taken := s.taken } = s

end Statements
end

