-- ==== Sys2Proof/Laws/Bits.lean ====
section
/-! SUPPORT. Bits and fields of words: reading back what a bit or field write wrote, and what it left alone. -/

namespace Sys2Proof.Machine

theorem bit_eq_getLsbD (w : Word) {i : Nat} (h : i < 32) : bit w i = w.getLsbD (31 - i) := by
  simp [bit, BitVec.getMsbD, h]

theorem bit_and (v w : Word) (i : Nat) : bit (v &&& w) i = (bit v i && bit w i) := by
  simp [bit]

theorem bit_or (v w : Word) (i : Nat) : bit (v ||| w) i = (bit v i || bit w i) := by
  simp [bit]

theorem bit_not (w : Word) {i : Nat} (h : i < 32) : bit (~~~w) i = !bit w i := by
  simp [bit, h]

theorem bit_bitMask {i j : Nat} (hi : i < 32) (hj : j < 32) : bit (bitMask i) j = decide (j = i) := by
  rw [bit_eq_getLsbD _ hj, bitMask, BitVec.getLsbD_shiftLeft, Bool.eq_iff_iff]
  simp only [BitVec.ofNat_eq_ofNat, BitVec.getLsbD_one, Bool.and_eq_true, Bool.not_eq_true', decide_eq_true_eq,
    decide_eq_false_iff_not]
  omega

theorem bit_writeBit (w : Word) {i j : Nat} (hi : i < 32) (hj : j < 32) (b : Bool) :
    bit (writeBit w i b) j = if j = i then b else bit w j := by
  cases b <;> simp only [writeBit, if_true, Bool.false_eq_true, if_false, bit_or, bit_and, bit_not _ hj, bit_bitMask hi hj] <;>
    by_cases h : j = i <;> simp [h]

theorem bit_merge (m old new : Word) {i : Nat} (h : i < 32) :
    bit (merge m old new) i = if bit m i then bit new i else bit old i := by
  simp only [merge, bit_or, bit_and, bit_not _ h]
  cases bit m i <;> simp

/-- Words are equal when their bits are, counted from the left. -/
theorem eq_of_bit {v w : Word} (h : ∀ i, i < 32 → bit v i = bit w i) : v = w := by
  apply BitVec.eq_of_getLsbD_eq
  intro k hk
  have := h (31 - k) (by omega)
  rwa [bit_eq_getLsbD _ (by omega), bit_eq_getLsbD _ (by omega), show 31 - (31 - k) = k by omega] at this

theorem crField_writeField (cr : Word) (n m : BitVec 3) (v : BitVec 4) :
    crField (writeField cr (4 * n.toNat + 3) v) m = if m = n then v else crField cr m := by
  have hn := n.isLt
  have hm := m.isLt
  apply BitVec.eq_of_getLsbD_eq
  intro k hk
  have key : (m = n) ↔ (m.toNat = n.toNat) := by rw [BitVec.toNat_inj]
  have e31 : 31 - (4 * n.toNat + 3) = 28 - 4 * n.toNat := by omega
  have e28 : 28 - 4 * m.toNat + k < 32 := by omega
  simp only [crField, writeField, fieldMask, BitVec.getLsbD_setWidth, BitVec.getLsbD_ushiftRight, BitVec.getLsbD_or,
    BitVec.getLsbD_and, BitVec.getLsbD_not, BitVec.getLsbD_shiftLeft, BitVec.getLsbD_allOnes, hk, e31, e28,
    decide_true, Bool.true_and]
  by_cases h : m = n
  · subst h
    simp [show 28 - 4 * m.toNat + k - (28 - 4 * m.toNat) = k by omega, hk, show k < 32 by omega]
  · have hne : m.toNat ≠ n.toNat := fun e => h (key.mpr e)
    by_cases l : 28 - 4 * m.toNat + k < 28 - 4 * n.toNat
    · simp only [l, h, if_false, decide_true, Bool.not_true, Bool.false_and, Bool.not_false, Bool.and_true, Bool.or_false]
      simp [hk]
    · have g : ¬ 28 - 4 * m.toNat + k - (28 - 4 * n.toNat) < 4 := by omega
      have z : v.getLsbD (28 - 4 * m.toNat + k - (28 - 4 * n.toNat)) = false := BitVec.getLsbD_of_ge _ _ (by omega)
      simp only [l, g, z, h, if_false, decide_false, Bool.and_false, Bool.not_false, Bool.and_true, Bool.or_false]
      simp [hk]

@[simp] theorem State.setCrField_crField (s : State) (n m : BitVec 3) (v : BitVec 4) :
    crField (s.setCrField n v).cr m = if m = n then v else crField s.cr m := crField_writeField s.cr n m v

/-- A bit of a CR field is the bit of CR at its place (10_state.md R24). -/
theorem bit_crField (cr : Word) (n : BitVec 3) {k : Nat} (hk : k < 4) :
    bit (crField cr n) k = bit cr (4 * n.toNat + k) := by
  have hn := n.isLt
  have e : 28 - 4 * n.toNat + (3 - k) = 31 - (4 * n.toNat + k) := by omega
  have l : 3 - k < 4 := by omega
  rw [bit_eq_getLsbD _ (by omega)]
  simp only [bit, crField, BitVec.getMsbD, BitVec.getLsbD_setWidth, BitVec.getLsbD_ushiftRight, hk, decide_true,
    Bool.true_and, show 4 - 1 - k = 3 - k by omega, l, e]

end Sys2Proof.Machine
end

