-- ==== Sys2Proof/Laws/Instr.lean ====
section
/-! SUPPORT. What the dispatch calls, and what the encoder writes, for each instruction: one equation per constructor, so that no later proof unfolds the whole match. -/

namespace Sys2Proof

/-! ### The fields of a word: `assemble` is opened by these two, never by unfolding (the kernel would count up a numeral) -/

theorem assemble_cons (op a : Nat) (l : List Nat) : assemble op (a :: l) = a + assemble op l := by
  simp only [assemble, List.sum_cons]
  omega

theorem assemble_nil (op : Nat) : assemble op [] = op * 67108864 := by
  simp only [assemble, List.sum_nil]
  omega

theorem put_le {n : Nat} (v : BitVec n) (last : Nat) : put v last ≤ (2 ^ n - 1) * 2 ^ (31 - last) := by
  have := v.isLt
  exact Nat.mul_le_mul_right _ (by omega)

theorem putFlag_le (v : Bool) (n : Nat) : putFlag v n ≤ 2 ^ (31 - n) := by
  cases v <;> simp [putFlag]

theorem putSplit_le (v : BitVec 10) : putSplit v ≤ 31 * 2 ^ 16 + 31 * 2 ^ 11 := by
  have := v.isLt
  simp only [putSplit]
  omega

theorem encodeNat_addi (d a : BitVec 5) (simm : BitVec 16) : encodeNat (.addi d a simm) =
    assemble 14 [put d 10, put a 15, put simm 31] := rfl
theorem encodeNat_addis (d a : BitVec 5) (simm : BitVec 16) : encodeNat (.addis d a simm) =
    assemble 15 [put d 10, put a 15, put simm 31] := rfl
theorem encodeNat_addic (d a : BitVec 5) (simm : BitVec 16) : encodeNat (.addic d a simm) =
    assemble 12 [put d 10, put a 15, put simm 31] := rfl
theorem encodeNat_addic_rc (d a : BitVec 5) (simm : BitVec 16) : encodeNat (.addic_rc d a simm) =
    assemble 13 [put d 10, put a 15, put simm 31] := rfl
theorem encodeNat_subfic (d a : BitVec 5) (simm : BitVec 16) : encodeNat (.subfic d a simm) =
    assemble 8 [put d 10, put a 15, put simm 31] := rfl
theorem encodeNat_mulli (d a : BitVec 5) (simm : BitVec 16) : encodeNat (.mulli d a simm) =
    assemble 7 [put d 10, put a 15, put simm 31] := rfl
theorem encodeNat_addx (d a b : BitVec 5) (oe rc : Bool) : encodeNat (.addx d a b oe rc) =
    assemble 31 [put d 10, put a 15, put b 20, putFlag oe 21, putXo 266, putFlag rc 31] := rfl
theorem encodeNat_addcx (d a b : BitVec 5) (oe rc : Bool) : encodeNat (.addcx d a b oe rc) =
    assemble 31 [put d 10, put a 15, put b 20, putFlag oe 21, putXo 10, putFlag rc 31] := rfl
theorem encodeNat_addex (d a b : BitVec 5) (oe rc : Bool) : encodeNat (.addex d a b oe rc) =
    assemble 31 [put d 10, put a 15, put b 20, putFlag oe 21, putXo 138, putFlag rc 31] := rfl
theorem encodeNat_addmex (d a : BitVec 5) (oe rc : Bool) : encodeNat (.addmex d a oe rc) =
    assemble 31 [put d 10, put a 15, putFlag oe 21, putXo 234, putFlag rc 31] := rfl
theorem encodeNat_addzex (d a : BitVec 5) (oe rc : Bool) : encodeNat (.addzex d a oe rc) =
    assemble 31 [put d 10, put a 15, putFlag oe 21, putXo 202, putFlag rc 31] := rfl
theorem encodeNat_subfx (d a b : BitVec 5) (oe rc : Bool) : encodeNat (.subfx d a b oe rc) =
    assemble 31 [put d 10, put a 15, put b 20, putFlag oe 21, putXo 40, putFlag rc 31] := rfl
theorem encodeNat_subfcx (d a b : BitVec 5) (oe rc : Bool) : encodeNat (.subfcx d a b oe rc) =
    assemble 31 [put d 10, put a 15, put b 20, putFlag oe 21, putXo 8, putFlag rc 31] := rfl
theorem encodeNat_subfex (d a b : BitVec 5) (oe rc : Bool) : encodeNat (.subfex d a b oe rc) =
    assemble 31 [put d 10, put a 15, put b 20, putFlag oe 21, putXo 136, putFlag rc 31] := rfl
theorem encodeNat_subfmex (d a : BitVec 5) (oe rc : Bool) : encodeNat (.subfmex d a oe rc) =
    assemble 31 [put d 10, put a 15, putFlag oe 21, putXo 232, putFlag rc 31] := rfl
theorem encodeNat_subfzex (d a : BitVec 5) (oe rc : Bool) : encodeNat (.subfzex d a oe rc) =
    assemble 31 [put d 10, put a 15, putFlag oe 21, putXo 200, putFlag rc 31] := rfl
theorem encodeNat_negx (d a : BitVec 5) (oe rc : Bool) : encodeNat (.negx d a oe rc) =
    assemble 31 [put d 10, put a 15, putFlag oe 21, putXo 104, putFlag rc 31] := rfl
theorem encodeNat_mullwx (d a b : BitVec 5) (oe rc : Bool) : encodeNat (.mullwx d a b oe rc) =
    assemble 31 [put d 10, put a 15, put b 20, putFlag oe 21, putXo 235, putFlag rc 31] := rfl
theorem encodeNat_divwx (d a b : BitVec 5) (oe rc : Bool) : encodeNat (.divwx d a b oe rc) =
    assemble 31 [put d 10, put a 15, put b 20, putFlag oe 21, putXo 491, putFlag rc 31] := rfl
theorem encodeNat_divwux (d a b : BitVec 5) (oe rc : Bool) : encodeNat (.divwux d a b oe rc) =
    assemble 31 [put d 10, put a 15, put b 20, putFlag oe 21, putXo 459, putFlag rc 31] := rfl
theorem encodeNat_mulhwx (d a b : BitVec 5) (rc : Bool) : encodeNat (.mulhwx d a b rc) =
    assemble 31 [put d 10, put a 15, put b 20, putXo 75, putFlag rc 31] := rfl
theorem encodeNat_mulhwux (d a b : BitVec 5) (rc : Bool) : encodeNat (.mulhwux d a b rc) =
    assemble 31 [put d 10, put a 15, put b 20, putXo 11, putFlag rc 31] := rfl
theorem encodeNat_cmpi (crfD : BitVec 3) (a : BitVec 5) (simm : BitVec 16) : encodeNat (.cmpi crfD a simm) =
    assemble 11 [put crfD 8, put a 15, put simm 31] := rfl
theorem encodeNat_cmp (crfD : BitVec 3) (a b : BitVec 5) : encodeNat (.cmp crfD a b) =
    assemble 31 [put crfD 8, put a 15, put b 20] := rfl
theorem encodeNat_cmpli (crfD : BitVec 3) (a : BitVec 5) (uimm : BitVec 16) : encodeNat (.cmpli crfD a uimm) =
    assemble 10 [put crfD 8, put a 15, put uimm 31] := rfl
theorem encodeNat_cmpl (crfD : BitVec 3) (a b : BitVec 5) : encodeNat (.cmpl crfD a b) =
    assemble 31 [put crfD 8, put a 15, put b 20, putXo 32] := rfl
theorem encodeNat_andi_rc (src a : BitVec 5) (uimm : BitVec 16) : encodeNat (.andi_rc src a uimm) =
    assemble 28 [put src 10, put a 15, put uimm 31] := rfl
theorem encodeNat_andis_rc (src a : BitVec 5) (uimm : BitVec 16) : encodeNat (.andis_rc src a uimm) =
    assemble 29 [put src 10, put a 15, put uimm 31] := rfl
theorem encodeNat_ori (src a : BitVec 5) (uimm : BitVec 16) : encodeNat (.ori src a uimm) =
    assemble 24 [put src 10, put a 15, put uimm 31] := rfl
theorem encodeNat_oris (src a : BitVec 5) (uimm : BitVec 16) : encodeNat (.oris src a uimm) =
    assemble 25 [put src 10, put a 15, put uimm 31] := rfl
theorem encodeNat_xori (src a : BitVec 5) (uimm : BitVec 16) : encodeNat (.xori src a uimm) =
    assemble 26 [put src 10, put a 15, put uimm 31] := rfl
theorem encodeNat_xoris (src a : BitVec 5) (uimm : BitVec 16) : encodeNat (.xoris src a uimm) =
    assemble 27 [put src 10, put a 15, put uimm 31] := rfl
theorem encodeNat_andx (src a b : BitVec 5) (rc : Bool) : encodeNat (.andx src a b rc) =
    assemble 31 [put src 10, put a 15, put b 20, putXo 28, putFlag rc 31] := rfl
theorem encodeNat_andcx (src a b : BitVec 5) (rc : Bool) : encodeNat (.andcx src a b rc) =
    assemble 31 [put src 10, put a 15, put b 20, putXo 60, putFlag rc 31] := rfl
theorem encodeNat_orx (src a b : BitVec 5) (rc : Bool) : encodeNat (.orx src a b rc) =
    assemble 31 [put src 10, put a 15, put b 20, putXo 444, putFlag rc 31] := rfl
theorem encodeNat_orcx (src a b : BitVec 5) (rc : Bool) : encodeNat (.orcx src a b rc) =
    assemble 31 [put src 10, put a 15, put b 20, putXo 412, putFlag rc 31] := rfl
theorem encodeNat_xorx (src a b : BitVec 5) (rc : Bool) : encodeNat (.xorx src a b rc) =
    assemble 31 [put src 10, put a 15, put b 20, putXo 316, putFlag rc 31] := rfl
theorem encodeNat_nandx (src a b : BitVec 5) (rc : Bool) : encodeNat (.nandx src a b rc) =
    assemble 31 [put src 10, put a 15, put b 20, putXo 476, putFlag rc 31] := rfl
theorem encodeNat_norx (src a b : BitVec 5) (rc : Bool) : encodeNat (.norx src a b rc) =
    assemble 31 [put src 10, put a 15, put b 20, putXo 124, putFlag rc 31] := rfl
theorem encodeNat_eqvx (src a b : BitVec 5) (rc : Bool) : encodeNat (.eqvx src a b rc) =
    assemble 31 [put src 10, put a 15, put b 20, putXo 284, putFlag rc 31] := rfl
theorem encodeNat_extsbx (src a : BitVec 5) (rc : Bool) : encodeNat (.extsbx src a rc) =
    assemble 31 [put src 10, put a 15, putXo 954, putFlag rc 31] := rfl
theorem encodeNat_extshx (src a : BitVec 5) (rc : Bool) : encodeNat (.extshx src a rc) =
    assemble 31 [put src 10, put a 15, putXo 922, putFlag rc 31] := rfl
theorem encodeNat_cntlzwx (src a : BitVec 5) (rc : Bool) : encodeNat (.cntlzwx src a rc) =
    assemble 31 [put src 10, put a 15, putXo 26, putFlag rc 31] := rfl
theorem encodeNat_rlwinmx (src a sh mb me : BitVec 5) (rc : Bool) : encodeNat (.rlwinmx src a sh mb me rc) =
    assemble 21 [put src 10, put a 15, put sh 20, put mb 25, put me 30, putFlag rc 31] := rfl
theorem encodeNat_rlwimix (src a sh mb me : BitVec 5) (rc : Bool) : encodeNat (.rlwimix src a sh mb me rc) =
    assemble 20 [put src 10, put a 15, put sh 20, put mb 25, put me 30, putFlag rc 31] := rfl
theorem encodeNat_rlwnmx (src a b mb me : BitVec 5) (rc : Bool) : encodeNat (.rlwnmx src a b mb me rc) =
    assemble 23 [put src 10, put a 15, put b 20, put mb 25, put me 30, putFlag rc 31] := rfl
theorem encodeNat_slwx (src a b : BitVec 5) (rc : Bool) : encodeNat (.slwx src a b rc) =
    assemble 31 [put src 10, put a 15, put b 20, putXo 24, putFlag rc 31] := rfl
theorem encodeNat_srwx (src a b : BitVec 5) (rc : Bool) : encodeNat (.srwx src a b rc) =
    assemble 31 [put src 10, put a 15, put b 20, putXo 536, putFlag rc 31] := rfl
theorem encodeNat_srawx (src a b : BitVec 5) (rc : Bool) : encodeNat (.srawx src a b rc) =
    assemble 31 [put src 10, put a 15, put b 20, putXo 792, putFlag rc 31] := rfl
theorem encodeNat_srawix (src a sh : BitVec 5) (rc : Bool) : encodeNat (.srawix src a sh rc) =
    assemble 31 [put src 10, put a 15, put sh 20, putXo 824, putFlag rc 31] := rfl
theorem encodeNat_faddx (d a b : BitVec 5) (rc : Bool) : encodeNat (.faddx d a b rc) =
    assemble 63 [put d 10, put a 15, put b 20, putXo 21, putFlag rc 31] := rfl
theorem encodeNat_faddsx (d a b : BitVec 5) (rc : Bool) : encodeNat (.faddsx d a b rc) =
    assemble 59 [put d 10, put a 15, put b 20, putXo 21, putFlag rc 31] := rfl
theorem encodeNat_fsubx (d a b : BitVec 5) (rc : Bool) : encodeNat (.fsubx d a b rc) =
    assemble 63 [put d 10, put a 15, put b 20, putXo 20, putFlag rc 31] := rfl
theorem encodeNat_fsubsx (d a b : BitVec 5) (rc : Bool) : encodeNat (.fsubsx d a b rc) =
    assemble 59 [put d 10, put a 15, put b 20, putXo 20, putFlag rc 31] := rfl
theorem encodeNat_fdivx (d a b : BitVec 5) (rc : Bool) : encodeNat (.fdivx d a b rc) =
    assemble 63 [put d 10, put a 15, put b 20, putXo 18, putFlag rc 31] := rfl
theorem encodeNat_fdivsx (d a b : BitVec 5) (rc : Bool) : encodeNat (.fdivsx d a b rc) =
    assemble 59 [put d 10, put a 15, put b 20, putXo 18, putFlag rc 31] := rfl
theorem encodeNat_fmulx (d a c : BitVec 5) (rc : Bool) : encodeNat (.fmulx d a c rc) =
    assemble 63 [put d 10, put a 15, putXo 25, put c 25, putFlag rc 31] := rfl
theorem encodeNat_fmulsx (d a c : BitVec 5) (rc : Bool) : encodeNat (.fmulsx d a c rc) =
    assemble 59 [put d 10, put a 15, putXo 25, put c 25, putFlag rc 31] := rfl
theorem encodeNat_fresx (d b : BitVec 5) (rc : Bool) : encodeNat (.fresx d b rc) =
    assemble 59 [put d 10, put b 20, putXo 24, putFlag rc 31] := rfl
theorem encodeNat_frsqrtex (d b : BitVec 5) (rc : Bool) : encodeNat (.frsqrtex d b rc) =
    assemble 63 [put d 10, put b 20, putXo 26, putFlag rc 31] := rfl
theorem encodeNat_fselx (d a b c : BitVec 5) (rc : Bool) : encodeNat (.fselx d a b c rc) =
    assemble 63 [put d 10, put a 15, put b 20, putXo 23, put c 25, putFlag rc 31] := rfl
theorem encodeNat_fmaddx (d a b c : BitVec 5) (rc : Bool) : encodeNat (.fmaddx d a b c rc) =
    assemble 63 [put d 10, put a 15, put b 20, putXo 29, put c 25, putFlag rc 31] := rfl
theorem encodeNat_fmaddsx (d a b c : BitVec 5) (rc : Bool) : encodeNat (.fmaddsx d a b c rc) =
    assemble 59 [put d 10, put a 15, put b 20, putXo 29, put c 25, putFlag rc 31] := rfl
theorem encodeNat_fmsubx (d a b c : BitVec 5) (rc : Bool) : encodeNat (.fmsubx d a b c rc) =
    assemble 63 [put d 10, put a 15, put b 20, putXo 28, put c 25, putFlag rc 31] := rfl
theorem encodeNat_fmsubsx (d a b c : BitVec 5) (rc : Bool) : encodeNat (.fmsubsx d a b c rc) =
    assemble 59 [put d 10, put a 15, put b 20, putXo 28, put c 25, putFlag rc 31] := rfl
theorem encodeNat_fnmaddx (d a b c : BitVec 5) (rc : Bool) : encodeNat (.fnmaddx d a b c rc) =
    assemble 63 [put d 10, put a 15, put b 20, putXo 31, put c 25, putFlag rc 31] := rfl
theorem encodeNat_fnmaddsx (d a b c : BitVec 5) (rc : Bool) : encodeNat (.fnmaddsx d a b c rc) =
    assemble 59 [put d 10, put a 15, put b 20, putXo 31, put c 25, putFlag rc 31] := rfl
theorem encodeNat_fnmsubx (d a b c : BitVec 5) (rc : Bool) : encodeNat (.fnmsubx d a b c rc) =
    assemble 63 [put d 10, put a 15, put b 20, putXo 30, put c 25, putFlag rc 31] := rfl
theorem encodeNat_fnmsubsx (d a b c : BitVec 5) (rc : Bool) : encodeNat (.fnmsubsx d a b c rc) =
    assemble 59 [put d 10, put a 15, put b 20, putXo 30, put c 25, putFlag rc 31] := rfl
theorem encodeNat_frspx (d b : BitVec 5) (rc : Bool) : encodeNat (.frspx d b rc) =
    assemble 63 [put d 10, put b 20, putXo 12, putFlag rc 31] := rfl
theorem encodeNat_fctiwx (d b : BitVec 5) (rc : Bool) : encodeNat (.fctiwx d b rc) =
    assemble 63 [put d 10, put b 20, putXo 14, putFlag rc 31] := rfl
theorem encodeNat_fctiwzx (d b : BitVec 5) (rc : Bool) : encodeNat (.fctiwzx d b rc) =
    assemble 63 [put d 10, put b 20, putXo 15, putFlag rc 31] := rfl
theorem encodeNat_fcmpu (crfD : BitVec 3) (a b : BitVec 5) : encodeNat (.fcmpu crfD a b) =
    assemble 63 [put crfD 8, put a 15, put b 20] := rfl
theorem encodeNat_fcmpo (crfD : BitVec 3) (a b : BitVec 5) : encodeNat (.fcmpo crfD a b) =
    assemble 63 [put crfD 8, put a 15, put b 20, putXo 32] := rfl
theorem encodeNat_mffsx (d : BitVec 5) (rc : Bool) : encodeNat (.mffsx d rc) =
    assemble 63 [put d 10, putXo 583, putFlag rc 31] := rfl
theorem encodeNat_mcrfs (crfD crfS : BitVec 3) : encodeNat (.mcrfs crfD crfS) =
    assemble 63 [put crfD 8, put crfS 13, putXo 64] := rfl
theorem encodeNat_mtfsfix (crfD : BitVec 3) (imm : BitVec 4) (rc : Bool) : encodeNat (.mtfsfix crfD imm rc) =
    assemble 63 [put crfD 8, put imm 19, putXo 134, putFlag rc 31] := rfl
theorem encodeNat_mtfsfx (fm : BitVec 8) (b : BitVec 5) (rc : Bool) : encodeNat (.mtfsfx fm b rc) =
    assemble 63 [put fm 14, put b 20, putXo 711, putFlag rc 31] := rfl
theorem encodeNat_mtfsb0x (crbD : BitVec 5) (rc : Bool) : encodeNat (.mtfsb0x crbD rc) =
    assemble 63 [put crbD 10, putXo 70, putFlag rc 31] := rfl
theorem encodeNat_mtfsb1x (crbD : BitVec 5) (rc : Bool) : encodeNat (.mtfsb1x crbD rc) =
    assemble 63 [put crbD 10, putXo 38, putFlag rc 31] := rfl
theorem encodeNat_fmrx (d b : BitVec 5) (rc : Bool) : encodeNat (.fmrx d b rc) =
    assemble 63 [put d 10, put b 20, putXo 72, putFlag rc 31] := rfl
theorem encodeNat_fnegx (d b : BitVec 5) (rc : Bool) : encodeNat (.fnegx d b rc) =
    assemble 63 [put d 10, put b 20, putXo 40, putFlag rc 31] := rfl
theorem encodeNat_fabsx (d b : BitVec 5) (rc : Bool) : encodeNat (.fabsx d b rc) =
    assemble 63 [put d 10, put b 20, putXo 264, putFlag rc 31] := rfl
theorem encodeNat_fnabsx (d b : BitVec 5) (rc : Bool) : encodeNat (.fnabsx d b rc) =
    assemble 63 [put d 10, put b 20, putXo 136, putFlag rc 31] := rfl
theorem encodeNat_lbz (d a : BitVec 5) (disp : BitVec 16) : encodeNat (.lbz d a disp) =
    assemble 34 [put d 10, put a 15, put disp 31] := rfl
theorem encodeNat_lbzu (d a : BitVec 5) (disp : BitVec 16) : encodeNat (.lbzu d a disp) =
    assemble 35 [put d 10, put a 15, put disp 31] := rfl
theorem encodeNat_lbzx (d a b : BitVec 5) : encodeNat (.lbzx d a b) =
    assemble 31 [put d 10, put a 15, put b 20, putXo 87] := rfl
theorem encodeNat_lbzux (d a b : BitVec 5) : encodeNat (.lbzux d a b) =
    assemble 31 [put d 10, put a 15, put b 20, putXo 119] := rfl
theorem encodeNat_lhz (d a : BitVec 5) (disp : BitVec 16) : encodeNat (.lhz d a disp) =
    assemble 40 [put d 10, put a 15, put disp 31] := rfl
theorem encodeNat_lhzu (d a : BitVec 5) (disp : BitVec 16) : encodeNat (.lhzu d a disp) =
    assemble 41 [put d 10, put a 15, put disp 31] := rfl
theorem encodeNat_lhzx (d a b : BitVec 5) : encodeNat (.lhzx d a b) =
    assemble 31 [put d 10, put a 15, put b 20, putXo 279] := rfl
theorem encodeNat_lhzux (d a b : BitVec 5) : encodeNat (.lhzux d a b) =
    assemble 31 [put d 10, put a 15, put b 20, putXo 311] := rfl
theorem encodeNat_lha (d a : BitVec 5) (disp : BitVec 16) : encodeNat (.lha d a disp) =
    assemble 42 [put d 10, put a 15, put disp 31] := rfl
theorem encodeNat_lhau (d a : BitVec 5) (disp : BitVec 16) : encodeNat (.lhau d a disp) =
    assemble 43 [put d 10, put a 15, put disp 31] := rfl
theorem encodeNat_lhax (d a b : BitVec 5) : encodeNat (.lhax d a b) =
    assemble 31 [put d 10, put a 15, put b 20, putXo 343] := rfl
theorem encodeNat_lhaux (d a b : BitVec 5) : encodeNat (.lhaux d a b) =
    assemble 31 [put d 10, put a 15, put b 20, putXo 375] := rfl
theorem encodeNat_lwz (d a : BitVec 5) (disp : BitVec 16) : encodeNat (.lwz d a disp) =
    assemble 32 [put d 10, put a 15, put disp 31] := rfl
theorem encodeNat_lwzu (d a : BitVec 5) (disp : BitVec 16) : encodeNat (.lwzu d a disp) =
    assemble 33 [put d 10, put a 15, put disp 31] := rfl
theorem encodeNat_lwzx (d a b : BitVec 5) : encodeNat (.lwzx d a b) =
    assemble 31 [put d 10, put a 15, put b 20, putXo 23] := rfl
theorem encodeNat_lwzux (d a b : BitVec 5) : encodeNat (.lwzux d a b) =
    assemble 31 [put d 10, put a 15, put b 20, putXo 55] := rfl
theorem encodeNat_stb (src a : BitVec 5) (disp : BitVec 16) : encodeNat (.stb src a disp) =
    assemble 38 [put src 10, put a 15, put disp 31] := rfl
theorem encodeNat_stbu (src a : BitVec 5) (disp : BitVec 16) : encodeNat (.stbu src a disp) =
    assemble 39 [put src 10, put a 15, put disp 31] := rfl
theorem encodeNat_stbx (src a b : BitVec 5) : encodeNat (.stbx src a b) =
    assemble 31 [put src 10, put a 15, put b 20, putXo 215] := rfl
theorem encodeNat_stbux (src a b : BitVec 5) : encodeNat (.stbux src a b) =
    assemble 31 [put src 10, put a 15, put b 20, putXo 247] := rfl
theorem encodeNat_sth (src a : BitVec 5) (disp : BitVec 16) : encodeNat (.sth src a disp) =
    assemble 44 [put src 10, put a 15, put disp 31] := rfl
theorem encodeNat_sthu (src a : BitVec 5) (disp : BitVec 16) : encodeNat (.sthu src a disp) =
    assemble 45 [put src 10, put a 15, put disp 31] := rfl
theorem encodeNat_sthx (src a b : BitVec 5) : encodeNat (.sthx src a b) =
    assemble 31 [put src 10, put a 15, put b 20, putXo 407] := rfl
theorem encodeNat_sthux (src a b : BitVec 5) : encodeNat (.sthux src a b) =
    assemble 31 [put src 10, put a 15, put b 20, putXo 439] := rfl
theorem encodeNat_stw (src a : BitVec 5) (disp : BitVec 16) : encodeNat (.stw src a disp) =
    assemble 36 [put src 10, put a 15, put disp 31] := rfl
theorem encodeNat_stwu (src a : BitVec 5) (disp : BitVec 16) : encodeNat (.stwu src a disp) =
    assemble 37 [put src 10, put a 15, put disp 31] := rfl
theorem encodeNat_stwx (src a b : BitVec 5) : encodeNat (.stwx src a b) =
    assemble 31 [put src 10, put a 15, put b 20, putXo 151] := rfl
theorem encodeNat_stwux (src a b : BitVec 5) : encodeNat (.stwux src a b) =
    assemble 31 [put src 10, put a 15, put b 20, putXo 183] := rfl
theorem encodeNat_lhbrx (d a b : BitVec 5) : encodeNat (.lhbrx d a b) =
    assemble 31 [put d 10, put a 15, put b 20, putXo 790] := rfl
theorem encodeNat_lwbrx (d a b : BitVec 5) : encodeNat (.lwbrx d a b) =
    assemble 31 [put d 10, put a 15, put b 20, putXo 534] := rfl
theorem encodeNat_sthbrx (src a b : BitVec 5) : encodeNat (.sthbrx src a b) =
    assemble 31 [put src 10, put a 15, put b 20, putXo 918] := rfl
theorem encodeNat_stwbrx (src a b : BitVec 5) : encodeNat (.stwbrx src a b) =
    assemble 31 [put src 10, put a 15, put b 20, putXo 662] := rfl
theorem encodeNat_lmw (d a : BitVec 5) (disp : BitVec 16) : encodeNat (.lmw d a disp) =
    assemble 46 [put d 10, put a 15, put disp 31] := rfl
theorem encodeNat_stmw (src a : BitVec 5) (disp : BitVec 16) : encodeNat (.stmw src a disp) =
    assemble 47 [put src 10, put a 15, put disp 31] := rfl
theorem encodeNat_lswi (d a nb : BitVec 5) : encodeNat (.lswi d a nb) =
    assemble 31 [put d 10, put a 15, put nb 20, putXo 597] := rfl
theorem encodeNat_lswx (d a b : BitVec 5) : encodeNat (.lswx d a b) =
    assemble 31 [put d 10, put a 15, put b 20, putXo 533] := rfl
theorem encodeNat_stswi (src a nb : BitVec 5) : encodeNat (.stswi src a nb) =
    assemble 31 [put src 10, put a 15, put nb 20, putXo 725] := rfl
theorem encodeNat_stswx (src a b : BitVec 5) : encodeNat (.stswx src a b) =
    assemble 31 [put src 10, put a 15, put b 20, putXo 661] := rfl
theorem encodeNat_lwarx (d a b : BitVec 5) : encodeNat (.lwarx d a b) =
    assemble 31 [put d 10, put a 15, put b 20, putXo 20] := rfl
theorem encodeNat_stwcx_rc (src a b : BitVec 5) : encodeNat (.stwcx_rc src a b) =
    assemble 31 [put src 10, put a 15, put b 20, putXo 150, 1] := rfl
theorem encodeNat_sync : encodeNat (.sync) =
    assemble 31 [putXo 598] := rfl
theorem encodeNat_eieio : encodeNat (.eieio) =
    assemble 31 [putXo 854] := rfl
theorem encodeNat_isync : encodeNat (.isync) =
    assemble 19 [putXo 150] := rfl
theorem encodeNat_lfs (d a : BitVec 5) (disp : BitVec 16) : encodeNat (.lfs d a disp) =
    assemble 48 [put d 10, put a 15, put disp 31] := rfl
theorem encodeNat_lfsu (d a : BitVec 5) (disp : BitVec 16) : encodeNat (.lfsu d a disp) =
    assemble 49 [put d 10, put a 15, put disp 31] := rfl
theorem encodeNat_lfsx (d a b : BitVec 5) : encodeNat (.lfsx d a b) =
    assemble 31 [put d 10, put a 15, put b 20, putXo 535] := rfl
theorem encodeNat_lfsux (d a b : BitVec 5) : encodeNat (.lfsux d a b) =
    assemble 31 [put d 10, put a 15, put b 20, putXo 567] := rfl
theorem encodeNat_lfd (d a : BitVec 5) (disp : BitVec 16) : encodeNat (.lfd d a disp) =
    assemble 50 [put d 10, put a 15, put disp 31] := rfl
theorem encodeNat_lfdu (d a : BitVec 5) (disp : BitVec 16) : encodeNat (.lfdu d a disp) =
    assemble 51 [put d 10, put a 15, put disp 31] := rfl
theorem encodeNat_lfdx (d a b : BitVec 5) : encodeNat (.lfdx d a b) =
    assemble 31 [put d 10, put a 15, put b 20, putXo 599] := rfl
theorem encodeNat_lfdux (d a b : BitVec 5) : encodeNat (.lfdux d a b) =
    assemble 31 [put d 10, put a 15, put b 20, putXo 631] := rfl
theorem encodeNat_stfs (src a : BitVec 5) (disp : BitVec 16) : encodeNat (.stfs src a disp) =
    assemble 52 [put src 10, put a 15, put disp 31] := rfl
theorem encodeNat_stfsu (src a : BitVec 5) (disp : BitVec 16) : encodeNat (.stfsu src a disp) =
    assemble 53 [put src 10, put a 15, put disp 31] := rfl
theorem encodeNat_stfsx (src a b : BitVec 5) : encodeNat (.stfsx src a b) =
    assemble 31 [put src 10, put a 15, put b 20, putXo 663] := rfl
theorem encodeNat_stfsux (src a b : BitVec 5) : encodeNat (.stfsux src a b) =
    assemble 31 [put src 10, put a 15, put b 20, putXo 695] := rfl
theorem encodeNat_stfd (src a : BitVec 5) (disp : BitVec 16) : encodeNat (.stfd src a disp) =
    assemble 54 [put src 10, put a 15, put disp 31] := rfl
theorem encodeNat_stfdu (src a : BitVec 5) (disp : BitVec 16) : encodeNat (.stfdu src a disp) =
    assemble 55 [put src 10, put a 15, put disp 31] := rfl
theorem encodeNat_stfdx (src a b : BitVec 5) : encodeNat (.stfdx src a b) =
    assemble 31 [put src 10, put a 15, put b 20, putXo 727] := rfl
theorem encodeNat_stfdux (src a b : BitVec 5) : encodeNat (.stfdux src a b) =
    assemble 31 [put src 10, put a 15, put b 20, putXo 759] := rfl
theorem encodeNat_stfiwx (src a b : BitVec 5) : encodeNat (.stfiwx src a b) =
    assemble 31 [put src 10, put a 15, put b 20, putXo 983] := rfl
theorem encodeNat_bx (li : BitVec 24) (aa lk : Bool) : encodeNat (.bx li aa lk) =
    assemble 18 [put li 29, putFlag aa 30, putFlag lk 31] := rfl
theorem encodeNat_bcx (bo bi : BitVec 5) (bd : BitVec 14) (aa lk : Bool) : encodeNat (.bcx bo bi bd aa lk) =
    assemble 16 [put bo 10, put bi 15, put bd 29, putFlag aa 30, putFlag lk 31] := rfl
theorem encodeNat_bclrx (bo bi : BitVec 5) (lk : Bool) : encodeNat (.bclrx bo bi lk) =
    assemble 19 [put bo 10, put bi 15, putXo 16, putFlag lk 31] := rfl
theorem encodeNat_bcctrx (bo bi : BitVec 5) (lk : Bool) : encodeNat (.bcctrx bo bi lk) =
    assemble 19 [put bo 10, put bi 15, putXo 528, putFlag lk 31] := rfl
theorem encodeNat_crand (crbD crbA crbB : BitVec 5) : encodeNat (.crand crbD crbA crbB) =
    assemble 19 [put crbD 10, put crbA 15, put crbB 20, putXo 257] := rfl
theorem encodeNat_crandc (crbD crbA crbB : BitVec 5) : encodeNat (.crandc crbD crbA crbB) =
    assemble 19 [put crbD 10, put crbA 15, put crbB 20, putXo 129] := rfl
theorem encodeNat_creqv (crbD crbA crbB : BitVec 5) : encodeNat (.creqv crbD crbA crbB) =
    assemble 19 [put crbD 10, put crbA 15, put crbB 20, putXo 289] := rfl
theorem encodeNat_crnand (crbD crbA crbB : BitVec 5) : encodeNat (.crnand crbD crbA crbB) =
    assemble 19 [put crbD 10, put crbA 15, put crbB 20, putXo 225] := rfl
theorem encodeNat_crnor (crbD crbA crbB : BitVec 5) : encodeNat (.crnor crbD crbA crbB) =
    assemble 19 [put crbD 10, put crbA 15, put crbB 20, putXo 33] := rfl
theorem encodeNat_cror (crbD crbA crbB : BitVec 5) : encodeNat (.cror crbD crbA crbB) =
    assemble 19 [put crbD 10, put crbA 15, put crbB 20, putXo 449] := rfl
theorem encodeNat_crorc (crbD crbA crbB : BitVec 5) : encodeNat (.crorc crbD crbA crbB) =
    assemble 19 [put crbD 10, put crbA 15, put crbB 20, putXo 417] := rfl
theorem encodeNat_crxor (crbD crbA crbB : BitVec 5) : encodeNat (.crxor crbD crbA crbB) =
    assemble 19 [put crbD 10, put crbA 15, put crbB 20, putXo 193] := rfl
theorem encodeNat_mcrf (crfD crfS : BitVec 3) : encodeNat (.mcrf crfD crfS) =
    assemble 19 [put crfD 8, put crfS 13] := rfl
theorem encodeNat_sc : encodeNat (.sc) =
    assemble 17 [2] := rfl
theorem encodeNat_rfi : encodeNat (.rfi) =
    assemble 19 [putXo 50] := rfl
theorem encodeNat_tw (trapOn a b : BitVec 5) : encodeNat (.tw trapOn a b) =
    assemble 31 [put trapOn 10, put a 15, put b 20, putXo 4] := rfl
theorem encodeNat_twi (trapOn a : BitVec 5) (simm : BitVec 16) : encodeNat (.twi trapOn a simm) =
    assemble 3 [put trapOn 10, put a 15, put simm 31] := rfl
theorem encodeNat_mcrxr (crfD : BitVec 3) : encodeNat (.mcrxr crfD) =
    assemble 31 [put crfD 8, putXo 512] := rfl
theorem encodeNat_mfcr (d : BitVec 5) : encodeNat (.mfcr d) =
    assemble 31 [put d 10, putXo 19] := rfl
theorem encodeNat_mtcrf (src : BitVec 5) (crm : BitVec 8) : encodeNat (.mtcrf src crm) =
    assemble 31 [put src 10, put crm 19, putXo 144] := rfl
theorem encodeNat_mfmsr (d : BitVec 5) : encodeNat (.mfmsr d) =
    assemble 31 [put d 10, putXo 83] := rfl
theorem encodeNat_mtmsr (src : BitVec 5) : encodeNat (.mtmsr src) =
    assemble 31 [put src 10, putXo 146] := rfl
theorem encodeNat_mfspr (d : BitVec 5) (spr : BitVec 10) : encodeNat (.mfspr d spr) =
    assemble 31 [put d 10, putSplit spr, putXo 339] := rfl
theorem encodeNat_mtspr (src : BitVec 5) (spr : BitVec 10) : encodeNat (.mtspr src spr) =
    assemble 31 [put src 10, putSplit spr, putXo 467] := rfl
theorem encodeNat_mftb (d : BitVec 5) (tbr : BitVec 10) : encodeNat (.mftb d tbr) =
    assemble 31 [put d 10, putSplit tbr, putXo 371] := rfl
theorem encodeNat_dcbf (a b : BitVec 5) : encodeNat (.dcbf a b) =
    assemble 31 [put a 15, put b 20, putXo 86] := rfl
theorem encodeNat_dcbi (a b : BitVec 5) : encodeNat (.dcbi a b) =
    assemble 31 [put a 15, put b 20, putXo 470] := rfl
theorem encodeNat_dcbst (a b : BitVec 5) : encodeNat (.dcbst a b) =
    assemble 31 [put a 15, put b 20, putXo 54] := rfl
theorem encodeNat_dcbt (a b : BitVec 5) : encodeNat (.dcbt a b) =
    assemble 31 [put a 15, put b 20, putXo 278] := rfl
theorem encodeNat_dcbtst (a b : BitVec 5) : encodeNat (.dcbtst a b) =
    assemble 31 [put a 15, put b 20, putXo 246] := rfl
theorem encodeNat_dcbz (a b : BitVec 5) : encodeNat (.dcbz a b) =
    assemble 31 [put a 15, put b 20, putXo 1014] := rfl
theorem encodeNat_icbi (a b : BitVec 5) : encodeNat (.icbi a b) =
    assemble 31 [put a 15, put b 20, putXo 982] := rfl
theorem encodeNat_mfsr (d : BitVec 5) (sr : BitVec 4) : encodeNat (.mfsr d sr) =
    assemble 31 [put d 10, put sr 15, putXo 595] := rfl
theorem encodeNat_mfsrin (d b : BitVec 5) : encodeNat (.mfsrin d b) =
    assemble 31 [put d 10, put b 20, putXo 659] := rfl
theorem encodeNat_mtsr (src : BitVec 5) (sr : BitVec 4) : encodeNat (.mtsr src sr) =
    assemble 31 [put src 10, put sr 15, putXo 210] := rfl
theorem encodeNat_mtsrin (src b : BitVec 5) : encodeNat (.mtsrin src b) =
    assemble 31 [put src 10, put b 20, putXo 242] := rfl
theorem encodeNat_tlbie (b : BitVec 5) : encodeNat (.tlbie b) =
    assemble 31 [put b 20, putXo 306] := rfl
theorem encodeNat_tlbsync : encodeNat (.tlbsync) =
    assemble 31 [putXo 566] := rfl
theorem encodeNat_tlbsync_b31 : encodeNat (.tlbsync_b31) =
    assemble 31 [putXo 598, 1] := rfl
theorem encodeNat_eciwx (d a b : BitVec 5) : encodeNat (.eciwx d a b) =
    assemble 31 [put d 10, put a 15, put b 20, putXo 310] := rfl
theorem encodeNat_ecowx (src a b : BitVec 5) : encodeNat (.ecowx src a b) =
    assemble 31 [put src 10, put a 15, put b 20, putXo 438] := rfl

namespace Machine

variable (s : State)

theorem exec_addi (d a : BitVec 5) (simm : BitVec 16) : exec (.addi d a simm) s = execAddi d a simm s := rfl
theorem exec_addis (d a : BitVec 5) (simm : BitVec 16) : exec (.addis d a simm) s = execAddis d a simm s := rfl
theorem exec_addic (d a : BitVec 5) (simm : BitVec 16) : exec (.addic d a simm) s = execAddic d a simm s := rfl
theorem exec_addic_rc (d a : BitVec 5) (simm : BitVec 16) : exec (.addic_rc d a simm) s = execAddicRc d a simm s := rfl
theorem exec_subfic (d a : BitVec 5) (simm : BitVec 16) : exec (.subfic d a simm) s = execSubfic d a simm s := rfl
theorem exec_mulli (d a : BitVec 5) (simm : BitVec 16) : exec (.mulli d a simm) s = execMulli d a simm s := rfl
theorem exec_addx (d a b : BitVec 5) (oe rc : Bool) : exec (.addx d a b oe rc) s = execAddx d a b oe rc s := rfl
theorem exec_addcx (d a b : BitVec 5) (oe rc : Bool) : exec (.addcx d a b oe rc) s = execAddcx d a b oe rc s := rfl
theorem exec_addex (d a b : BitVec 5) (oe rc : Bool) : exec (.addex d a b oe rc) s = execAddex d a b oe rc s := rfl
theorem exec_addmex (d a : BitVec 5) (oe rc : Bool) : exec (.addmex d a oe rc) s = execAddmex d a oe rc s := rfl
theorem exec_addzex (d a : BitVec 5) (oe rc : Bool) : exec (.addzex d a oe rc) s = execAddzex d a oe rc s := rfl
theorem exec_subfx (d a b : BitVec 5) (oe rc : Bool) : exec (.subfx d a b oe rc) s = execSubfx d a b oe rc s := rfl
theorem exec_subfcx (d a b : BitVec 5) (oe rc : Bool) : exec (.subfcx d a b oe rc) s = execSubfcx d a b oe rc s := rfl
theorem exec_subfex (d a b : BitVec 5) (oe rc : Bool) : exec (.subfex d a b oe rc) s = execSubfex d a b oe rc s := rfl
theorem exec_subfmex (d a : BitVec 5) (oe rc : Bool) : exec (.subfmex d a oe rc) s = execSubfmex d a oe rc s := rfl
theorem exec_subfzex (d a : BitVec 5) (oe rc : Bool) : exec (.subfzex d a oe rc) s = execSubfzex d a oe rc s := rfl
theorem exec_negx (d a : BitVec 5) (oe rc : Bool) : exec (.negx d a oe rc) s = execNegx d a oe rc s := rfl
theorem exec_mullwx (d a b : BitVec 5) (oe rc : Bool) : exec (.mullwx d a b oe rc) s = execMullwx d a b oe rc s := rfl
theorem exec_divwx (d a b : BitVec 5) (oe rc : Bool) : exec (.divwx d a b oe rc) s = execDivwx d a b oe rc s := rfl
theorem exec_divwux (d a b : BitVec 5) (oe rc : Bool) : exec (.divwux d a b oe rc) s = execDivwux d a b oe rc s := rfl
theorem exec_mulhwx (d a b : BitVec 5) (rc : Bool) : exec (.mulhwx d a b rc) s = execMulhwx d a b rc s := rfl
theorem exec_mulhwux (d a b : BitVec 5) (rc : Bool) : exec (.mulhwux d a b rc) s = execMulhwux d a b rc s := rfl
theorem exec_cmpi (crfD : BitVec 3) (a : BitVec 5) (simm : BitVec 16) : exec (.cmpi crfD a simm) s = execCmpi crfD a simm s := rfl
theorem exec_cmp (crfD : BitVec 3) (a b : BitVec 5) : exec (.cmp crfD a b) s = execCmp crfD a b s := rfl
theorem exec_cmpli (crfD : BitVec 3) (a : BitVec 5) (uimm : BitVec 16) : exec (.cmpli crfD a uimm) s = execCmpli crfD a uimm s := rfl
theorem exec_cmpl (crfD : BitVec 3) (a b : BitVec 5) : exec (.cmpl crfD a b) s = execCmpl crfD a b s := rfl
theorem exec_andi_rc (src a : BitVec 5) (uimm : BitVec 16) : exec (.andi_rc src a uimm) s = execAndiRc src a uimm s := rfl
theorem exec_andis_rc (src a : BitVec 5) (uimm : BitVec 16) : exec (.andis_rc src a uimm) s = execAndisRc src a uimm s := rfl
theorem exec_ori (src a : BitVec 5) (uimm : BitVec 16) : exec (.ori src a uimm) s = execOri src a uimm s := rfl
theorem exec_oris (src a : BitVec 5) (uimm : BitVec 16) : exec (.oris src a uimm) s = execOris src a uimm s := rfl
theorem exec_xori (src a : BitVec 5) (uimm : BitVec 16) : exec (.xori src a uimm) s = execXori src a uimm s := rfl
theorem exec_xoris (src a : BitVec 5) (uimm : BitVec 16) : exec (.xoris src a uimm) s = execXoris src a uimm s := rfl
theorem exec_andx (src a b : BitVec 5) (rc : Bool) : exec (.andx src a b rc) s = execAndx src a b rc s := rfl
theorem exec_andcx (src a b : BitVec 5) (rc : Bool) : exec (.andcx src a b rc) s = execAndcx src a b rc s := rfl
theorem exec_orx (src a b : BitVec 5) (rc : Bool) : exec (.orx src a b rc) s = execOrx src a b rc s := rfl
theorem exec_orcx (src a b : BitVec 5) (rc : Bool) : exec (.orcx src a b rc) s = execOrcx src a b rc s := rfl
theorem exec_xorx (src a b : BitVec 5) (rc : Bool) : exec (.xorx src a b rc) s = execXorx src a b rc s := rfl
theorem exec_nandx (src a b : BitVec 5) (rc : Bool) : exec (.nandx src a b rc) s = execNandx src a b rc s := rfl
theorem exec_norx (src a b : BitVec 5) (rc : Bool) : exec (.norx src a b rc) s = execNorx src a b rc s := rfl
theorem exec_eqvx (src a b : BitVec 5) (rc : Bool) : exec (.eqvx src a b rc) s = execEqvx src a b rc s := rfl
theorem exec_extsbx (src a : BitVec 5) (rc : Bool) : exec (.extsbx src a rc) s = execExtsbx src a rc s := rfl
theorem exec_extshx (src a : BitVec 5) (rc : Bool) : exec (.extshx src a rc) s = execExtshx src a rc s := rfl
theorem exec_cntlzwx (src a : BitVec 5) (rc : Bool) : exec (.cntlzwx src a rc) s = execCntlzwx src a rc s := rfl
theorem exec_rlwinmx (src a sh mb me : BitVec 5) (rc : Bool) : exec (.rlwinmx src a sh mb me rc) s = execRlwinmx src a sh mb me rc s := rfl
theorem exec_rlwimix (src a sh mb me : BitVec 5) (rc : Bool) : exec (.rlwimix src a sh mb me rc) s = execRlwimix src a sh mb me rc s := rfl
theorem exec_rlwnmx (src a b mb me : BitVec 5) (rc : Bool) : exec (.rlwnmx src a b mb me rc) s = execRlwnmx src a b mb me rc s := rfl
theorem exec_slwx (src a b : BitVec 5) (rc : Bool) : exec (.slwx src a b rc) s = execSlwx src a b rc s := rfl
theorem exec_srwx (src a b : BitVec 5) (rc : Bool) : exec (.srwx src a b rc) s = execSrwx src a b rc s := rfl
theorem exec_srawx (src a b : BitVec 5) (rc : Bool) : exec (.srawx src a b rc) s = execSrawx src a b rc s := rfl
theorem exec_srawix (src a sh : BitVec 5) (rc : Bool) : exec (.srawix src a sh rc) s = execSrawix src a sh rc s := rfl
theorem exec_faddx (d a b : BitVec 5) (rc : Bool) : exec (.faddx d a b rc) s = execFaddx d a b rc s := rfl
theorem exec_faddsx (d a b : BitVec 5) (rc : Bool) : exec (.faddsx d a b rc) s = execFaddsx d a b rc s := rfl
theorem exec_fsubx (d a b : BitVec 5) (rc : Bool) : exec (.fsubx d a b rc) s = execFsubx d a b rc s := rfl
theorem exec_fsubsx (d a b : BitVec 5) (rc : Bool) : exec (.fsubsx d a b rc) s = execFsubsx d a b rc s := rfl
theorem exec_fdivx (d a b : BitVec 5) (rc : Bool) : exec (.fdivx d a b rc) s = execFdivx d a b rc s := rfl
theorem exec_fdivsx (d a b : BitVec 5) (rc : Bool) : exec (.fdivsx d a b rc) s = execFdivsx d a b rc s := rfl
theorem exec_fmulx (d a c : BitVec 5) (rc : Bool) : exec (.fmulx d a c rc) s = execFmulx d a c rc s := rfl
theorem exec_fmulsx (d a c : BitVec 5) (rc : Bool) : exec (.fmulsx d a c rc) s = execFmulsx d a c rc s := rfl
theorem exec_fresx (d b : BitVec 5) (rc : Bool) : exec (.fresx d b rc) s = execFresx d b rc s := rfl
theorem exec_frsqrtex (d b : BitVec 5) (rc : Bool) : exec (.frsqrtex d b rc) s = execFrsqrtex d b rc s := rfl
theorem exec_fselx (d a b c : BitVec 5) (rc : Bool) : exec (.fselx d a b c rc) s = execFselx d a b c rc s := rfl
theorem exec_fmaddx (d a b c : BitVec 5) (rc : Bool) : exec (.fmaddx d a b c rc) s = execFmaddx d a b c rc s := rfl
theorem exec_fmaddsx (d a b c : BitVec 5) (rc : Bool) : exec (.fmaddsx d a b c rc) s = execFmaddsx d a b c rc s := rfl
theorem exec_fmsubx (d a b c : BitVec 5) (rc : Bool) : exec (.fmsubx d a b c rc) s = execFmsubx d a b c rc s := rfl
theorem exec_fmsubsx (d a b c : BitVec 5) (rc : Bool) : exec (.fmsubsx d a b c rc) s = execFmsubsx d a b c rc s := rfl
theorem exec_fnmaddx (d a b c : BitVec 5) (rc : Bool) : exec (.fnmaddx d a b c rc) s = execFnmaddx d a b c rc s := rfl
theorem exec_fnmaddsx (d a b c : BitVec 5) (rc : Bool) : exec (.fnmaddsx d a b c rc) s = execFnmaddsx d a b c rc s := rfl
theorem exec_fnmsubx (d a b c : BitVec 5) (rc : Bool) : exec (.fnmsubx d a b c rc) s = execFnmsubx d a b c rc s := rfl
theorem exec_fnmsubsx (d a b c : BitVec 5) (rc : Bool) : exec (.fnmsubsx d a b c rc) s = execFnmsubsx d a b c rc s := rfl
theorem exec_frspx (d b : BitVec 5) (rc : Bool) : exec (.frspx d b rc) s = execFrspx d b rc s := rfl
theorem exec_fctiwx (d b : BitVec 5) (rc : Bool) : exec (.fctiwx d b rc) s = execFctiwx d b rc s := rfl
theorem exec_fctiwzx (d b : BitVec 5) (rc : Bool) : exec (.fctiwzx d b rc) s = execFctiwzx d b rc s := rfl
theorem exec_fcmpu (crfD : BitVec 3) (a b : BitVec 5) : exec (.fcmpu crfD a b) s = execFcmpu crfD a b s := rfl
theorem exec_fcmpo (crfD : BitVec 3) (a b : BitVec 5) : exec (.fcmpo crfD a b) s = execFcmpo crfD a b s := rfl
theorem exec_mffsx (d : BitVec 5) (rc : Bool) : exec (.mffsx d rc) s = execMffsx d rc s := rfl
theorem exec_mcrfs (crfD crfS : BitVec 3) : exec (.mcrfs crfD crfS) s = execMcrfs crfD crfS s := rfl
theorem exec_mtfsfix (crfD : BitVec 3) (imm : BitVec 4) (rc : Bool) : exec (.mtfsfix crfD imm rc) s = execMtfsfix crfD imm rc s := rfl
theorem exec_mtfsfx (fm : BitVec 8) (b : BitVec 5) (rc : Bool) : exec (.mtfsfx fm b rc) s = execMtfsfx fm b rc s := rfl
theorem exec_mtfsb0x (crbD : BitVec 5) (rc : Bool) : exec (.mtfsb0x crbD rc) s = execMtfsb0x crbD rc s := rfl
theorem exec_mtfsb1x (crbD : BitVec 5) (rc : Bool) : exec (.mtfsb1x crbD rc) s = execMtfsb1x crbD rc s := rfl
theorem exec_fmrx (d b : BitVec 5) (rc : Bool) : exec (.fmrx d b rc) s = execFmrx d b rc s := rfl
theorem exec_fnegx (d b : BitVec 5) (rc : Bool) : exec (.fnegx d b rc) s = execFnegx d b rc s := rfl
theorem exec_fabsx (d b : BitVec 5) (rc : Bool) : exec (.fabsx d b rc) s = execFabsx d b rc s := rfl
theorem exec_fnabsx (d b : BitVec 5) (rc : Bool) : exec (.fnabsx d b rc) s = execFnabsx d b rc s := rfl
theorem exec_lbz (d a : BitVec 5) (disp : BitVec 16) : exec (.lbz d a disp) s = execLbz d a disp s := rfl
theorem exec_lbzu (d a : BitVec 5) (disp : BitVec 16) : exec (.lbzu d a disp) s = execLbzu d a disp s := rfl
theorem exec_lbzx (d a b : BitVec 5) : exec (.lbzx d a b) s = execLbzx d a b s := rfl
theorem exec_lbzux (d a b : BitVec 5) : exec (.lbzux d a b) s = execLbzux d a b s := rfl
theorem exec_lhz (d a : BitVec 5) (disp : BitVec 16) : exec (.lhz d a disp) s = execLhz d a disp s := rfl
theorem exec_lhzu (d a : BitVec 5) (disp : BitVec 16) : exec (.lhzu d a disp) s = execLhzu d a disp s := rfl
theorem exec_lhzx (d a b : BitVec 5) : exec (.lhzx d a b) s = execLhzx d a b s := rfl
theorem exec_lhzux (d a b : BitVec 5) : exec (.lhzux d a b) s = execLhzux d a b s := rfl
theorem exec_lha (d a : BitVec 5) (disp : BitVec 16) : exec (.lha d a disp) s = execLha d a disp s := rfl
theorem exec_lhau (d a : BitVec 5) (disp : BitVec 16) : exec (.lhau d a disp) s = execLhau d a disp s := rfl
theorem exec_lhax (d a b : BitVec 5) : exec (.lhax d a b) s = execLhax d a b s := rfl
theorem exec_lhaux (d a b : BitVec 5) : exec (.lhaux d a b) s = execLhaux d a b s := rfl
theorem exec_lwz (d a : BitVec 5) (disp : BitVec 16) : exec (.lwz d a disp) s = execLwz d a disp s := rfl
theorem exec_lwzu (d a : BitVec 5) (disp : BitVec 16) : exec (.lwzu d a disp) s = execLwzu d a disp s := rfl
theorem exec_lwzx (d a b : BitVec 5) : exec (.lwzx d a b) s = execLwzx d a b s := rfl
theorem exec_lwzux (d a b : BitVec 5) : exec (.lwzux d a b) s = execLwzux d a b s := rfl
theorem exec_stb (src a : BitVec 5) (disp : BitVec 16) : exec (.stb src a disp) s = execStb src a disp s := rfl
theorem exec_stbu (src a : BitVec 5) (disp : BitVec 16) : exec (.stbu src a disp) s = execStbu src a disp s := rfl
theorem exec_stbx (src a b : BitVec 5) : exec (.stbx src a b) s = execStbx src a b s := rfl
theorem exec_stbux (src a b : BitVec 5) : exec (.stbux src a b) s = execStbux src a b s := rfl
theorem exec_sth (src a : BitVec 5) (disp : BitVec 16) : exec (.sth src a disp) s = execSth src a disp s := rfl
theorem exec_sthu (src a : BitVec 5) (disp : BitVec 16) : exec (.sthu src a disp) s = execSthu src a disp s := rfl
theorem exec_sthx (src a b : BitVec 5) : exec (.sthx src a b) s = execSthx src a b s := rfl
theorem exec_sthux (src a b : BitVec 5) : exec (.sthux src a b) s = execSthux src a b s := rfl
theorem exec_stw (src a : BitVec 5) (disp : BitVec 16) : exec (.stw src a disp) s = execStw src a disp s := rfl
theorem exec_stwu (src a : BitVec 5) (disp : BitVec 16) : exec (.stwu src a disp) s = execStwu src a disp s := rfl
theorem exec_stwx (src a b : BitVec 5) : exec (.stwx src a b) s = execStwx src a b s := rfl
theorem exec_stwux (src a b : BitVec 5) : exec (.stwux src a b) s = execStwux src a b s := rfl
theorem exec_lhbrx (d a b : BitVec 5) : exec (.lhbrx d a b) s = execLhbrx d a b s := rfl
theorem exec_lwbrx (d a b : BitVec 5) : exec (.lwbrx d a b) s = execLwbrx d a b s := rfl
theorem exec_sthbrx (src a b : BitVec 5) : exec (.sthbrx src a b) s = execSthbrx src a b s := rfl
theorem exec_stwbrx (src a b : BitVec 5) : exec (.stwbrx src a b) s = execStwbrx src a b s := rfl
theorem exec_lmw (d a : BitVec 5) (disp : BitVec 16) : exec (.lmw d a disp) s = execLmw d a disp s := rfl
theorem exec_stmw (src a : BitVec 5) (disp : BitVec 16) : exec (.stmw src a disp) s = execStmw src a disp s := rfl
theorem exec_lswi (d a nb : BitVec 5) : exec (.lswi d a nb) s = execLswi d a nb s := rfl
theorem exec_lswx (d a b : BitVec 5) : exec (.lswx d a b) s = execLswx d a b s := rfl
theorem exec_stswi (src a nb : BitVec 5) : exec (.stswi src a nb) s = execStswi src a nb s := rfl
theorem exec_stswx (src a b : BitVec 5) : exec (.stswx src a b) s = execStswx src a b s := rfl
theorem exec_lwarx (d a b : BitVec 5) : exec (.lwarx d a b) s = execLwarx d a b s := rfl
theorem exec_stwcx_rc (src a b : BitVec 5) : exec (.stwcx_rc src a b) s = execStwcxRc src a b s := rfl
theorem exec_sync : exec (.sync) s = execSync s := rfl
theorem exec_eieio : exec (.eieio) s = execEieio s := rfl
theorem exec_isync : exec (.isync) s = execIsync s := rfl
theorem exec_lfs (d a : BitVec 5) (disp : BitVec 16) : exec (.lfs d a disp) s = execLfs d a disp s := rfl
theorem exec_lfsu (d a : BitVec 5) (disp : BitVec 16) : exec (.lfsu d a disp) s = execLfsu d a disp s := rfl
theorem exec_lfsx (d a b : BitVec 5) : exec (.lfsx d a b) s = execLfsx d a b s := rfl
theorem exec_lfsux (d a b : BitVec 5) : exec (.lfsux d a b) s = execLfsux d a b s := rfl
theorem exec_lfd (d a : BitVec 5) (disp : BitVec 16) : exec (.lfd d a disp) s = execLfd d a disp s := rfl
theorem exec_lfdu (d a : BitVec 5) (disp : BitVec 16) : exec (.lfdu d a disp) s = execLfdu d a disp s := rfl
theorem exec_lfdx (d a b : BitVec 5) : exec (.lfdx d a b) s = execLfdx d a b s := rfl
theorem exec_lfdux (d a b : BitVec 5) : exec (.lfdux d a b) s = execLfdux d a b s := rfl
theorem exec_stfs (src a : BitVec 5) (disp : BitVec 16) : exec (.stfs src a disp) s = execStfs src a disp s := rfl
theorem exec_stfsu (src a : BitVec 5) (disp : BitVec 16) : exec (.stfsu src a disp) s = execStfsu src a disp s := rfl
theorem exec_stfsx (src a b : BitVec 5) : exec (.stfsx src a b) s = execStfsx src a b s := rfl
theorem exec_stfsux (src a b : BitVec 5) : exec (.stfsux src a b) s = execStfsux src a b s := rfl
theorem exec_stfd (src a : BitVec 5) (disp : BitVec 16) : exec (.stfd src a disp) s = execStfd src a disp s := rfl
theorem exec_stfdu (src a : BitVec 5) (disp : BitVec 16) : exec (.stfdu src a disp) s = execStfdu src a disp s := rfl
theorem exec_stfdx (src a b : BitVec 5) : exec (.stfdx src a b) s = execStfdx src a b s := rfl
theorem exec_stfdux (src a b : BitVec 5) : exec (.stfdux src a b) s = execStfdux src a b s := rfl
theorem exec_stfiwx (src a b : BitVec 5) : exec (.stfiwx src a b) s = execStfiwx src a b s := rfl
theorem exec_bx (li : BitVec 24) (aa lk : Bool) : exec (.bx li aa lk) s = execBx li aa lk s := rfl
theorem exec_bcx (bo bi : BitVec 5) (bd : BitVec 14) (aa lk : Bool) : exec (.bcx bo bi bd aa lk) s = execBcx bo bi bd aa lk s := rfl
theorem exec_bclrx (bo bi : BitVec 5) (lk : Bool) : exec (.bclrx bo bi lk) s = execBclrx bo bi lk s := rfl
theorem exec_bcctrx (bo bi : BitVec 5) (lk : Bool) : exec (.bcctrx bo bi lk) s = execBcctrx bo bi lk s := rfl
theorem exec_crand (crbD crbA crbB : BitVec 5) : exec (.crand crbD crbA crbB) s = execCrand crbD crbA crbB s := rfl
theorem exec_crandc (crbD crbA crbB : BitVec 5) : exec (.crandc crbD crbA crbB) s = execCrandc crbD crbA crbB s := rfl
theorem exec_creqv (crbD crbA crbB : BitVec 5) : exec (.creqv crbD crbA crbB) s = execCreqv crbD crbA crbB s := rfl
theorem exec_crnand (crbD crbA crbB : BitVec 5) : exec (.crnand crbD crbA crbB) s = execCrnand crbD crbA crbB s := rfl
theorem exec_crnor (crbD crbA crbB : BitVec 5) : exec (.crnor crbD crbA crbB) s = execCrnor crbD crbA crbB s := rfl
theorem exec_cror (crbD crbA crbB : BitVec 5) : exec (.cror crbD crbA crbB) s = execCror crbD crbA crbB s := rfl
theorem exec_crorc (crbD crbA crbB : BitVec 5) : exec (.crorc crbD crbA crbB) s = execCrorc crbD crbA crbB s := rfl
theorem exec_crxor (crbD crbA crbB : BitVec 5) : exec (.crxor crbD crbA crbB) s = execCrxor crbD crbA crbB s := rfl
theorem exec_mcrf (crfD crfS : BitVec 3) : exec (.mcrf crfD crfS) s = execMcrf crfD crfS s := rfl
theorem exec_sc : exec (.sc) s = execSc s := rfl
theorem exec_rfi : exec (.rfi) s = execRfi s := rfl
theorem exec_tw (trapOn a b : BitVec 5) : exec (.tw trapOn a b) s = execTw trapOn a b s := rfl
theorem exec_twi (trapOn a : BitVec 5) (simm : BitVec 16) : exec (.twi trapOn a simm) s = execTwi trapOn a simm s := rfl
theorem exec_mcrxr (crfD : BitVec 3) : exec (.mcrxr crfD) s = execMcrxr crfD s := rfl
theorem exec_mfcr (d : BitVec 5) : exec (.mfcr d) s = execMfcr d s := rfl
theorem exec_mtcrf (src : BitVec 5) (crm : BitVec 8) : exec (.mtcrf src crm) s = execMtcrf src crm s := rfl
theorem exec_mfmsr (d : BitVec 5) : exec (.mfmsr d) s = execMfmsr d s := rfl
theorem exec_mtmsr (src : BitVec 5) : exec (.mtmsr src) s = execMtmsr src s := rfl
theorem exec_mfspr (d : BitVec 5) (spr : BitVec 10) : exec (.mfspr d spr) s = execMfspr d spr s := rfl
theorem exec_mtspr (src : BitVec 5) (spr : BitVec 10) : exec (.mtspr src spr) s = execMtspr src spr s := rfl
theorem exec_mftb (d : BitVec 5) (tbr : BitVec 10) : exec (.mftb d tbr) s = execMftb d tbr s := rfl
theorem exec_dcbf (a b : BitVec 5) : exec (.dcbf a b) s = execDcbf a b s := rfl
theorem exec_dcbi (a b : BitVec 5) : exec (.dcbi a b) s = execDcbi a b s := rfl
theorem exec_dcbst (a b : BitVec 5) : exec (.dcbst a b) s = execDcbst a b s := rfl
theorem exec_dcbt (a b : BitVec 5) : exec (.dcbt a b) s = execDcbt a b s := rfl
theorem exec_dcbtst (a b : BitVec 5) : exec (.dcbtst a b) s = execDcbtst a b s := rfl
theorem exec_dcbz (a b : BitVec 5) : exec (.dcbz a b) s = execDcbz a b s := rfl
theorem exec_icbi (a b : BitVec 5) : exec (.icbi a b) s = execIcbi a b s := rfl
theorem exec_mfsr (d : BitVec 5) (sr : BitVec 4) : exec (.mfsr d sr) s = execMfsr d sr s := rfl
theorem exec_mfsrin (d b : BitVec 5) : exec (.mfsrin d b) s = execMfsrin d b s := rfl
theorem exec_mtsr (src : BitVec 5) (sr : BitVec 4) : exec (.mtsr src sr) s = execMtsr src sr s := rfl
theorem exec_mtsrin (src b : BitVec 5) : exec (.mtsrin src b) s = execMtsrin src b s := rfl
theorem exec_tlbie (b : BitVec 5) : exec (.tlbie b) s = execTlbie b s := rfl
theorem exec_tlbsync : exec (.tlbsync) s = execTlbsync s := rfl
theorem exec_tlbsync_b31 : exec (.tlbsync_b31) s = execTlbsyncB31 s := rfl
theorem exec_eciwx (d a b : BitVec 5) : exec (.eciwx d a b) s = execEciwx d a b s := rfl
theorem exec_ecowx (src a b : BitVec 5) : exec (.ecowx src a b) s = execEcowx src a b s := rfl

end Machine

end Sys2Proof
end

