-- ==== Sys2Proof/Laws/State.lean ====
section
/-! SUPPORT. One lemma per field per update of State, each true by unfolding, so that no later proof unfolds a record update; and the reads that an update leaves alone. -/

namespace Sys2Proof.Machine

variable (s : State)

/-! ### setR -/

@[simp] theorem State.setR_gpr (i : BitVec 5) (v : Word) : (s.setR i v).gpr = s.gpr.set i.toNat v := rfl
@[simp] theorem State.setR_fpr (i : BitVec 5) (v : Word) : (s.setR i v).fpr = s.fpr := rfl
@[simp] theorem State.setR_cr (i : BitVec 5) (v : Word) : (s.setR i v).cr = s.cr := rfl
@[simp] theorem State.setR_xer (i : BitVec 5) (v : Word) : (s.setR i v).xer = s.xer := rfl
@[simp] theorem State.setR_lr (i : BitVec 5) (v : Word) : (s.setR i v).lr = s.lr := rfl
@[simp] theorem State.setR_ctr (i : BitVec 5) (v : Word) : (s.setR i v).ctr = s.ctr := rfl
@[simp] theorem State.setR_pc (i : BitVec 5) (v : Word) : (s.setR i v).pc = s.pc := rfl
@[simp] theorem State.setR_fpscr (i : BitVec 5) (v : Word) : (s.setR i v).fpscr = s.fpscr := rfl
@[simp] theorem State.setR_msr (i : BitVec 5) (v : Word) : (s.setR i v).msr = s.msr := rfl
@[simp] theorem State.setR_srr0 (i : BitVec 5) (v : Word) : (s.setR i v).srr0 = s.srr0 := rfl
@[simp] theorem State.setR_srr1 (i : BitVec 5) (v : Word) : (s.setR i v).srr1 = s.srr1 := rfl
@[simp] theorem State.setR_dar (i : BitVec 5) (v : Word) : (s.setR i v).dar = s.dar := rfl
@[simp] theorem State.setR_dsisr (i : BitVec 5) (v : Word) : (s.setR i v).dsisr = s.dsisr := rfl
@[simp] theorem State.setR_sprg (i : BitVec 5) (v : Word) : (s.setR i v).sprg = s.sprg := rfl
@[simp] theorem State.setR_dec (i : BitVec 5) (v : Word) : (s.setR i v).dec = s.dec := rfl
@[simp] theorem State.setR_tb (i : BitVec 5) (v : Word) : (s.setR i v).tb = s.tb := rfl
@[simp] theorem State.setR_pvr (i : BitVec 5) (v : Word) : (s.setR i v).pvr = s.pvr := rfl
@[simp] theorem State.setR_pir (i : BitVec 5) (v : Word) : (s.setR i v).pir = s.pir := rfl
@[simp] theorem State.setR_hid0 (i : BitVec 5) (v : Word) : (s.setR i v).hid0 = s.hid0 := rfl
@[simp] theorem State.setR_iabr (i : BitVec 5) (v : Word) : (s.setR i v).iabr = s.iabr := rfl
@[simp] theorem State.setR_dabr (i : BitVec 5) (v : Word) : (s.setR i v).dabr = s.dabr := rfl
@[simp] theorem State.setR_ear (i : BitVec 5) (v : Word) : (s.setR i v).ear = s.ear := rfl
@[simp] theorem State.setR_sdr1 (i : BitVec 5) (v : Word) : (s.setR i v).sdr1 = s.sdr1 := rfl
@[simp] theorem State.setR_bat (i : BitVec 5) (v : Word) : (s.setR i v).bat = s.bat := rfl
@[simp] theorem State.setR_sr (i : BitVec 5) (v : Word) : (s.setR i v).sr = s.sr := rfl
@[simp] theorem State.setR_mmcr0 (i : BitVec 5) (v : Word) : (s.setR i v).mmcr0 = s.mmcr0 := rfl
@[simp] theorem State.setR_pmc1 (i : BitVec 5) (v : Word) : (s.setR i v).pmc1 = s.pmc1 := rfl
@[simp] theorem State.setR_pmc2 (i : BitVec 5) (v : Word) : (s.setR i v).pmc2 = s.pmc2 := rfl
@[simp] theorem State.setR_sia (i : BitVec 5) (v : Word) : (s.setR i v).sia = s.sia := rfl
@[simp] theorem State.setR_sda (i : BitVec 5) (v : Word) : (s.setR i v).sda = s.sda := rfl
@[simp] theorem State.setR_thresholdShadow (i : BitVec 5) (v : Word) : (s.setR i v).thresholdShadow = s.thresholdShadow := rfl
@[simp] theorem State.setR_marked (i : BitVec 5) (v : Word) : (s.setR i v).marked = s.marked := rfl
@[simp] theorem State.setR_reserve (i : BitVec 5) (v : Word) : (s.setR i v).reserve = s.reserve := rfl
@[simp] theorem State.setR_reserveAddr (i : BitVec 5) (v : Word) : (s.setR i v).reserveAddr = s.reserveAddr := rfl
@[simp] theorem State.setR_intPin (i : BitVec 5) (v : Word) : (s.setR i v).intPin = s.intPin := rfl
@[simp] theorem State.setR_smiPin (i : BitVec 5) (v : Word) : (s.setR i v).smiPin = s.smiPin := rfl
@[simp] theorem State.setR_tbenPin (i : BitVec 5) (v : Word) : (s.setR i v).tbenPin = s.tbenPin := rfl
@[simp] theorem State.setR_hresetPin (i : BitVec 5) (v : Word) : (s.setR i v).hresetPin = s.hresetPin := rfl
@[simp] theorem State.setR_decPending (i : BitVec 5) (v : Word) : (s.setR i v).decPending = s.decPending := rfl
@[simp] theorem State.setR_pmiPending (i : BitVec 5) (v : Word) : (s.setR i v).pmiPending = s.pmiPending := rfl
@[simp] theorem State.setR_pmSignaled (i : BitVec 5) (v : Word) : (s.setR i v).pmSignaled = s.pmSignaled := rfl
@[simp] theorem State.setR_everSignaled (i : BitVec 5) (v : Word) : (s.setR i v).everSignaled = s.everSignaled := rfl
@[simp] theorem State.setR_sresetPending (i : BitVec 5) (v : Word) : (s.setR i v).sresetPending = s.sresetPending := rfl
@[simp] theorem State.setR_machineChecks (i : BitVec 5) (v : Word) : (s.setR i v).machineChecks = s.machineChecks := rfl
@[simp] theorem State.setR_checkstop (i : BitVec 5) (v : Word) : (s.setR i v).checkstop = s.checkstop := rfl
@[simp] theorem State.setR_mem (i : BitVec 5) (v : Word) : (s.setR i v).mem = s.mem := rfl
@[simp] theorem State.setR_memMap (i : BitVec 5) (v : Word) : (s.setR i v).memMap = s.memMap := rfl
@[simp] theorem State.setR_stale (i : BitVec 5) (v : Word) : (s.setR i v).stale = s.stale := rfl
@[simp] theorem State.setR_tbRose (i : BitVec 5) (v : Word) : (s.setR i v).tbRose = s.tbRose := rfl
@[simp] theorem State.setR_lastCompleted (i : BitVec 5) (v : Word) : (s.setR i v).lastCompleted = s.lastCompleted := rfl
@[simp] theorem State.setR_accesses (i : BitVec 5) (v : Word) : (s.setR i v).accesses = s.accesses := rfl
@[simp] theorem State.setR_pmc1Cause (i : BitVec 5) (v : Word) : (s.setR i v).pmc1Cause = s.pmc1Cause := rfl
@[simp] theorem State.setR_pmc2Cause (i : BitVec 5) (v : Word) : (s.setR i v).pmc2Cause = s.pmc2Cause := rfl
@[simp] theorem State.setR_busLog (i : BitVec 5) (v : Word) : (s.setR i v).busLog = s.busLog := rfl
@[simp] theorem State.setR_draws (i : BitVec 5) (v : Word) : (s.setR i v).draws = s.draws := rfl
@[simp] theorem State.setR_schedule (i : BitVec 5) (v : Word) : (s.setR i v).schedule = s.schedule := rfl
@[simp] theorem State.setR_taken (i : BitVec 5) (v : Word) : (s.setR i v).taken = s.taken := rfl
@[simp] theorem State.setR_f (i : BitVec 5) (v : Word) (j : BitVec 5) : (s.setR i v).f j = s.f j := rfl
@[simp] theorem State.setR_byteAt (i : BitVec 5) (v : Word) (x : Word) : (s.setR i v).byteAt x = s.byteAt x := rfl
@[simp] theorem State.setR_crBit (i : BitVec 5) (v : Word) (j : BitVec 5) : (s.setR i v).crBit j = s.crBit j := rfl
@[simp] theorem State.setR_watched (i : BitVec 5) (v : Word) (st : Bool) (x : Word) (k : Nat) : (s.setR i v).watched st x k = s.watched st x k := rfl

/-! ### setF -/

@[simp] theorem State.setF_gpr (i : BitVec 5) (v : Dword) : (s.setF i v).gpr = s.gpr := rfl
@[simp] theorem State.setF_fpr (i : BitVec 5) (v : Dword) : (s.setF i v).fpr = s.fpr.set i.toNat v := rfl
@[simp] theorem State.setF_cr (i : BitVec 5) (v : Dword) : (s.setF i v).cr = s.cr := rfl
@[simp] theorem State.setF_xer (i : BitVec 5) (v : Dword) : (s.setF i v).xer = s.xer := rfl
@[simp] theorem State.setF_lr (i : BitVec 5) (v : Dword) : (s.setF i v).lr = s.lr := rfl
@[simp] theorem State.setF_ctr (i : BitVec 5) (v : Dword) : (s.setF i v).ctr = s.ctr := rfl
@[simp] theorem State.setF_pc (i : BitVec 5) (v : Dword) : (s.setF i v).pc = s.pc := rfl
@[simp] theorem State.setF_fpscr (i : BitVec 5) (v : Dword) : (s.setF i v).fpscr = s.fpscr := rfl
@[simp] theorem State.setF_msr (i : BitVec 5) (v : Dword) : (s.setF i v).msr = s.msr := rfl
@[simp] theorem State.setF_srr0 (i : BitVec 5) (v : Dword) : (s.setF i v).srr0 = s.srr0 := rfl
@[simp] theorem State.setF_srr1 (i : BitVec 5) (v : Dword) : (s.setF i v).srr1 = s.srr1 := rfl
@[simp] theorem State.setF_dar (i : BitVec 5) (v : Dword) : (s.setF i v).dar = s.dar := rfl
@[simp] theorem State.setF_dsisr (i : BitVec 5) (v : Dword) : (s.setF i v).dsisr = s.dsisr := rfl
@[simp] theorem State.setF_sprg (i : BitVec 5) (v : Dword) : (s.setF i v).sprg = s.sprg := rfl
@[simp] theorem State.setF_dec (i : BitVec 5) (v : Dword) : (s.setF i v).dec = s.dec := rfl
@[simp] theorem State.setF_tb (i : BitVec 5) (v : Dword) : (s.setF i v).tb = s.tb := rfl
@[simp] theorem State.setF_pvr (i : BitVec 5) (v : Dword) : (s.setF i v).pvr = s.pvr := rfl
@[simp] theorem State.setF_pir (i : BitVec 5) (v : Dword) : (s.setF i v).pir = s.pir := rfl
@[simp] theorem State.setF_hid0 (i : BitVec 5) (v : Dword) : (s.setF i v).hid0 = s.hid0 := rfl
@[simp] theorem State.setF_iabr (i : BitVec 5) (v : Dword) : (s.setF i v).iabr = s.iabr := rfl
@[simp] theorem State.setF_dabr (i : BitVec 5) (v : Dword) : (s.setF i v).dabr = s.dabr := rfl
@[simp] theorem State.setF_ear (i : BitVec 5) (v : Dword) : (s.setF i v).ear = s.ear := rfl
@[simp] theorem State.setF_sdr1 (i : BitVec 5) (v : Dword) : (s.setF i v).sdr1 = s.sdr1 := rfl
@[simp] theorem State.setF_bat (i : BitVec 5) (v : Dword) : (s.setF i v).bat = s.bat := rfl
@[simp] theorem State.setF_sr (i : BitVec 5) (v : Dword) : (s.setF i v).sr = s.sr := rfl
@[simp] theorem State.setF_mmcr0 (i : BitVec 5) (v : Dword) : (s.setF i v).mmcr0 = s.mmcr0 := rfl
@[simp] theorem State.setF_pmc1 (i : BitVec 5) (v : Dword) : (s.setF i v).pmc1 = s.pmc1 := rfl
@[simp] theorem State.setF_pmc2 (i : BitVec 5) (v : Dword) : (s.setF i v).pmc2 = s.pmc2 := rfl
@[simp] theorem State.setF_sia (i : BitVec 5) (v : Dword) : (s.setF i v).sia = s.sia := rfl
@[simp] theorem State.setF_sda (i : BitVec 5) (v : Dword) : (s.setF i v).sda = s.sda := rfl
@[simp] theorem State.setF_thresholdShadow (i : BitVec 5) (v : Dword) : (s.setF i v).thresholdShadow = s.thresholdShadow := rfl
@[simp] theorem State.setF_marked (i : BitVec 5) (v : Dword) : (s.setF i v).marked = s.marked := rfl
@[simp] theorem State.setF_reserve (i : BitVec 5) (v : Dword) : (s.setF i v).reserve = s.reserve := rfl
@[simp] theorem State.setF_reserveAddr (i : BitVec 5) (v : Dword) : (s.setF i v).reserveAddr = s.reserveAddr := rfl
@[simp] theorem State.setF_intPin (i : BitVec 5) (v : Dword) : (s.setF i v).intPin = s.intPin := rfl
@[simp] theorem State.setF_smiPin (i : BitVec 5) (v : Dword) : (s.setF i v).smiPin = s.smiPin := rfl
@[simp] theorem State.setF_tbenPin (i : BitVec 5) (v : Dword) : (s.setF i v).tbenPin = s.tbenPin := rfl
@[simp] theorem State.setF_hresetPin (i : BitVec 5) (v : Dword) : (s.setF i v).hresetPin = s.hresetPin := rfl
@[simp] theorem State.setF_decPending (i : BitVec 5) (v : Dword) : (s.setF i v).decPending = s.decPending := rfl
@[simp] theorem State.setF_pmiPending (i : BitVec 5) (v : Dword) : (s.setF i v).pmiPending = s.pmiPending := rfl
@[simp] theorem State.setF_pmSignaled (i : BitVec 5) (v : Dword) : (s.setF i v).pmSignaled = s.pmSignaled := rfl
@[simp] theorem State.setF_everSignaled (i : BitVec 5) (v : Dword) : (s.setF i v).everSignaled = s.everSignaled := rfl
@[simp] theorem State.setF_sresetPending (i : BitVec 5) (v : Dword) : (s.setF i v).sresetPending = s.sresetPending := rfl
@[simp] theorem State.setF_machineChecks (i : BitVec 5) (v : Dword) : (s.setF i v).machineChecks = s.machineChecks := rfl
@[simp] theorem State.setF_checkstop (i : BitVec 5) (v : Dword) : (s.setF i v).checkstop = s.checkstop := rfl
@[simp] theorem State.setF_mem (i : BitVec 5) (v : Dword) : (s.setF i v).mem = s.mem := rfl
@[simp] theorem State.setF_memMap (i : BitVec 5) (v : Dword) : (s.setF i v).memMap = s.memMap := rfl
@[simp] theorem State.setF_stale (i : BitVec 5) (v : Dword) : (s.setF i v).stale = s.stale := rfl
@[simp] theorem State.setF_tbRose (i : BitVec 5) (v : Dword) : (s.setF i v).tbRose = s.tbRose := rfl
@[simp] theorem State.setF_lastCompleted (i : BitVec 5) (v : Dword) : (s.setF i v).lastCompleted = s.lastCompleted := rfl
@[simp] theorem State.setF_accesses (i : BitVec 5) (v : Dword) : (s.setF i v).accesses = s.accesses := rfl
@[simp] theorem State.setF_pmc1Cause (i : BitVec 5) (v : Dword) : (s.setF i v).pmc1Cause = s.pmc1Cause := rfl
@[simp] theorem State.setF_pmc2Cause (i : BitVec 5) (v : Dword) : (s.setF i v).pmc2Cause = s.pmc2Cause := rfl
@[simp] theorem State.setF_busLog (i : BitVec 5) (v : Dword) : (s.setF i v).busLog = s.busLog := rfl
@[simp] theorem State.setF_draws (i : BitVec 5) (v : Dword) : (s.setF i v).draws = s.draws := rfl
@[simp] theorem State.setF_schedule (i : BitVec 5) (v : Dword) : (s.setF i v).schedule = s.schedule := rfl
@[simp] theorem State.setF_taken (i : BitVec 5) (v : Dword) : (s.setF i v).taken = s.taken := rfl
@[simp] theorem State.setF_r (i : BitVec 5) (v : Dword) (j : BitVec 5) : (s.setF i v).r j = s.r j := rfl
@[simp] theorem State.setF_base (i : BitVec 5) (v : Dword) (j : BitVec 5) : (s.setF i v).base j = s.base j := rfl
@[simp] theorem State.setF_byteAt (i : BitVec 5) (v : Dword) (x : Word) : (s.setF i v).byteAt x = s.byteAt x := rfl
@[simp] theorem State.setF_crBit (i : BitVec 5) (v : Dword) (j : BitVec 5) : (s.setF i v).crBit j = s.crBit j := rfl
@[simp] theorem State.setF_watched (i : BitVec 5) (v : Dword) (st : Bool) (x : Word) (k : Nat) : (s.setF i v).watched st x k = s.watched st x k := rfl

/-! ### advance -/

@[simp] theorem State.advance_gpr : (s.advance).gpr = s.gpr := rfl
@[simp] theorem State.advance_fpr : (s.advance).fpr = s.fpr := rfl
@[simp] theorem State.advance_cr : (s.advance).cr = s.cr := rfl
@[simp] theorem State.advance_xer : (s.advance).xer = s.xer := rfl
@[simp] theorem State.advance_lr : (s.advance).lr = s.lr := rfl
@[simp] theorem State.advance_ctr : (s.advance).ctr = s.ctr := rfl
@[simp] theorem State.advance_pc : (s.advance).pc = s.pc + 4 := rfl
@[simp] theorem State.advance_fpscr : (s.advance).fpscr = s.fpscr := rfl
@[simp] theorem State.advance_msr : (s.advance).msr = s.msr := rfl
@[simp] theorem State.advance_srr0 : (s.advance).srr0 = s.srr0 := rfl
@[simp] theorem State.advance_srr1 : (s.advance).srr1 = s.srr1 := rfl
@[simp] theorem State.advance_dar : (s.advance).dar = s.dar := rfl
@[simp] theorem State.advance_dsisr : (s.advance).dsisr = s.dsisr := rfl
@[simp] theorem State.advance_sprg : (s.advance).sprg = s.sprg := rfl
@[simp] theorem State.advance_dec : (s.advance).dec = s.dec := rfl
@[simp] theorem State.advance_tb : (s.advance).tb = s.tb := rfl
@[simp] theorem State.advance_pvr : (s.advance).pvr = s.pvr := rfl
@[simp] theorem State.advance_pir : (s.advance).pir = s.pir := rfl
@[simp] theorem State.advance_hid0 : (s.advance).hid0 = s.hid0 := rfl
@[simp] theorem State.advance_iabr : (s.advance).iabr = s.iabr := rfl
@[simp] theorem State.advance_dabr : (s.advance).dabr = s.dabr := rfl
@[simp] theorem State.advance_ear : (s.advance).ear = s.ear := rfl
@[simp] theorem State.advance_sdr1 : (s.advance).sdr1 = s.sdr1 := rfl
@[simp] theorem State.advance_bat : (s.advance).bat = s.bat := rfl
@[simp] theorem State.advance_sr : (s.advance).sr = s.sr := rfl
@[simp] theorem State.advance_mmcr0 : (s.advance).mmcr0 = s.mmcr0 := rfl
@[simp] theorem State.advance_pmc1 : (s.advance).pmc1 = s.pmc1 := rfl
@[simp] theorem State.advance_pmc2 : (s.advance).pmc2 = s.pmc2 := rfl
@[simp] theorem State.advance_sia : (s.advance).sia = s.sia := rfl
@[simp] theorem State.advance_sda : (s.advance).sda = s.sda := rfl
@[simp] theorem State.advance_thresholdShadow : (s.advance).thresholdShadow = s.thresholdShadow := rfl
@[simp] theorem State.advance_marked : (s.advance).marked = s.marked := rfl
@[simp] theorem State.advance_reserve : (s.advance).reserve = s.reserve := rfl
@[simp] theorem State.advance_reserveAddr : (s.advance).reserveAddr = s.reserveAddr := rfl
@[simp] theorem State.advance_intPin : (s.advance).intPin = s.intPin := rfl
@[simp] theorem State.advance_smiPin : (s.advance).smiPin = s.smiPin := rfl
@[simp] theorem State.advance_tbenPin : (s.advance).tbenPin = s.tbenPin := rfl
@[simp] theorem State.advance_hresetPin : (s.advance).hresetPin = s.hresetPin := rfl
@[simp] theorem State.advance_decPending : (s.advance).decPending = s.decPending := rfl
@[simp] theorem State.advance_pmiPending : (s.advance).pmiPending = s.pmiPending := rfl
@[simp] theorem State.advance_pmSignaled : (s.advance).pmSignaled = s.pmSignaled := rfl
@[simp] theorem State.advance_everSignaled : (s.advance).everSignaled = s.everSignaled := rfl
@[simp] theorem State.advance_sresetPending : (s.advance).sresetPending = s.sresetPending := rfl
@[simp] theorem State.advance_machineChecks : (s.advance).machineChecks = s.machineChecks := rfl
@[simp] theorem State.advance_checkstop : (s.advance).checkstop = s.checkstop := rfl
@[simp] theorem State.advance_mem : (s.advance).mem = s.mem := rfl
@[simp] theorem State.advance_memMap : (s.advance).memMap = s.memMap := rfl
@[simp] theorem State.advance_stale : (s.advance).stale = s.stale := rfl
@[simp] theorem State.advance_tbRose : (s.advance).tbRose = s.tbRose := rfl
@[simp] theorem State.advance_lastCompleted : (s.advance).lastCompleted = s.lastCompleted := rfl
@[simp] theorem State.advance_accesses : (s.advance).accesses = s.accesses := rfl
@[simp] theorem State.advance_pmc1Cause : (s.advance).pmc1Cause = s.pmc1Cause := rfl
@[simp] theorem State.advance_pmc2Cause : (s.advance).pmc2Cause = s.pmc2Cause := rfl
@[simp] theorem State.advance_busLog : (s.advance).busLog = s.busLog := rfl
@[simp] theorem State.advance_draws : (s.advance).draws = s.draws := rfl
@[simp] theorem State.advance_schedule : (s.advance).schedule = s.schedule := rfl
@[simp] theorem State.advance_taken : (s.advance).taken = s.taken := rfl
@[simp] theorem State.advance_r (j : BitVec 5) : (s.advance).r j = s.r j := rfl
@[simp] theorem State.advance_base (j : BitVec 5) : (s.advance).base j = s.base j := rfl
@[simp] theorem State.advance_f (j : BitVec 5) : (s.advance).f j = s.f j := rfl
@[simp] theorem State.advance_byteAt (x : Word) : (s.advance).byteAt x = s.byteAt x := rfl
@[simp] theorem State.advance_crBit (j : BitVec 5) : (s.advance).crBit j = s.crBit j := rfl
@[simp] theorem State.advance_watched (st : Bool) (x : Word) (k : Nat) : (s.advance).watched st x k = s.watched st x k := rfl

/-! ### goto -/

@[simp] theorem State.goto_gpr (a : Word) : (s.goto a).gpr = s.gpr := rfl
@[simp] theorem State.goto_fpr (a : Word) : (s.goto a).fpr = s.fpr := rfl
@[simp] theorem State.goto_cr (a : Word) : (s.goto a).cr = s.cr := rfl
@[simp] theorem State.goto_xer (a : Word) : (s.goto a).xer = s.xer := rfl
@[simp] theorem State.goto_lr (a : Word) : (s.goto a).lr = s.lr := rfl
@[simp] theorem State.goto_ctr (a : Word) : (s.goto a).ctr = s.ctr := rfl
@[simp] theorem State.goto_pc (a : Word) : (s.goto a).pc = wordAligned a := rfl
@[simp] theorem State.goto_fpscr (a : Word) : (s.goto a).fpscr = s.fpscr := rfl
@[simp] theorem State.goto_msr (a : Word) : (s.goto a).msr = s.msr := rfl
@[simp] theorem State.goto_srr0 (a : Word) : (s.goto a).srr0 = s.srr0 := rfl
@[simp] theorem State.goto_srr1 (a : Word) : (s.goto a).srr1 = s.srr1 := rfl
@[simp] theorem State.goto_dar (a : Word) : (s.goto a).dar = s.dar := rfl
@[simp] theorem State.goto_dsisr (a : Word) : (s.goto a).dsisr = s.dsisr := rfl
@[simp] theorem State.goto_sprg (a : Word) : (s.goto a).sprg = s.sprg := rfl
@[simp] theorem State.goto_dec (a : Word) : (s.goto a).dec = s.dec := rfl
@[simp] theorem State.goto_tb (a : Word) : (s.goto a).tb = s.tb := rfl
@[simp] theorem State.goto_pvr (a : Word) : (s.goto a).pvr = s.pvr := rfl
@[simp] theorem State.goto_pir (a : Word) : (s.goto a).pir = s.pir := rfl
@[simp] theorem State.goto_hid0 (a : Word) : (s.goto a).hid0 = s.hid0 := rfl
@[simp] theorem State.goto_iabr (a : Word) : (s.goto a).iabr = s.iabr := rfl
@[simp] theorem State.goto_dabr (a : Word) : (s.goto a).dabr = s.dabr := rfl
@[simp] theorem State.goto_ear (a : Word) : (s.goto a).ear = s.ear := rfl
@[simp] theorem State.goto_sdr1 (a : Word) : (s.goto a).sdr1 = s.sdr1 := rfl
@[simp] theorem State.goto_bat (a : Word) : (s.goto a).bat = s.bat := rfl
@[simp] theorem State.goto_sr (a : Word) : (s.goto a).sr = s.sr := rfl
@[simp] theorem State.goto_mmcr0 (a : Word) : (s.goto a).mmcr0 = s.mmcr0 := rfl
@[simp] theorem State.goto_pmc1 (a : Word) : (s.goto a).pmc1 = s.pmc1 := rfl
@[simp] theorem State.goto_pmc2 (a : Word) : (s.goto a).pmc2 = s.pmc2 := rfl
@[simp] theorem State.goto_sia (a : Word) : (s.goto a).sia = s.sia := rfl
@[simp] theorem State.goto_sda (a : Word) : (s.goto a).sda = s.sda := rfl
@[simp] theorem State.goto_thresholdShadow (a : Word) : (s.goto a).thresholdShadow = s.thresholdShadow := rfl
@[simp] theorem State.goto_marked (a : Word) : (s.goto a).marked = s.marked := rfl
@[simp] theorem State.goto_reserve (a : Word) : (s.goto a).reserve = s.reserve := rfl
@[simp] theorem State.goto_reserveAddr (a : Word) : (s.goto a).reserveAddr = s.reserveAddr := rfl
@[simp] theorem State.goto_intPin (a : Word) : (s.goto a).intPin = s.intPin := rfl
@[simp] theorem State.goto_smiPin (a : Word) : (s.goto a).smiPin = s.smiPin := rfl
@[simp] theorem State.goto_tbenPin (a : Word) : (s.goto a).tbenPin = s.tbenPin := rfl
@[simp] theorem State.goto_hresetPin (a : Word) : (s.goto a).hresetPin = s.hresetPin := rfl
@[simp] theorem State.goto_decPending (a : Word) : (s.goto a).decPending = s.decPending := rfl
@[simp] theorem State.goto_pmiPending (a : Word) : (s.goto a).pmiPending = s.pmiPending := rfl
@[simp] theorem State.goto_pmSignaled (a : Word) : (s.goto a).pmSignaled = s.pmSignaled := rfl
@[simp] theorem State.goto_everSignaled (a : Word) : (s.goto a).everSignaled = s.everSignaled := rfl
@[simp] theorem State.goto_sresetPending (a : Word) : (s.goto a).sresetPending = s.sresetPending := rfl
@[simp] theorem State.goto_machineChecks (a : Word) : (s.goto a).machineChecks = s.machineChecks := rfl
@[simp] theorem State.goto_checkstop (a : Word) : (s.goto a).checkstop = s.checkstop := rfl
@[simp] theorem State.goto_mem (a : Word) : (s.goto a).mem = s.mem := rfl
@[simp] theorem State.goto_memMap (a : Word) : (s.goto a).memMap = s.memMap := rfl
@[simp] theorem State.goto_stale (a : Word) : (s.goto a).stale = s.stale := rfl
@[simp] theorem State.goto_tbRose (a : Word) : (s.goto a).tbRose = s.tbRose := rfl
@[simp] theorem State.goto_lastCompleted (a : Word) : (s.goto a).lastCompleted = s.lastCompleted := rfl
@[simp] theorem State.goto_accesses (a : Word) : (s.goto a).accesses = s.accesses := rfl
@[simp] theorem State.goto_pmc1Cause (a : Word) : (s.goto a).pmc1Cause = s.pmc1Cause := rfl
@[simp] theorem State.goto_pmc2Cause (a : Word) : (s.goto a).pmc2Cause = s.pmc2Cause := rfl
@[simp] theorem State.goto_busLog (a : Word) : (s.goto a).busLog = s.busLog := rfl
@[simp] theorem State.goto_draws (a : Word) : (s.goto a).draws = s.draws := rfl
@[simp] theorem State.goto_schedule (a : Word) : (s.goto a).schedule = s.schedule := rfl
@[simp] theorem State.goto_taken (a : Word) : (s.goto a).taken = s.taken := rfl
@[simp] theorem State.goto_r (a : Word) (j : BitVec 5) : (s.goto a).r j = s.r j := rfl
@[simp] theorem State.goto_base (a : Word) (j : BitVec 5) : (s.goto a).base j = s.base j := rfl
@[simp] theorem State.goto_f (a : Word) (j : BitVec 5) : (s.goto a).f j = s.f j := rfl
@[simp] theorem State.goto_byteAt (a : Word) (x : Word) : (s.goto a).byteAt x = s.byteAt x := rfl
@[simp] theorem State.goto_crBit (a : Word) (j : BitVec 5) : (s.goto a).crBit j = s.crBit j := rfl
@[simp] theorem State.goto_watched (a : Word) (st : Bool) (x : Word) (k : Nat) : (s.goto a).watched st x k = s.watched st x k := rfl

/-! ### drawn -/

@[simp] theorem State.drawn_gpr (k : Nat) : (s.drawn k).gpr = s.gpr := rfl
@[simp] theorem State.drawn_fpr (k : Nat) : (s.drawn k).fpr = s.fpr := rfl
@[simp] theorem State.drawn_cr (k : Nat) : (s.drawn k).cr = s.cr := rfl
@[simp] theorem State.drawn_xer (k : Nat) : (s.drawn k).xer = s.xer := rfl
@[simp] theorem State.drawn_lr (k : Nat) : (s.drawn k).lr = s.lr := rfl
@[simp] theorem State.drawn_ctr (k : Nat) : (s.drawn k).ctr = s.ctr := rfl
@[simp] theorem State.drawn_pc (k : Nat) : (s.drawn k).pc = s.pc := rfl
@[simp] theorem State.drawn_fpscr (k : Nat) : (s.drawn k).fpscr = s.fpscr := rfl
@[simp] theorem State.drawn_msr (k : Nat) : (s.drawn k).msr = s.msr := rfl
@[simp] theorem State.drawn_srr0 (k : Nat) : (s.drawn k).srr0 = s.srr0 := rfl
@[simp] theorem State.drawn_srr1 (k : Nat) : (s.drawn k).srr1 = s.srr1 := rfl
@[simp] theorem State.drawn_dar (k : Nat) : (s.drawn k).dar = s.dar := rfl
@[simp] theorem State.drawn_dsisr (k : Nat) : (s.drawn k).dsisr = s.dsisr := rfl
@[simp] theorem State.drawn_sprg (k : Nat) : (s.drawn k).sprg = s.sprg := rfl
@[simp] theorem State.drawn_dec (k : Nat) : (s.drawn k).dec = s.dec := rfl
@[simp] theorem State.drawn_tb (k : Nat) : (s.drawn k).tb = s.tb := rfl
@[simp] theorem State.drawn_pvr (k : Nat) : (s.drawn k).pvr = s.pvr := rfl
@[simp] theorem State.drawn_pir (k : Nat) : (s.drawn k).pir = s.pir := rfl
@[simp] theorem State.drawn_hid0 (k : Nat) : (s.drawn k).hid0 = s.hid0 := rfl
@[simp] theorem State.drawn_iabr (k : Nat) : (s.drawn k).iabr = s.iabr := rfl
@[simp] theorem State.drawn_dabr (k : Nat) : (s.drawn k).dabr = s.dabr := rfl
@[simp] theorem State.drawn_ear (k : Nat) : (s.drawn k).ear = s.ear := rfl
@[simp] theorem State.drawn_sdr1 (k : Nat) : (s.drawn k).sdr1 = s.sdr1 := rfl
@[simp] theorem State.drawn_bat (k : Nat) : (s.drawn k).bat = s.bat := rfl
@[simp] theorem State.drawn_sr (k : Nat) : (s.drawn k).sr = s.sr := rfl
@[simp] theorem State.drawn_mmcr0 (k : Nat) : (s.drawn k).mmcr0 = s.mmcr0 := rfl
@[simp] theorem State.drawn_pmc1 (k : Nat) : (s.drawn k).pmc1 = s.pmc1 := rfl
@[simp] theorem State.drawn_pmc2 (k : Nat) : (s.drawn k).pmc2 = s.pmc2 := rfl
@[simp] theorem State.drawn_sia (k : Nat) : (s.drawn k).sia = s.sia := rfl
@[simp] theorem State.drawn_sda (k : Nat) : (s.drawn k).sda = s.sda := rfl
@[simp] theorem State.drawn_thresholdShadow (k : Nat) : (s.drawn k).thresholdShadow = s.thresholdShadow := rfl
@[simp] theorem State.drawn_marked (k : Nat) : (s.drawn k).marked = s.marked := rfl
@[simp] theorem State.drawn_reserve (k : Nat) : (s.drawn k).reserve = s.reserve := rfl
@[simp] theorem State.drawn_reserveAddr (k : Nat) : (s.drawn k).reserveAddr = s.reserveAddr := rfl
@[simp] theorem State.drawn_intPin (k : Nat) : (s.drawn k).intPin = s.intPin := rfl
@[simp] theorem State.drawn_smiPin (k : Nat) : (s.drawn k).smiPin = s.smiPin := rfl
@[simp] theorem State.drawn_tbenPin (k : Nat) : (s.drawn k).tbenPin = s.tbenPin := rfl
@[simp] theorem State.drawn_hresetPin (k : Nat) : (s.drawn k).hresetPin = s.hresetPin := rfl
@[simp] theorem State.drawn_decPending (k : Nat) : (s.drawn k).decPending = s.decPending := rfl
@[simp] theorem State.drawn_pmiPending (k : Nat) : (s.drawn k).pmiPending = s.pmiPending := rfl
@[simp] theorem State.drawn_pmSignaled (k : Nat) : (s.drawn k).pmSignaled = s.pmSignaled := rfl
@[simp] theorem State.drawn_everSignaled (k : Nat) : (s.drawn k).everSignaled = s.everSignaled := rfl
@[simp] theorem State.drawn_sresetPending (k : Nat) : (s.drawn k).sresetPending = s.sresetPending := rfl
@[simp] theorem State.drawn_machineChecks (k : Nat) : (s.drawn k).machineChecks = s.machineChecks := rfl
@[simp] theorem State.drawn_checkstop (k : Nat) : (s.drawn k).checkstop = s.checkstop := rfl
@[simp] theorem State.drawn_mem (k : Nat) : (s.drawn k).mem = s.mem := rfl
@[simp] theorem State.drawn_memMap (k : Nat) : (s.drawn k).memMap = s.memMap := rfl
@[simp] theorem State.drawn_stale (k : Nat) : (s.drawn k).stale = s.stale := rfl
@[simp] theorem State.drawn_tbRose (k : Nat) : (s.drawn k).tbRose = s.tbRose := rfl
@[simp] theorem State.drawn_lastCompleted (k : Nat) : (s.drawn k).lastCompleted = s.lastCompleted := rfl
@[simp] theorem State.drawn_accesses (k : Nat) : (s.drawn k).accesses = s.accesses := rfl
@[simp] theorem State.drawn_pmc1Cause (k : Nat) : (s.drawn k).pmc1Cause = s.pmc1Cause := rfl
@[simp] theorem State.drawn_pmc2Cause (k : Nat) : (s.drawn k).pmc2Cause = s.pmc2Cause := rfl
@[simp] theorem State.drawn_busLog (k : Nat) : (s.drawn k).busLog = s.busLog := rfl
@[simp] theorem State.drawn_draws (k : Nat) : (s.drawn k).draws = s.draws + k := rfl
@[simp] theorem State.drawn_schedule (k : Nat) : (s.drawn k).schedule = s.schedule := rfl
@[simp] theorem State.drawn_taken (k : Nat) : (s.drawn k).taken = s.taken := rfl
@[simp] theorem State.drawn_r (k : Nat) (j : BitVec 5) : (s.drawn k).r j = s.r j := rfl
@[simp] theorem State.drawn_base (k : Nat) (j : BitVec 5) : (s.drawn k).base j = s.base j := rfl
@[simp] theorem State.drawn_f (k : Nat) (j : BitVec 5) : (s.drawn k).f j = s.f j := rfl
@[simp] theorem State.drawn_byteAt (k : Nat) (x : Word) : (s.drawn k).byteAt x = s.byteAt x := rfl
@[simp] theorem State.drawn_crBit (k : Nat) (j : BitVec 5) : (s.drawn k).crBit j = s.crBit j := rfl
@[simp] theorem State.drawn_watched (k : Nat) (st : Bool) (x : Word) (m : Nat) : (s.drawn k).watched st x m = s.watched st x m := rfl

/-! ### setCrField -/

@[simp] theorem State.setCrField_gpr (n : BitVec 3) (v : BitVec 4) : (s.setCrField n v).gpr = s.gpr := rfl
@[simp] theorem State.setCrField_fpr (n : BitVec 3) (v : BitVec 4) : (s.setCrField n v).fpr = s.fpr := rfl
@[simp] theorem State.setCrField_cr (n : BitVec 3) (v : BitVec 4) : (s.setCrField n v).cr = writeField s.cr (4 * n.toNat + 3) v := rfl
@[simp] theorem State.setCrField_xer (n : BitVec 3) (v : BitVec 4) : (s.setCrField n v).xer = s.xer := rfl
@[simp] theorem State.setCrField_lr (n : BitVec 3) (v : BitVec 4) : (s.setCrField n v).lr = s.lr := rfl
@[simp] theorem State.setCrField_ctr (n : BitVec 3) (v : BitVec 4) : (s.setCrField n v).ctr = s.ctr := rfl
@[simp] theorem State.setCrField_pc (n : BitVec 3) (v : BitVec 4) : (s.setCrField n v).pc = s.pc := rfl
@[simp] theorem State.setCrField_fpscr (n : BitVec 3) (v : BitVec 4) : (s.setCrField n v).fpscr = s.fpscr := rfl
@[simp] theorem State.setCrField_msr (n : BitVec 3) (v : BitVec 4) : (s.setCrField n v).msr = s.msr := rfl
@[simp] theorem State.setCrField_srr0 (n : BitVec 3) (v : BitVec 4) : (s.setCrField n v).srr0 = s.srr0 := rfl
@[simp] theorem State.setCrField_srr1 (n : BitVec 3) (v : BitVec 4) : (s.setCrField n v).srr1 = s.srr1 := rfl
@[simp] theorem State.setCrField_dar (n : BitVec 3) (v : BitVec 4) : (s.setCrField n v).dar = s.dar := rfl
@[simp] theorem State.setCrField_dsisr (n : BitVec 3) (v : BitVec 4) : (s.setCrField n v).dsisr = s.dsisr := rfl
@[simp] theorem State.setCrField_sprg (n : BitVec 3) (v : BitVec 4) : (s.setCrField n v).sprg = s.sprg := rfl
@[simp] theorem State.setCrField_dec (n : BitVec 3) (v : BitVec 4) : (s.setCrField n v).dec = s.dec := rfl
@[simp] theorem State.setCrField_tb (n : BitVec 3) (v : BitVec 4) : (s.setCrField n v).tb = s.tb := rfl
@[simp] theorem State.setCrField_pvr (n : BitVec 3) (v : BitVec 4) : (s.setCrField n v).pvr = s.pvr := rfl
@[simp] theorem State.setCrField_pir (n : BitVec 3) (v : BitVec 4) : (s.setCrField n v).pir = s.pir := rfl
@[simp] theorem State.setCrField_hid0 (n : BitVec 3) (v : BitVec 4) : (s.setCrField n v).hid0 = s.hid0 := rfl
@[simp] theorem State.setCrField_iabr (n : BitVec 3) (v : BitVec 4) : (s.setCrField n v).iabr = s.iabr := rfl
@[simp] theorem State.setCrField_dabr (n : BitVec 3) (v : BitVec 4) : (s.setCrField n v).dabr = s.dabr := rfl
@[simp] theorem State.setCrField_ear (n : BitVec 3) (v : BitVec 4) : (s.setCrField n v).ear = s.ear := rfl
@[simp] theorem State.setCrField_sdr1 (n : BitVec 3) (v : BitVec 4) : (s.setCrField n v).sdr1 = s.sdr1 := rfl
@[simp] theorem State.setCrField_bat (n : BitVec 3) (v : BitVec 4) : (s.setCrField n v).bat = s.bat := rfl
@[simp] theorem State.setCrField_sr (n : BitVec 3) (v : BitVec 4) : (s.setCrField n v).sr = s.sr := rfl
@[simp] theorem State.setCrField_mmcr0 (n : BitVec 3) (v : BitVec 4) : (s.setCrField n v).mmcr0 = s.mmcr0 := rfl
@[simp] theorem State.setCrField_pmc1 (n : BitVec 3) (v : BitVec 4) : (s.setCrField n v).pmc1 = s.pmc1 := rfl
@[simp] theorem State.setCrField_pmc2 (n : BitVec 3) (v : BitVec 4) : (s.setCrField n v).pmc2 = s.pmc2 := rfl
@[simp] theorem State.setCrField_sia (n : BitVec 3) (v : BitVec 4) : (s.setCrField n v).sia = s.sia := rfl
@[simp] theorem State.setCrField_sda (n : BitVec 3) (v : BitVec 4) : (s.setCrField n v).sda = s.sda := rfl
@[simp] theorem State.setCrField_thresholdShadow (n : BitVec 3) (v : BitVec 4) : (s.setCrField n v).thresholdShadow = s.thresholdShadow := rfl
@[simp] theorem State.setCrField_marked (n : BitVec 3) (v : BitVec 4) : (s.setCrField n v).marked = s.marked := rfl
@[simp] theorem State.setCrField_reserve (n : BitVec 3) (v : BitVec 4) : (s.setCrField n v).reserve = s.reserve := rfl
@[simp] theorem State.setCrField_reserveAddr (n : BitVec 3) (v : BitVec 4) : (s.setCrField n v).reserveAddr = s.reserveAddr := rfl
@[simp] theorem State.setCrField_intPin (n : BitVec 3) (v : BitVec 4) : (s.setCrField n v).intPin = s.intPin := rfl
@[simp] theorem State.setCrField_smiPin (n : BitVec 3) (v : BitVec 4) : (s.setCrField n v).smiPin = s.smiPin := rfl
@[simp] theorem State.setCrField_tbenPin (n : BitVec 3) (v : BitVec 4) : (s.setCrField n v).tbenPin = s.tbenPin := rfl
@[simp] theorem State.setCrField_hresetPin (n : BitVec 3) (v : BitVec 4) : (s.setCrField n v).hresetPin = s.hresetPin := rfl
@[simp] theorem State.setCrField_decPending (n : BitVec 3) (v : BitVec 4) : (s.setCrField n v).decPending = s.decPending := rfl
@[simp] theorem State.setCrField_pmiPending (n : BitVec 3) (v : BitVec 4) : (s.setCrField n v).pmiPending = s.pmiPending := rfl
@[simp] theorem State.setCrField_pmSignaled (n : BitVec 3) (v : BitVec 4) : (s.setCrField n v).pmSignaled = s.pmSignaled := rfl
@[simp] theorem State.setCrField_everSignaled (n : BitVec 3) (v : BitVec 4) : (s.setCrField n v).everSignaled = s.everSignaled := rfl
@[simp] theorem State.setCrField_sresetPending (n : BitVec 3) (v : BitVec 4) : (s.setCrField n v).sresetPending = s.sresetPending := rfl
@[simp] theorem State.setCrField_machineChecks (n : BitVec 3) (v : BitVec 4) : (s.setCrField n v).machineChecks = s.machineChecks := rfl
@[simp] theorem State.setCrField_checkstop (n : BitVec 3) (v : BitVec 4) : (s.setCrField n v).checkstop = s.checkstop := rfl
@[simp] theorem State.setCrField_mem (n : BitVec 3) (v : BitVec 4) : (s.setCrField n v).mem = s.mem := rfl
@[simp] theorem State.setCrField_memMap (n : BitVec 3) (v : BitVec 4) : (s.setCrField n v).memMap = s.memMap := rfl
@[simp] theorem State.setCrField_stale (n : BitVec 3) (v : BitVec 4) : (s.setCrField n v).stale = s.stale := rfl
@[simp] theorem State.setCrField_tbRose (n : BitVec 3) (v : BitVec 4) : (s.setCrField n v).tbRose = s.tbRose := rfl
@[simp] theorem State.setCrField_lastCompleted (n : BitVec 3) (v : BitVec 4) : (s.setCrField n v).lastCompleted = s.lastCompleted := rfl
@[simp] theorem State.setCrField_accesses (n : BitVec 3) (v : BitVec 4) : (s.setCrField n v).accesses = s.accesses := rfl
@[simp] theorem State.setCrField_pmc1Cause (n : BitVec 3) (v : BitVec 4) : (s.setCrField n v).pmc1Cause = s.pmc1Cause := rfl
@[simp] theorem State.setCrField_pmc2Cause (n : BitVec 3) (v : BitVec 4) : (s.setCrField n v).pmc2Cause = s.pmc2Cause := rfl
@[simp] theorem State.setCrField_busLog (n : BitVec 3) (v : BitVec 4) : (s.setCrField n v).busLog = s.busLog := rfl
@[simp] theorem State.setCrField_draws (n : BitVec 3) (v : BitVec 4) : (s.setCrField n v).draws = s.draws := rfl
@[simp] theorem State.setCrField_schedule (n : BitVec 3) (v : BitVec 4) : (s.setCrField n v).schedule = s.schedule := rfl
@[simp] theorem State.setCrField_taken (n : BitVec 3) (v : BitVec 4) : (s.setCrField n v).taken = s.taken := rfl
@[simp] theorem State.setCrField_r (n : BitVec 3) (v : BitVec 4) (j : BitVec 5) : (s.setCrField n v).r j = s.r j := rfl
@[simp] theorem State.setCrField_base (n : BitVec 3) (v : BitVec 4) (j : BitVec 5) : (s.setCrField n v).base j = s.base j := rfl
@[simp] theorem State.setCrField_f (n : BitVec 3) (v : BitVec 4) (j : BitVec 5) : (s.setCrField n v).f j = s.f j := rfl
@[simp] theorem State.setCrField_byteAt (n : BitVec 3) (v : BitVec 4) (x : Word) : (s.setCrField n v).byteAt x = s.byteAt x := rfl
@[simp] theorem State.setCrField_watched (n : BitVec 3) (v : BitVec 4) (st : Bool) (x : Word) (k : Nat) : (s.setCrField n v).watched st x k = s.watched st x k := rfl

/-! ### setCrBit -/

@[simp] theorem State.setCrBit_gpr (i : BitVec 5) (v : Bool) : (s.setCrBit i v).gpr = s.gpr := rfl
@[simp] theorem State.setCrBit_fpr (i : BitVec 5) (v : Bool) : (s.setCrBit i v).fpr = s.fpr := rfl
@[simp] theorem State.setCrBit_cr (i : BitVec 5) (v : Bool) : (s.setCrBit i v).cr = writeBit s.cr i.toNat v := rfl
@[simp] theorem State.setCrBit_xer (i : BitVec 5) (v : Bool) : (s.setCrBit i v).xer = s.xer := rfl
@[simp] theorem State.setCrBit_lr (i : BitVec 5) (v : Bool) : (s.setCrBit i v).lr = s.lr := rfl
@[simp] theorem State.setCrBit_ctr (i : BitVec 5) (v : Bool) : (s.setCrBit i v).ctr = s.ctr := rfl
@[simp] theorem State.setCrBit_pc (i : BitVec 5) (v : Bool) : (s.setCrBit i v).pc = s.pc := rfl
@[simp] theorem State.setCrBit_fpscr (i : BitVec 5) (v : Bool) : (s.setCrBit i v).fpscr = s.fpscr := rfl
@[simp] theorem State.setCrBit_msr (i : BitVec 5) (v : Bool) : (s.setCrBit i v).msr = s.msr := rfl
@[simp] theorem State.setCrBit_srr0 (i : BitVec 5) (v : Bool) : (s.setCrBit i v).srr0 = s.srr0 := rfl
@[simp] theorem State.setCrBit_srr1 (i : BitVec 5) (v : Bool) : (s.setCrBit i v).srr1 = s.srr1 := rfl
@[simp] theorem State.setCrBit_dar (i : BitVec 5) (v : Bool) : (s.setCrBit i v).dar = s.dar := rfl
@[simp] theorem State.setCrBit_dsisr (i : BitVec 5) (v : Bool) : (s.setCrBit i v).dsisr = s.dsisr := rfl
@[simp] theorem State.setCrBit_sprg (i : BitVec 5) (v : Bool) : (s.setCrBit i v).sprg = s.sprg := rfl
@[simp] theorem State.setCrBit_dec (i : BitVec 5) (v : Bool) : (s.setCrBit i v).dec = s.dec := rfl
@[simp] theorem State.setCrBit_tb (i : BitVec 5) (v : Bool) : (s.setCrBit i v).tb = s.tb := rfl
@[simp] theorem State.setCrBit_pvr (i : BitVec 5) (v : Bool) : (s.setCrBit i v).pvr = s.pvr := rfl
@[simp] theorem State.setCrBit_pir (i : BitVec 5) (v : Bool) : (s.setCrBit i v).pir = s.pir := rfl
@[simp] theorem State.setCrBit_hid0 (i : BitVec 5) (v : Bool) : (s.setCrBit i v).hid0 = s.hid0 := rfl
@[simp] theorem State.setCrBit_iabr (i : BitVec 5) (v : Bool) : (s.setCrBit i v).iabr = s.iabr := rfl
@[simp] theorem State.setCrBit_dabr (i : BitVec 5) (v : Bool) : (s.setCrBit i v).dabr = s.dabr := rfl
@[simp] theorem State.setCrBit_ear (i : BitVec 5) (v : Bool) : (s.setCrBit i v).ear = s.ear := rfl
@[simp] theorem State.setCrBit_sdr1 (i : BitVec 5) (v : Bool) : (s.setCrBit i v).sdr1 = s.sdr1 := rfl
@[simp] theorem State.setCrBit_bat (i : BitVec 5) (v : Bool) : (s.setCrBit i v).bat = s.bat := rfl
@[simp] theorem State.setCrBit_sr (i : BitVec 5) (v : Bool) : (s.setCrBit i v).sr = s.sr := rfl
@[simp] theorem State.setCrBit_mmcr0 (i : BitVec 5) (v : Bool) : (s.setCrBit i v).mmcr0 = s.mmcr0 := rfl
@[simp] theorem State.setCrBit_pmc1 (i : BitVec 5) (v : Bool) : (s.setCrBit i v).pmc1 = s.pmc1 := rfl
@[simp] theorem State.setCrBit_pmc2 (i : BitVec 5) (v : Bool) : (s.setCrBit i v).pmc2 = s.pmc2 := rfl
@[simp] theorem State.setCrBit_sia (i : BitVec 5) (v : Bool) : (s.setCrBit i v).sia = s.sia := rfl
@[simp] theorem State.setCrBit_sda (i : BitVec 5) (v : Bool) : (s.setCrBit i v).sda = s.sda := rfl
@[simp] theorem State.setCrBit_thresholdShadow (i : BitVec 5) (v : Bool) : (s.setCrBit i v).thresholdShadow = s.thresholdShadow := rfl
@[simp] theorem State.setCrBit_marked (i : BitVec 5) (v : Bool) : (s.setCrBit i v).marked = s.marked := rfl
@[simp] theorem State.setCrBit_reserve (i : BitVec 5) (v : Bool) : (s.setCrBit i v).reserve = s.reserve := rfl
@[simp] theorem State.setCrBit_reserveAddr (i : BitVec 5) (v : Bool) : (s.setCrBit i v).reserveAddr = s.reserveAddr := rfl
@[simp] theorem State.setCrBit_intPin (i : BitVec 5) (v : Bool) : (s.setCrBit i v).intPin = s.intPin := rfl
@[simp] theorem State.setCrBit_smiPin (i : BitVec 5) (v : Bool) : (s.setCrBit i v).smiPin = s.smiPin := rfl
@[simp] theorem State.setCrBit_tbenPin (i : BitVec 5) (v : Bool) : (s.setCrBit i v).tbenPin = s.tbenPin := rfl
@[simp] theorem State.setCrBit_hresetPin (i : BitVec 5) (v : Bool) : (s.setCrBit i v).hresetPin = s.hresetPin := rfl
@[simp] theorem State.setCrBit_decPending (i : BitVec 5) (v : Bool) : (s.setCrBit i v).decPending = s.decPending := rfl
@[simp] theorem State.setCrBit_pmiPending (i : BitVec 5) (v : Bool) : (s.setCrBit i v).pmiPending = s.pmiPending := rfl
@[simp] theorem State.setCrBit_pmSignaled (i : BitVec 5) (v : Bool) : (s.setCrBit i v).pmSignaled = s.pmSignaled := rfl
@[simp] theorem State.setCrBit_everSignaled (i : BitVec 5) (v : Bool) : (s.setCrBit i v).everSignaled = s.everSignaled := rfl
@[simp] theorem State.setCrBit_sresetPending (i : BitVec 5) (v : Bool) : (s.setCrBit i v).sresetPending = s.sresetPending := rfl
@[simp] theorem State.setCrBit_machineChecks (i : BitVec 5) (v : Bool) : (s.setCrBit i v).machineChecks = s.machineChecks := rfl
@[simp] theorem State.setCrBit_checkstop (i : BitVec 5) (v : Bool) : (s.setCrBit i v).checkstop = s.checkstop := rfl
@[simp] theorem State.setCrBit_mem (i : BitVec 5) (v : Bool) : (s.setCrBit i v).mem = s.mem := rfl
@[simp] theorem State.setCrBit_memMap (i : BitVec 5) (v : Bool) : (s.setCrBit i v).memMap = s.memMap := rfl
@[simp] theorem State.setCrBit_stale (i : BitVec 5) (v : Bool) : (s.setCrBit i v).stale = s.stale := rfl
@[simp] theorem State.setCrBit_tbRose (i : BitVec 5) (v : Bool) : (s.setCrBit i v).tbRose = s.tbRose := rfl
@[simp] theorem State.setCrBit_lastCompleted (i : BitVec 5) (v : Bool) : (s.setCrBit i v).lastCompleted = s.lastCompleted := rfl
@[simp] theorem State.setCrBit_accesses (i : BitVec 5) (v : Bool) : (s.setCrBit i v).accesses = s.accesses := rfl
@[simp] theorem State.setCrBit_pmc1Cause (i : BitVec 5) (v : Bool) : (s.setCrBit i v).pmc1Cause = s.pmc1Cause := rfl
@[simp] theorem State.setCrBit_pmc2Cause (i : BitVec 5) (v : Bool) : (s.setCrBit i v).pmc2Cause = s.pmc2Cause := rfl
@[simp] theorem State.setCrBit_busLog (i : BitVec 5) (v : Bool) : (s.setCrBit i v).busLog = s.busLog := rfl
@[simp] theorem State.setCrBit_draws (i : BitVec 5) (v : Bool) : (s.setCrBit i v).draws = s.draws := rfl
@[simp] theorem State.setCrBit_schedule (i : BitVec 5) (v : Bool) : (s.setCrBit i v).schedule = s.schedule := rfl
@[simp] theorem State.setCrBit_taken (i : BitVec 5) (v : Bool) : (s.setCrBit i v).taken = s.taken := rfl
@[simp] theorem State.setCrBit_r (i : BitVec 5) (v : Bool) (j : BitVec 5) : (s.setCrBit i v).r j = s.r j := rfl
@[simp] theorem State.setCrBit_base (i : BitVec 5) (v : Bool) (j : BitVec 5) : (s.setCrBit i v).base j = s.base j := rfl
@[simp] theorem State.setCrBit_f (i : BitVec 5) (v : Bool) (j : BitVec 5) : (s.setCrBit i v).f j = s.f j := rfl
@[simp] theorem State.setCrBit_byteAt (i : BitVec 5) (v : Bool) (x : Word) : (s.setCrBit i v).byteAt x = s.byteAt x := rfl
@[simp] theorem State.setCrBit_watched (i : BitVec 5) (v : Bool) (st : Bool) (x : Word) (k : Nat) : (s.setCrBit i v).watched st x k = s.watched st x k := rfl

/-! ### setSegment -/

@[simp] theorem State.setSegment_gpr (n : BitVec 4) (v : Word) : (s.setSegment n v).gpr = s.gpr := rfl
@[simp] theorem State.setSegment_fpr (n : BitVec 4) (v : Word) : (s.setSegment n v).fpr = s.fpr := rfl
@[simp] theorem State.setSegment_cr (n : BitVec 4) (v : Word) : (s.setSegment n v).cr = s.cr := rfl
@[simp] theorem State.setSegment_xer (n : BitVec 4) (v : Word) : (s.setSegment n v).xer = s.xer := rfl
@[simp] theorem State.setSegment_lr (n : BitVec 4) (v : Word) : (s.setSegment n v).lr = s.lr := rfl
@[simp] theorem State.setSegment_ctr (n : BitVec 4) (v : Word) : (s.setSegment n v).ctr = s.ctr := rfl
@[simp] theorem State.setSegment_pc (n : BitVec 4) (v : Word) : (s.setSegment n v).pc = s.pc := rfl
@[simp] theorem State.setSegment_fpscr (n : BitVec 4) (v : Word) : (s.setSegment n v).fpscr = s.fpscr := rfl
@[simp] theorem State.setSegment_msr (n : BitVec 4) (v : Word) : (s.setSegment n v).msr = s.msr := rfl
@[simp] theorem State.setSegment_srr0 (n : BitVec 4) (v : Word) : (s.setSegment n v).srr0 = s.srr0 := rfl
@[simp] theorem State.setSegment_srr1 (n : BitVec 4) (v : Word) : (s.setSegment n v).srr1 = s.srr1 := rfl
@[simp] theorem State.setSegment_dar (n : BitVec 4) (v : Word) : (s.setSegment n v).dar = s.dar := rfl
@[simp] theorem State.setSegment_dsisr (n : BitVec 4) (v : Word) : (s.setSegment n v).dsisr = s.dsisr := rfl
@[simp] theorem State.setSegment_sprg (n : BitVec 4) (v : Word) : (s.setSegment n v).sprg = s.sprg := rfl
@[simp] theorem State.setSegment_dec (n : BitVec 4) (v : Word) : (s.setSegment n v).dec = s.dec := rfl
@[simp] theorem State.setSegment_tb (n : BitVec 4) (v : Word) : (s.setSegment n v).tb = s.tb := rfl
@[simp] theorem State.setSegment_pvr (n : BitVec 4) (v : Word) : (s.setSegment n v).pvr = s.pvr := rfl
@[simp] theorem State.setSegment_pir (n : BitVec 4) (v : Word) : (s.setSegment n v).pir = s.pir := rfl
@[simp] theorem State.setSegment_hid0 (n : BitVec 4) (v : Word) : (s.setSegment n v).hid0 = s.hid0 := rfl
@[simp] theorem State.setSegment_iabr (n : BitVec 4) (v : Word) : (s.setSegment n v).iabr = s.iabr := rfl
@[simp] theorem State.setSegment_dabr (n : BitVec 4) (v : Word) : (s.setSegment n v).dabr = s.dabr := rfl
@[simp] theorem State.setSegment_ear (n : BitVec 4) (v : Word) : (s.setSegment n v).ear = s.ear := rfl
@[simp] theorem State.setSegment_sdr1 (n : BitVec 4) (v : Word) : (s.setSegment n v).sdr1 = s.sdr1 := rfl
@[simp] theorem State.setSegment_bat (n : BitVec 4) (v : Word) : (s.setSegment n v).bat = s.bat := rfl
@[simp] theorem State.setSegment_sr (n : BitVec 4) (v : Word) : (s.setSegment n v).sr = s.sr.set n.toNat v := rfl
@[simp] theorem State.setSegment_mmcr0 (n : BitVec 4) (v : Word) : (s.setSegment n v).mmcr0 = s.mmcr0 := rfl
@[simp] theorem State.setSegment_pmc1 (n : BitVec 4) (v : Word) : (s.setSegment n v).pmc1 = s.pmc1 := rfl
@[simp] theorem State.setSegment_pmc2 (n : BitVec 4) (v : Word) : (s.setSegment n v).pmc2 = s.pmc2 := rfl
@[simp] theorem State.setSegment_sia (n : BitVec 4) (v : Word) : (s.setSegment n v).sia = s.sia := rfl
@[simp] theorem State.setSegment_sda (n : BitVec 4) (v : Word) : (s.setSegment n v).sda = s.sda := rfl
@[simp] theorem State.setSegment_thresholdShadow (n : BitVec 4) (v : Word) : (s.setSegment n v).thresholdShadow = s.thresholdShadow := rfl
@[simp] theorem State.setSegment_marked (n : BitVec 4) (v : Word) : (s.setSegment n v).marked = s.marked := rfl
@[simp] theorem State.setSegment_reserve (n : BitVec 4) (v : Word) : (s.setSegment n v).reserve = s.reserve := rfl
@[simp] theorem State.setSegment_reserveAddr (n : BitVec 4) (v : Word) : (s.setSegment n v).reserveAddr = s.reserveAddr := rfl
@[simp] theorem State.setSegment_intPin (n : BitVec 4) (v : Word) : (s.setSegment n v).intPin = s.intPin := rfl
@[simp] theorem State.setSegment_smiPin (n : BitVec 4) (v : Word) : (s.setSegment n v).smiPin = s.smiPin := rfl
@[simp] theorem State.setSegment_tbenPin (n : BitVec 4) (v : Word) : (s.setSegment n v).tbenPin = s.tbenPin := rfl
@[simp] theorem State.setSegment_hresetPin (n : BitVec 4) (v : Word) : (s.setSegment n v).hresetPin = s.hresetPin := rfl
@[simp] theorem State.setSegment_decPending (n : BitVec 4) (v : Word) : (s.setSegment n v).decPending = s.decPending := rfl
@[simp] theorem State.setSegment_pmiPending (n : BitVec 4) (v : Word) : (s.setSegment n v).pmiPending = s.pmiPending := rfl
@[simp] theorem State.setSegment_pmSignaled (n : BitVec 4) (v : Word) : (s.setSegment n v).pmSignaled = s.pmSignaled := rfl
@[simp] theorem State.setSegment_everSignaled (n : BitVec 4) (v : Word) : (s.setSegment n v).everSignaled = s.everSignaled := rfl
@[simp] theorem State.setSegment_sresetPending (n : BitVec 4) (v : Word) : (s.setSegment n v).sresetPending = s.sresetPending := rfl
@[simp] theorem State.setSegment_machineChecks (n : BitVec 4) (v : Word) : (s.setSegment n v).machineChecks = s.machineChecks := rfl
@[simp] theorem State.setSegment_checkstop (n : BitVec 4) (v : Word) : (s.setSegment n v).checkstop = s.checkstop := rfl
@[simp] theorem State.setSegment_mem (n : BitVec 4) (v : Word) : (s.setSegment n v).mem = s.mem := rfl
@[simp] theorem State.setSegment_memMap (n : BitVec 4) (v : Word) : (s.setSegment n v).memMap = s.memMap := rfl
@[simp] theorem State.setSegment_stale (n : BitVec 4) (v : Word) : (s.setSegment n v).stale = s.stale := rfl
@[simp] theorem State.setSegment_tbRose (n : BitVec 4) (v : Word) : (s.setSegment n v).tbRose = s.tbRose := rfl
@[simp] theorem State.setSegment_lastCompleted (n : BitVec 4) (v : Word) : (s.setSegment n v).lastCompleted = s.lastCompleted := rfl
@[simp] theorem State.setSegment_accesses (n : BitVec 4) (v : Word) : (s.setSegment n v).accesses = s.accesses := rfl
@[simp] theorem State.setSegment_pmc1Cause (n : BitVec 4) (v : Word) : (s.setSegment n v).pmc1Cause = s.pmc1Cause := rfl
@[simp] theorem State.setSegment_pmc2Cause (n : BitVec 4) (v : Word) : (s.setSegment n v).pmc2Cause = s.pmc2Cause := rfl
@[simp] theorem State.setSegment_busLog (n : BitVec 4) (v : Word) : (s.setSegment n v).busLog = s.busLog := rfl
@[simp] theorem State.setSegment_draws (n : BitVec 4) (v : Word) : (s.setSegment n v).draws = s.draws := rfl
@[simp] theorem State.setSegment_schedule (n : BitVec 4) (v : Word) : (s.setSegment n v).schedule = s.schedule := rfl
@[simp] theorem State.setSegment_taken (n : BitVec 4) (v : Word) : (s.setSegment n v).taken = s.taken := rfl
@[simp] theorem State.setSegment_r (n : BitVec 4) (v : Word) (j : BitVec 5) : (s.setSegment n v).r j = s.r j := rfl
@[simp] theorem State.setSegment_base (n : BitVec 4) (v : Word) (j : BitVec 5) : (s.setSegment n v).base j = s.base j := rfl
@[simp] theorem State.setSegment_f (n : BitVec 4) (v : Word) (j : BitVec 5) : (s.setSegment n v).f j = s.f j := rfl
@[simp] theorem State.setSegment_byteAt (n : BitVec 4) (v : Word) (x : Word) : (s.setSegment n v).byteAt x = s.byteAt x := rfl
@[simp] theorem State.setSegment_crBit (n : BitVec 4) (v : Word) (j : BitVec 5) : (s.setSegment n v).crBit j = s.crBit j := rfl
@[simp] theorem State.setSegment_watched (n : BitVec 4) (v : Word) (st : Bool) (x : Word) (k : Nat) : (s.setSegment n v).watched st x k = s.watched st x k := rfl

/-! ### storeByte -/

@[simp] theorem State.storeByte_gpr (a : Word) (v : Byte) : (s.storeByte a v).gpr = s.gpr := rfl
@[simp] theorem State.storeByte_fpr (a : Word) (v : Byte) : (s.storeByte a v).fpr = s.fpr := rfl
@[simp] theorem State.storeByte_cr (a : Word) (v : Byte) : (s.storeByte a v).cr = s.cr := rfl
@[simp] theorem State.storeByte_xer (a : Word) (v : Byte) : (s.storeByte a v).xer = s.xer := rfl
@[simp] theorem State.storeByte_lr (a : Word) (v : Byte) : (s.storeByte a v).lr = s.lr := rfl
@[simp] theorem State.storeByte_ctr (a : Word) (v : Byte) : (s.storeByte a v).ctr = s.ctr := rfl
@[simp] theorem State.storeByte_pc (a : Word) (v : Byte) : (s.storeByte a v).pc = s.pc := rfl
@[simp] theorem State.storeByte_fpscr (a : Word) (v : Byte) : (s.storeByte a v).fpscr = s.fpscr := rfl
@[simp] theorem State.storeByte_msr (a : Word) (v : Byte) : (s.storeByte a v).msr = s.msr := rfl
@[simp] theorem State.storeByte_srr0 (a : Word) (v : Byte) : (s.storeByte a v).srr0 = s.srr0 := rfl
@[simp] theorem State.storeByte_srr1 (a : Word) (v : Byte) : (s.storeByte a v).srr1 = s.srr1 := rfl
@[simp] theorem State.storeByte_dar (a : Word) (v : Byte) : (s.storeByte a v).dar = s.dar := rfl
@[simp] theorem State.storeByte_dsisr (a : Word) (v : Byte) : (s.storeByte a v).dsisr = s.dsisr := rfl
@[simp] theorem State.storeByte_sprg (a : Word) (v : Byte) : (s.storeByte a v).sprg = s.sprg := rfl
@[simp] theorem State.storeByte_dec (a : Word) (v : Byte) : (s.storeByte a v).dec = s.dec := rfl
@[simp] theorem State.storeByte_tb (a : Word) (v : Byte) : (s.storeByte a v).tb = s.tb := rfl
@[simp] theorem State.storeByte_pvr (a : Word) (v : Byte) : (s.storeByte a v).pvr = s.pvr := rfl
@[simp] theorem State.storeByte_pir (a : Word) (v : Byte) : (s.storeByte a v).pir = s.pir := rfl
@[simp] theorem State.storeByte_hid0 (a : Word) (v : Byte) : (s.storeByte a v).hid0 = s.hid0 := rfl
@[simp] theorem State.storeByte_iabr (a : Word) (v : Byte) : (s.storeByte a v).iabr = s.iabr := rfl
@[simp] theorem State.storeByte_dabr (a : Word) (v : Byte) : (s.storeByte a v).dabr = s.dabr := rfl
@[simp] theorem State.storeByte_ear (a : Word) (v : Byte) : (s.storeByte a v).ear = s.ear := rfl
@[simp] theorem State.storeByte_sdr1 (a : Word) (v : Byte) : (s.storeByte a v).sdr1 = s.sdr1 := rfl
@[simp] theorem State.storeByte_bat (a : Word) (v : Byte) : (s.storeByte a v).bat = s.bat := rfl
@[simp] theorem State.storeByte_sr (a : Word) (v : Byte) : (s.storeByte a v).sr = s.sr := rfl
@[simp] theorem State.storeByte_mmcr0 (a : Word) (v : Byte) : (s.storeByte a v).mmcr0 = s.mmcr0 := rfl
@[simp] theorem State.storeByte_pmc1 (a : Word) (v : Byte) : (s.storeByte a v).pmc1 = s.pmc1 := rfl
@[simp] theorem State.storeByte_pmc2 (a : Word) (v : Byte) : (s.storeByte a v).pmc2 = s.pmc2 := rfl
@[simp] theorem State.storeByte_sia (a : Word) (v : Byte) : (s.storeByte a v).sia = s.sia := rfl
@[simp] theorem State.storeByte_sda (a : Word) (v : Byte) : (s.storeByte a v).sda = s.sda := rfl
@[simp] theorem State.storeByte_thresholdShadow (a : Word) (v : Byte) : (s.storeByte a v).thresholdShadow = s.thresholdShadow := rfl
@[simp] theorem State.storeByte_marked (a : Word) (v : Byte) : (s.storeByte a v).marked = s.marked := rfl
@[simp] theorem State.storeByte_reserve (a : Word) (v : Byte) : (s.storeByte a v).reserve = s.reserve := rfl
@[simp] theorem State.storeByte_reserveAddr (a : Word) (v : Byte) : (s.storeByte a v).reserveAddr = s.reserveAddr := rfl
@[simp] theorem State.storeByte_intPin (a : Word) (v : Byte) : (s.storeByte a v).intPin = s.intPin := rfl
@[simp] theorem State.storeByte_smiPin (a : Word) (v : Byte) : (s.storeByte a v).smiPin = s.smiPin := rfl
@[simp] theorem State.storeByte_tbenPin (a : Word) (v : Byte) : (s.storeByte a v).tbenPin = s.tbenPin := rfl
@[simp] theorem State.storeByte_hresetPin (a : Word) (v : Byte) : (s.storeByte a v).hresetPin = s.hresetPin := rfl
@[simp] theorem State.storeByte_decPending (a : Word) (v : Byte) : (s.storeByte a v).decPending = s.decPending := rfl
@[simp] theorem State.storeByte_pmiPending (a : Word) (v : Byte) : (s.storeByte a v).pmiPending = s.pmiPending := rfl
@[simp] theorem State.storeByte_pmSignaled (a : Word) (v : Byte) : (s.storeByte a v).pmSignaled = s.pmSignaled := rfl
@[simp] theorem State.storeByte_everSignaled (a : Word) (v : Byte) : (s.storeByte a v).everSignaled = s.everSignaled := rfl
@[simp] theorem State.storeByte_sresetPending (a : Word) (v : Byte) : (s.storeByte a v).sresetPending = s.sresetPending := rfl
@[simp] theorem State.storeByte_machineChecks (a : Word) (v : Byte) : (s.storeByte a v).machineChecks = s.machineChecks := rfl
@[simp] theorem State.storeByte_checkstop (a : Word) (v : Byte) : (s.storeByte a v).checkstop = s.checkstop := rfl
@[simp] theorem State.storeByte_mem (a : Word) (v : Byte) : (s.storeByte a v).mem = Memory.write s.mem a.toNat v := rfl
@[simp] theorem State.storeByte_memMap (a : Word) (v : Byte) : (s.storeByte a v).memMap = s.memMap := rfl
@[simp] theorem State.storeByte_stale (a : Word) (v : Byte) : (s.storeByte a v).stale = s.stale := rfl
@[simp] theorem State.storeByte_tbRose (a : Word) (v : Byte) : (s.storeByte a v).tbRose = s.tbRose := rfl
@[simp] theorem State.storeByte_lastCompleted (a : Word) (v : Byte) : (s.storeByte a v).lastCompleted = s.lastCompleted := rfl
@[simp] theorem State.storeByte_accesses (a : Word) (v : Byte) : (s.storeByte a v).accesses = s.accesses := rfl
@[simp] theorem State.storeByte_pmc1Cause (a : Word) (v : Byte) : (s.storeByte a v).pmc1Cause = s.pmc1Cause := rfl
@[simp] theorem State.storeByte_pmc2Cause (a : Word) (v : Byte) : (s.storeByte a v).pmc2Cause = s.pmc2Cause := rfl
@[simp] theorem State.storeByte_busLog (a : Word) (v : Byte) : (s.storeByte a v).busLog = s.busLog := rfl
@[simp] theorem State.storeByte_draws (a : Word) (v : Byte) : (s.storeByte a v).draws = s.draws := rfl
@[simp] theorem State.storeByte_schedule (a : Word) (v : Byte) : (s.storeByte a v).schedule = s.schedule := rfl
@[simp] theorem State.storeByte_taken (a : Word) (v : Byte) : (s.storeByte a v).taken = s.taken := rfl
@[simp] theorem State.storeByte_r (a : Word) (v : Byte) (j : BitVec 5) : (s.storeByte a v).r j = s.r j := rfl
@[simp] theorem State.storeByte_base (a : Word) (v : Byte) (j : BitVec 5) : (s.storeByte a v).base j = s.base j := rfl
@[simp] theorem State.storeByte_f (a : Word) (v : Byte) (j : BitVec 5) : (s.storeByte a v).f j = s.f j := rfl
@[simp] theorem State.storeByte_crBit (a : Word) (v : Byte) (j : BitVec 5) : (s.storeByte a v).crBit j = s.crBit j := rfl
@[simp] theorem State.storeByte_watched (a : Word) (v : Byte) (st : Bool) (x : Word) (k : Nat) : (s.storeByte a v).watched st x k = s.watched st x k := rfl

/-! ### remember -/

@[simp] theorem State.remember_gpr (own : Bool) (a : Word) (m : Option Word) : (s.remember own a m).gpr = s.gpr := rfl
@[simp] theorem State.remember_fpr (own : Bool) (a : Word) (m : Option Word) : (s.remember own a m).fpr = s.fpr := rfl
@[simp] theorem State.remember_cr (own : Bool) (a : Word) (m : Option Word) : (s.remember own a m).cr = s.cr := rfl
@[simp] theorem State.remember_xer (own : Bool) (a : Word) (m : Option Word) : (s.remember own a m).xer = s.xer := rfl
@[simp] theorem State.remember_lr (own : Bool) (a : Word) (m : Option Word) : (s.remember own a m).lr = s.lr := rfl
@[simp] theorem State.remember_ctr (own : Bool) (a : Word) (m : Option Word) : (s.remember own a m).ctr = s.ctr := rfl
@[simp] theorem State.remember_pc (own : Bool) (a : Word) (m : Option Word) : (s.remember own a m).pc = s.pc := rfl
@[simp] theorem State.remember_fpscr (own : Bool) (a : Word) (m : Option Word) : (s.remember own a m).fpscr = s.fpscr := rfl
@[simp] theorem State.remember_msr (own : Bool) (a : Word) (m : Option Word) : (s.remember own a m).msr = s.msr := rfl
@[simp] theorem State.remember_srr0 (own : Bool) (a : Word) (m : Option Word) : (s.remember own a m).srr0 = s.srr0 := rfl
@[simp] theorem State.remember_srr1 (own : Bool) (a : Word) (m : Option Word) : (s.remember own a m).srr1 = s.srr1 := rfl
@[simp] theorem State.remember_dar (own : Bool) (a : Word) (m : Option Word) : (s.remember own a m).dar = s.dar := rfl
@[simp] theorem State.remember_dsisr (own : Bool) (a : Word) (m : Option Word) : (s.remember own a m).dsisr = s.dsisr := rfl
@[simp] theorem State.remember_sprg (own : Bool) (a : Word) (m : Option Word) : (s.remember own a m).sprg = s.sprg := rfl
@[simp] theorem State.remember_dec (own : Bool) (a : Word) (m : Option Word) : (s.remember own a m).dec = s.dec := rfl
@[simp] theorem State.remember_tb (own : Bool) (a : Word) (m : Option Word) : (s.remember own a m).tb = s.tb := rfl
@[simp] theorem State.remember_pvr (own : Bool) (a : Word) (m : Option Word) : (s.remember own a m).pvr = s.pvr := rfl
@[simp] theorem State.remember_pir (own : Bool) (a : Word) (m : Option Word) : (s.remember own a m).pir = s.pir := rfl
@[simp] theorem State.remember_hid0 (own : Bool) (a : Word) (m : Option Word) : (s.remember own a m).hid0 = s.hid0 := rfl
@[simp] theorem State.remember_iabr (own : Bool) (a : Word) (m : Option Word) : (s.remember own a m).iabr = s.iabr := rfl
@[simp] theorem State.remember_dabr (own : Bool) (a : Word) (m : Option Word) : (s.remember own a m).dabr = s.dabr := rfl
@[simp] theorem State.remember_ear (own : Bool) (a : Word) (m : Option Word) : (s.remember own a m).ear = s.ear := rfl
@[simp] theorem State.remember_sdr1 (own : Bool) (a : Word) (m : Option Word) : (s.remember own a m).sdr1 = s.sdr1 := rfl
@[simp] theorem State.remember_bat (own : Bool) (a : Word) (m : Option Word) : (s.remember own a m).bat = s.bat := rfl
@[simp] theorem State.remember_sr (own : Bool) (a : Word) (m : Option Word) : (s.remember own a m).sr = s.sr := rfl
@[simp] theorem State.remember_mmcr0 (own : Bool) (a : Word) (m : Option Word) : (s.remember own a m).mmcr0 = s.mmcr0 := rfl
@[simp] theorem State.remember_pmc1 (own : Bool) (a : Word) (m : Option Word) : (s.remember own a m).pmc1 = s.pmc1 := rfl
@[simp] theorem State.remember_pmc2 (own : Bool) (a : Word) (m : Option Word) : (s.remember own a m).pmc2 = s.pmc2 := rfl
@[simp] theorem State.remember_sia (own : Bool) (a : Word) (m : Option Word) : (s.remember own a m).sia = s.sia := rfl
@[simp] theorem State.remember_sda (own : Bool) (a : Word) (m : Option Word) : (s.remember own a m).sda = s.sda := rfl
@[simp] theorem State.remember_thresholdShadow (own : Bool) (a : Word) (m : Option Word) : (s.remember own a m).thresholdShadow = s.thresholdShadow := rfl
@[simp] theorem State.remember_marked (own : Bool) (a : Word) (m : Option Word) : (s.remember own a m).marked = s.marked := rfl
@[simp] theorem State.remember_reserve (own : Bool) (a : Word) (m : Option Word) : (s.remember own a m).reserve = s.reserve := rfl
@[simp] theorem State.remember_reserveAddr (own : Bool) (a : Word) (m : Option Word) : (s.remember own a m).reserveAddr = s.reserveAddr := rfl
@[simp] theorem State.remember_intPin (own : Bool) (a : Word) (m : Option Word) : (s.remember own a m).intPin = s.intPin := rfl
@[simp] theorem State.remember_smiPin (own : Bool) (a : Word) (m : Option Word) : (s.remember own a m).smiPin = s.smiPin := rfl
@[simp] theorem State.remember_tbenPin (own : Bool) (a : Word) (m : Option Word) : (s.remember own a m).tbenPin = s.tbenPin := rfl
@[simp] theorem State.remember_hresetPin (own : Bool) (a : Word) (m : Option Word) : (s.remember own a m).hresetPin = s.hresetPin := rfl
@[simp] theorem State.remember_decPending (own : Bool) (a : Word) (m : Option Word) : (s.remember own a m).decPending = s.decPending := rfl
@[simp] theorem State.remember_pmiPending (own : Bool) (a : Word) (m : Option Word) : (s.remember own a m).pmiPending = s.pmiPending := rfl
@[simp] theorem State.remember_pmSignaled (own : Bool) (a : Word) (m : Option Word) : (s.remember own a m).pmSignaled = s.pmSignaled := rfl
@[simp] theorem State.remember_everSignaled (own : Bool) (a : Word) (m : Option Word) : (s.remember own a m).everSignaled = s.everSignaled := rfl
@[simp] theorem State.remember_sresetPending (own : Bool) (a : Word) (m : Option Word) : (s.remember own a m).sresetPending = s.sresetPending := rfl
@[simp] theorem State.remember_machineChecks (own : Bool) (a : Word) (m : Option Word) : (s.remember own a m).machineChecks = s.machineChecks := rfl
@[simp] theorem State.remember_checkstop (own : Bool) (a : Word) (m : Option Word) : (s.remember own a m).checkstop = s.checkstop := rfl
@[simp] theorem State.remember_mem (own : Bool) (a : Word) (m : Option Word) : (s.remember own a m).mem = s.mem := rfl
@[simp] theorem State.remember_memMap (own : Bool) (a : Word) (m : Option Word) : (s.remember own a m).memMap = s.memMap := rfl
@[simp] theorem State.remember_stale (own : Bool) (a : Word) (m : Option Word) : (s.remember own a m).stale =
    ⟨(wordAligned a).toNat, s.wordAt (wordAligned a), m.getD (s.wordAt (wordAligned a)), .stored, own⟩ :: s.stale := rfl
@[simp] theorem State.remember_tbRose (own : Bool) (a : Word) (m : Option Word) : (s.remember own a m).tbRose = s.tbRose := rfl
@[simp] theorem State.remember_lastCompleted (own : Bool) (a : Word) (m : Option Word) : (s.remember own a m).lastCompleted = s.lastCompleted := rfl
@[simp] theorem State.remember_accesses (own : Bool) (a : Word) (m : Option Word) : (s.remember own a m).accesses = s.accesses := rfl
@[simp] theorem State.remember_pmc1Cause (own : Bool) (a : Word) (m : Option Word) : (s.remember own a m).pmc1Cause = s.pmc1Cause := rfl
@[simp] theorem State.remember_pmc2Cause (own : Bool) (a : Word) (m : Option Word) : (s.remember own a m).pmc2Cause = s.pmc2Cause := rfl
@[simp] theorem State.remember_busLog (own : Bool) (a : Word) (m : Option Word) : (s.remember own a m).busLog = s.busLog := rfl
@[simp] theorem State.remember_draws (own : Bool) (a : Word) (m : Option Word) : (s.remember own a m).draws = s.draws := rfl
@[simp] theorem State.remember_schedule (own : Bool) (a : Word) (m : Option Word) : (s.remember own a m).schedule = s.schedule := rfl
@[simp] theorem State.remember_taken (own : Bool) (a : Word) (m : Option Word) : (s.remember own a m).taken = s.taken := rfl
@[simp] theorem State.remember_r (own : Bool) (a : Word) (m : Option Word) (j : BitVec 5) : (s.remember own a m).r j = s.r j := rfl
@[simp] theorem State.remember_base (own : Bool) (a : Word) (m : Option Word) (j : BitVec 5) : (s.remember own a m).base j = s.base j := rfl
@[simp] theorem State.remember_f (own : Bool) (a : Word) (m : Option Word) (j : BitVec 5) : (s.remember own a m).f j = s.f j := rfl
@[simp] theorem State.remember_byteAt (own : Bool) (a : Word) (m : Option Word) (x : Word) : (s.remember own a m).byteAt x = s.byteAt x := rfl
@[simp] theorem State.remember_crBit (own : Bool) (a : Word) (m : Option Word) (j : BitVec 5) : (s.remember own a m).crBit j = s.crBit j := rfl
@[simp] theorem State.remember_watched (own : Bool) (a : Word) (m : Option Word) (st : Bool) (x : Word) (k : Nat) : (s.remember own a m).watched st x k = s.watched st x k := rfl

/-! ### signalInterrupt -/

@[simp] theorem State.signalInterrupt_gpr : (s.signalInterrupt).gpr = s.gpr := rfl
@[simp] theorem State.signalInterrupt_fpr : (s.signalInterrupt).fpr = s.fpr := rfl
@[simp] theorem State.signalInterrupt_cr : (s.signalInterrupt).cr = s.cr := rfl
@[simp] theorem State.signalInterrupt_xer : (s.signalInterrupt).xer = s.xer := rfl
@[simp] theorem State.signalInterrupt_lr : (s.signalInterrupt).lr = s.lr := rfl
@[simp] theorem State.signalInterrupt_ctr : (s.signalInterrupt).ctr = s.ctr := rfl
@[simp] theorem State.signalInterrupt_pc : (s.signalInterrupt).pc = s.pc := rfl
@[simp] theorem State.signalInterrupt_fpscr : (s.signalInterrupt).fpscr = s.fpscr := rfl
@[simp] theorem State.signalInterrupt_msr : (s.signalInterrupt).msr = s.msr := rfl
@[simp] theorem State.signalInterrupt_srr0 : (s.signalInterrupt).srr0 = s.srr0 := rfl
@[simp] theorem State.signalInterrupt_srr1 : (s.signalInterrupt).srr1 = s.srr1 := rfl
@[simp] theorem State.signalInterrupt_dar : (s.signalInterrupt).dar = s.dar := rfl
@[simp] theorem State.signalInterrupt_dsisr : (s.signalInterrupt).dsisr = s.dsisr := rfl
@[simp] theorem State.signalInterrupt_sprg : (s.signalInterrupt).sprg = s.sprg := rfl
@[simp] theorem State.signalInterrupt_dec : (s.signalInterrupt).dec = s.dec := rfl
@[simp] theorem State.signalInterrupt_tb : (s.signalInterrupt).tb = s.tb := rfl
@[simp] theorem State.signalInterrupt_pvr : (s.signalInterrupt).pvr = s.pvr := rfl
@[simp] theorem State.signalInterrupt_pir : (s.signalInterrupt).pir = s.pir := rfl
@[simp] theorem State.signalInterrupt_hid0 : (s.signalInterrupt).hid0 = s.hid0 := rfl
@[simp] theorem State.signalInterrupt_iabr : (s.signalInterrupt).iabr = s.iabr := rfl
@[simp] theorem State.signalInterrupt_dabr : (s.signalInterrupt).dabr = s.dabr := rfl
@[simp] theorem State.signalInterrupt_ear : (s.signalInterrupt).ear = s.ear := rfl
@[simp] theorem State.signalInterrupt_sdr1 : (s.signalInterrupt).sdr1 = s.sdr1 := rfl
@[simp] theorem State.signalInterrupt_bat : (s.signalInterrupt).bat = s.bat := rfl
@[simp] theorem State.signalInterrupt_sr : (s.signalInterrupt).sr = s.sr := rfl
@[simp] theorem State.signalInterrupt_mmcr0 : (s.signalInterrupt).mmcr0 = writeBit s.mmcr0 5 false := rfl
@[simp] theorem State.signalInterrupt_pmc1 : (s.signalInterrupt).pmc1 = s.pmc1 := rfl
@[simp] theorem State.signalInterrupt_pmc2 : (s.signalInterrupt).pmc2 = s.pmc2 := rfl
@[simp] theorem State.signalInterrupt_sia : (s.signalInterrupt).sia = s.sia := rfl
@[simp] theorem State.signalInterrupt_sda : (s.signalInterrupt).sda = s.sda := rfl
@[simp] theorem State.signalInterrupt_thresholdShadow : (s.signalInterrupt).thresholdShadow = s.thresholdShadow := rfl
@[simp] theorem State.signalInterrupt_marked : (s.signalInterrupt).marked = s.marked := rfl
@[simp] theorem State.signalInterrupt_reserve : (s.signalInterrupt).reserve = s.reserve := rfl
@[simp] theorem State.signalInterrupt_reserveAddr : (s.signalInterrupt).reserveAddr = s.reserveAddr := rfl
@[simp] theorem State.signalInterrupt_intPin : (s.signalInterrupt).intPin = s.intPin := rfl
@[simp] theorem State.signalInterrupt_smiPin : (s.signalInterrupt).smiPin = s.smiPin := rfl
@[simp] theorem State.signalInterrupt_tbenPin : (s.signalInterrupt).tbenPin = s.tbenPin := rfl
@[simp] theorem State.signalInterrupt_hresetPin : (s.signalInterrupt).hresetPin = s.hresetPin := rfl
@[simp] theorem State.signalInterrupt_decPending : (s.signalInterrupt).decPending = s.decPending := rfl
@[simp] theorem State.signalInterrupt_pmiPending : (s.signalInterrupt).pmiPending = true := rfl
@[simp] theorem State.signalInterrupt_pmSignaled : (s.signalInterrupt).pmSignaled = true := rfl
@[simp] theorem State.signalInterrupt_everSignaled : (s.signalInterrupt).everSignaled = true := rfl
@[simp] theorem State.signalInterrupt_sresetPending : (s.signalInterrupt).sresetPending = s.sresetPending := rfl
@[simp] theorem State.signalInterrupt_machineChecks : (s.signalInterrupt).machineChecks = s.machineChecks := rfl
@[simp] theorem State.signalInterrupt_checkstop : (s.signalInterrupt).checkstop = s.checkstop := rfl
@[simp] theorem State.signalInterrupt_mem : (s.signalInterrupt).mem = s.mem := rfl
@[simp] theorem State.signalInterrupt_memMap : (s.signalInterrupt).memMap = s.memMap := rfl
@[simp] theorem State.signalInterrupt_stale : (s.signalInterrupt).stale = s.stale := rfl
@[simp] theorem State.signalInterrupt_tbRose : (s.signalInterrupt).tbRose = s.tbRose := rfl
@[simp] theorem State.signalInterrupt_lastCompleted : (s.signalInterrupt).lastCompleted = s.lastCompleted := rfl
@[simp] theorem State.signalInterrupt_accesses : (s.signalInterrupt).accesses = s.accesses := rfl
@[simp] theorem State.signalInterrupt_pmc1Cause : (s.signalInterrupt).pmc1Cause = s.pmc1Cause := rfl
@[simp] theorem State.signalInterrupt_pmc2Cause : (s.signalInterrupt).pmc2Cause = s.pmc2Cause := rfl
@[simp] theorem State.signalInterrupt_busLog : (s.signalInterrupt).busLog = s.busLog := rfl
@[simp] theorem State.signalInterrupt_draws : (s.signalInterrupt).draws = s.draws := rfl
@[simp] theorem State.signalInterrupt_schedule : (s.signalInterrupt).schedule = s.schedule := rfl
@[simp] theorem State.signalInterrupt_taken : (s.signalInterrupt).taken = s.taken := rfl
@[simp] theorem State.signalInterrupt_r (j : BitVec 5) : (s.signalInterrupt).r j = s.r j := rfl
@[simp] theorem State.signalInterrupt_base (j : BitVec 5) : (s.signalInterrupt).base j = s.base j := rfl
@[simp] theorem State.signalInterrupt_f (j : BitVec 5) : (s.signalInterrupt).f j = s.f j := rfl
@[simp] theorem State.signalInterrupt_byteAt (x : Word) : (s.signalInterrupt).byteAt x = s.byteAt x := rfl
@[simp] theorem State.signalInterrupt_crBit (j : BitVec 5) : (s.signalInterrupt).crBit j = s.crBit j := rfl
@[simp] theorem State.signalInterrupt_watched (st : Bool) (x : Word) (k : Nat) : (s.signalInterrupt).watched st x k = s.watched st x k := rfl

/-! ### setTimeBase -/

@[simp] theorem State.setTimeBase_gpr (v : BitVec 64) : (s.setTimeBase v).gpr = s.gpr := rfl
@[simp] theorem State.setTimeBase_fpr (v : BitVec 64) : (s.setTimeBase v).fpr = s.fpr := rfl
@[simp] theorem State.setTimeBase_cr (v : BitVec 64) : (s.setTimeBase v).cr = s.cr := rfl
@[simp] theorem State.setTimeBase_xer (v : BitVec 64) : (s.setTimeBase v).xer = s.xer := rfl
@[simp] theorem State.setTimeBase_lr (v : BitVec 64) : (s.setTimeBase v).lr = s.lr := rfl
@[simp] theorem State.setTimeBase_ctr (v : BitVec 64) : (s.setTimeBase v).ctr = s.ctr := rfl
@[simp] theorem State.setTimeBase_pc (v : BitVec 64) : (s.setTimeBase v).pc = s.pc := rfl
@[simp] theorem State.setTimeBase_fpscr (v : BitVec 64) : (s.setTimeBase v).fpscr = s.fpscr := rfl
@[simp] theorem State.setTimeBase_msr (v : BitVec 64) : (s.setTimeBase v).msr = s.msr := rfl
@[simp] theorem State.setTimeBase_srr0 (v : BitVec 64) : (s.setTimeBase v).srr0 = s.srr0 := rfl
@[simp] theorem State.setTimeBase_srr1 (v : BitVec 64) : (s.setTimeBase v).srr1 = s.srr1 := rfl
@[simp] theorem State.setTimeBase_dar (v : BitVec 64) : (s.setTimeBase v).dar = s.dar := rfl
@[simp] theorem State.setTimeBase_dsisr (v : BitVec 64) : (s.setTimeBase v).dsisr = s.dsisr := rfl
@[simp] theorem State.setTimeBase_sprg (v : BitVec 64) : (s.setTimeBase v).sprg = s.sprg := rfl
@[simp] theorem State.setTimeBase_dec (v : BitVec 64) : (s.setTimeBase v).dec = s.dec := rfl
@[simp] theorem State.setTimeBase_tb (v : BitVec 64) : (s.setTimeBase v).tb = v := rfl
@[simp] theorem State.setTimeBase_pvr (v : BitVec 64) : (s.setTimeBase v).pvr = s.pvr := rfl
@[simp] theorem State.setTimeBase_pir (v : BitVec 64) : (s.setTimeBase v).pir = s.pir := rfl
@[simp] theorem State.setTimeBase_hid0 (v : BitVec 64) : (s.setTimeBase v).hid0 = s.hid0 := rfl
@[simp] theorem State.setTimeBase_iabr (v : BitVec 64) : (s.setTimeBase v).iabr = s.iabr := rfl
@[simp] theorem State.setTimeBase_dabr (v : BitVec 64) : (s.setTimeBase v).dabr = s.dabr := rfl
@[simp] theorem State.setTimeBase_ear (v : BitVec 64) : (s.setTimeBase v).ear = s.ear := rfl
@[simp] theorem State.setTimeBase_sdr1 (v : BitVec 64) : (s.setTimeBase v).sdr1 = s.sdr1 := rfl
@[simp] theorem State.setTimeBase_bat (v : BitVec 64) : (s.setTimeBase v).bat = s.bat := rfl
@[simp] theorem State.setTimeBase_sr (v : BitVec 64) : (s.setTimeBase v).sr = s.sr := rfl
@[simp] theorem State.setTimeBase_mmcr0 (v : BitVec 64) : (s.setTimeBase v).mmcr0 = s.mmcr0 := rfl
@[simp] theorem State.setTimeBase_pmc1 (v : BitVec 64) : (s.setTimeBase v).pmc1 = s.pmc1 := rfl
@[simp] theorem State.setTimeBase_pmc2 (v : BitVec 64) : (s.setTimeBase v).pmc2 = s.pmc2 := rfl
@[simp] theorem State.setTimeBase_sia (v : BitVec 64) : (s.setTimeBase v).sia = s.sia := rfl
@[simp] theorem State.setTimeBase_sda (v : BitVec 64) : (s.setTimeBase v).sda = s.sda := rfl
@[simp] theorem State.setTimeBase_thresholdShadow (v : BitVec 64) : (s.setTimeBase v).thresholdShadow = s.thresholdShadow := rfl
@[simp] theorem State.setTimeBase_marked (v : BitVec 64) : (s.setTimeBase v).marked = s.marked := rfl
@[simp] theorem State.setTimeBase_reserve (v : BitVec 64) : (s.setTimeBase v).reserve = s.reserve := rfl
@[simp] theorem State.setTimeBase_reserveAddr (v : BitVec 64) : (s.setTimeBase v).reserveAddr = s.reserveAddr := rfl
@[simp] theorem State.setTimeBase_intPin (v : BitVec 64) : (s.setTimeBase v).intPin = s.intPin := rfl
@[simp] theorem State.setTimeBase_smiPin (v : BitVec 64) : (s.setTimeBase v).smiPin = s.smiPin := rfl
@[simp] theorem State.setTimeBase_tbenPin (v : BitVec 64) : (s.setTimeBase v).tbenPin = s.tbenPin := rfl
@[simp] theorem State.setTimeBase_hresetPin (v : BitVec 64) : (s.setTimeBase v).hresetPin = s.hresetPin := rfl
@[simp] theorem State.setTimeBase_decPending (v : BitVec 64) : (s.setTimeBase v).decPending = s.decPending := rfl
@[simp] theorem State.setTimeBase_pmiPending (v : BitVec 64) : (s.setTimeBase v).pmiPending = s.pmiPending := rfl
@[simp] theorem State.setTimeBase_pmSignaled (v : BitVec 64) : (s.setTimeBase v).pmSignaled = s.pmSignaled := rfl
@[simp] theorem State.setTimeBase_everSignaled (v : BitVec 64) : (s.setTimeBase v).everSignaled = s.everSignaled := rfl
@[simp] theorem State.setTimeBase_sresetPending (v : BitVec 64) : (s.setTimeBase v).sresetPending = s.sresetPending := rfl
@[simp] theorem State.setTimeBase_machineChecks (v : BitVec 64) : (s.setTimeBase v).machineChecks = s.machineChecks := rfl
@[simp] theorem State.setTimeBase_checkstop (v : BitVec 64) : (s.setTimeBase v).checkstop = s.checkstop := rfl
@[simp] theorem State.setTimeBase_mem (v : BitVec 64) : (s.setTimeBase v).mem = s.mem := rfl
@[simp] theorem State.setTimeBase_memMap (v : BitVec 64) : (s.setTimeBase v).memMap = s.memMap := rfl
@[simp] theorem State.setTimeBase_stale (v : BitVec 64) : (s.setTimeBase v).stale = s.stale := rfl
@[simp] theorem State.setTimeBase_tbRose (v : BitVec 64) : (s.setTimeBase v).tbRose = s.tbRose ||| (v &&& ~~~s.tb) := rfl
@[simp] theorem State.setTimeBase_lastCompleted (v : BitVec 64) : (s.setTimeBase v).lastCompleted = s.lastCompleted := rfl
@[simp] theorem State.setTimeBase_accesses (v : BitVec 64) : (s.setTimeBase v).accesses = s.accesses := rfl
@[simp] theorem State.setTimeBase_pmc1Cause (v : BitVec 64) : (s.setTimeBase v).pmc1Cause = s.pmc1Cause := rfl
@[simp] theorem State.setTimeBase_pmc2Cause (v : BitVec 64) : (s.setTimeBase v).pmc2Cause = s.pmc2Cause := rfl
@[simp] theorem State.setTimeBase_busLog (v : BitVec 64) : (s.setTimeBase v).busLog = s.busLog := rfl
@[simp] theorem State.setTimeBase_draws (v : BitVec 64) : (s.setTimeBase v).draws = s.draws := rfl
@[simp] theorem State.setTimeBase_schedule (v : BitVec 64) : (s.setTimeBase v).schedule = s.schedule := rfl
@[simp] theorem State.setTimeBase_taken (v : BitVec 64) : (s.setTimeBase v).taken = s.taken := rfl
@[simp] theorem State.setTimeBase_r (v : BitVec 64) (j : BitVec 5) : (s.setTimeBase v).r j = s.r j := rfl
@[simp] theorem State.setTimeBase_base (v : BitVec 64) (j : BitVec 5) : (s.setTimeBase v).base j = s.base j := rfl
@[simp] theorem State.setTimeBase_f (v : BitVec 64) (j : BitVec 5) : (s.setTimeBase v).f j = s.f j := rfl
@[simp] theorem State.setTimeBase_byteAt (v : BitVec 64) (x : Word) : (s.setTimeBase v).byteAt x = s.byteAt x := rfl
@[simp] theorem State.setTimeBase_crBit (v : BitVec 64) (j : BitVec 5) : (s.setTimeBase v).crBit j = s.crBit j := rfl
@[simp] theorem State.setTimeBase_watched (v : BitVec 64) (st : Bool) (x : Word) (k : Nat) : (s.setTimeBase v).watched st x k = s.watched st x k := rfl

/-! ### setDec -/

@[simp] theorem State.setDec_gpr (v : Word) : (s.setDec v).gpr = s.gpr := rfl
@[simp] theorem State.setDec_fpr (v : Word) : (s.setDec v).fpr = s.fpr := rfl
@[simp] theorem State.setDec_cr (v : Word) : (s.setDec v).cr = s.cr := rfl
@[simp] theorem State.setDec_xer (v : Word) : (s.setDec v).xer = s.xer := rfl
@[simp] theorem State.setDec_lr (v : Word) : (s.setDec v).lr = s.lr := rfl
@[simp] theorem State.setDec_ctr (v : Word) : (s.setDec v).ctr = s.ctr := rfl
@[simp] theorem State.setDec_pc (v : Word) : (s.setDec v).pc = s.pc := rfl
@[simp] theorem State.setDec_fpscr (v : Word) : (s.setDec v).fpscr = s.fpscr := rfl
@[simp] theorem State.setDec_msr (v : Word) : (s.setDec v).msr = s.msr := rfl
@[simp] theorem State.setDec_srr0 (v : Word) : (s.setDec v).srr0 = s.srr0 := rfl
@[simp] theorem State.setDec_srr1 (v : Word) : (s.setDec v).srr1 = s.srr1 := rfl
@[simp] theorem State.setDec_dar (v : Word) : (s.setDec v).dar = s.dar := rfl
@[simp] theorem State.setDec_dsisr (v : Word) : (s.setDec v).dsisr = s.dsisr := rfl
@[simp] theorem State.setDec_sprg (v : Word) : (s.setDec v).sprg = s.sprg := rfl
@[simp] theorem State.setDec_dec (v : Word) : (s.setDec v).dec = v := rfl
@[simp] theorem State.setDec_tb (v : Word) : (s.setDec v).tb = s.tb := rfl
@[simp] theorem State.setDec_pvr (v : Word) : (s.setDec v).pvr = s.pvr := rfl
@[simp] theorem State.setDec_pir (v : Word) : (s.setDec v).pir = s.pir := rfl
@[simp] theorem State.setDec_hid0 (v : Word) : (s.setDec v).hid0 = s.hid0 := rfl
@[simp] theorem State.setDec_iabr (v : Word) : (s.setDec v).iabr = s.iabr := rfl
@[simp] theorem State.setDec_dabr (v : Word) : (s.setDec v).dabr = s.dabr := rfl
@[simp] theorem State.setDec_ear (v : Word) : (s.setDec v).ear = s.ear := rfl
@[simp] theorem State.setDec_sdr1 (v : Word) : (s.setDec v).sdr1 = s.sdr1 := rfl
@[simp] theorem State.setDec_bat (v : Word) : (s.setDec v).bat = s.bat := rfl
@[simp] theorem State.setDec_sr (v : Word) : (s.setDec v).sr = s.sr := rfl
@[simp] theorem State.setDec_mmcr0 (v : Word) : (s.setDec v).mmcr0 = s.mmcr0 := rfl
@[simp] theorem State.setDec_pmc1 (v : Word) : (s.setDec v).pmc1 = s.pmc1 := rfl
@[simp] theorem State.setDec_pmc2 (v : Word) : (s.setDec v).pmc2 = s.pmc2 := rfl
@[simp] theorem State.setDec_sia (v : Word) : (s.setDec v).sia = s.sia := rfl
@[simp] theorem State.setDec_sda (v : Word) : (s.setDec v).sda = s.sda := rfl
@[simp] theorem State.setDec_thresholdShadow (v : Word) : (s.setDec v).thresholdShadow = s.thresholdShadow := rfl
@[simp] theorem State.setDec_marked (v : Word) : (s.setDec v).marked = s.marked := rfl
@[simp] theorem State.setDec_reserve (v : Word) : (s.setDec v).reserve = s.reserve := rfl
@[simp] theorem State.setDec_reserveAddr (v : Word) : (s.setDec v).reserveAddr = s.reserveAddr := rfl
@[simp] theorem State.setDec_intPin (v : Word) : (s.setDec v).intPin = s.intPin := rfl
@[simp] theorem State.setDec_smiPin (v : Word) : (s.setDec v).smiPin = s.smiPin := rfl
@[simp] theorem State.setDec_tbenPin (v : Word) : (s.setDec v).tbenPin = s.tbenPin := rfl
@[simp] theorem State.setDec_hresetPin (v : Word) : (s.setDec v).hresetPin = s.hresetPin := rfl
@[simp] theorem State.setDec_decPending (v : Word) : (s.setDec v).decPending = (s.decPending || (bit v 0 && !bit s.dec 0)) := rfl
@[simp] theorem State.setDec_pmiPending (v : Word) : (s.setDec v).pmiPending = s.pmiPending := rfl
@[simp] theorem State.setDec_pmSignaled (v : Word) : (s.setDec v).pmSignaled = s.pmSignaled := rfl
@[simp] theorem State.setDec_everSignaled (v : Word) : (s.setDec v).everSignaled = s.everSignaled := rfl
@[simp] theorem State.setDec_sresetPending (v : Word) : (s.setDec v).sresetPending = s.sresetPending := rfl
@[simp] theorem State.setDec_machineChecks (v : Word) : (s.setDec v).machineChecks = s.machineChecks := rfl
@[simp] theorem State.setDec_checkstop (v : Word) : (s.setDec v).checkstop = s.checkstop := rfl
@[simp] theorem State.setDec_mem (v : Word) : (s.setDec v).mem = s.mem := rfl
@[simp] theorem State.setDec_memMap (v : Word) : (s.setDec v).memMap = s.memMap := rfl
@[simp] theorem State.setDec_stale (v : Word) : (s.setDec v).stale = s.stale := rfl
@[simp] theorem State.setDec_tbRose (v : Word) : (s.setDec v).tbRose = s.tbRose := rfl
@[simp] theorem State.setDec_lastCompleted (v : Word) : (s.setDec v).lastCompleted = s.lastCompleted := rfl
@[simp] theorem State.setDec_accesses (v : Word) : (s.setDec v).accesses = s.accesses := rfl
@[simp] theorem State.setDec_pmc1Cause (v : Word) : (s.setDec v).pmc1Cause = s.pmc1Cause := rfl
@[simp] theorem State.setDec_pmc2Cause (v : Word) : (s.setDec v).pmc2Cause = s.pmc2Cause := rfl
@[simp] theorem State.setDec_busLog (v : Word) : (s.setDec v).busLog = s.busLog := rfl
@[simp] theorem State.setDec_draws (v : Word) : (s.setDec v).draws = s.draws := rfl
@[simp] theorem State.setDec_schedule (v : Word) : (s.setDec v).schedule = s.schedule := rfl
@[simp] theorem State.setDec_taken (v : Word) : (s.setDec v).taken = s.taken := rfl
@[simp] theorem State.setDec_r (v : Word) (j : BitVec 5) : (s.setDec v).r j = s.r j := rfl
@[simp] theorem State.setDec_base (v : Word) (j : BitVec 5) : (s.setDec v).base j = s.base j := rfl
@[simp] theorem State.setDec_f (v : Word) (j : BitVec 5) : (s.setDec v).f j = s.f j := rfl
@[simp] theorem State.setDec_byteAt (v : Word) (x : Word) : (s.setDec v).byteAt x = s.byteAt x := rfl
@[simp] theorem State.setDec_crBit (v : Word) (j : BitVec 5) : (s.setDec v).crBit j = s.crBit j := rfl
@[simp] theorem State.setDec_watched (v : Word) (st : Bool) (x : Word) (k : Nat) : (s.setDec v).watched st x k = s.watched st x k := rfl

/-! ### takeException -/

@[simp] theorem State.takeException_gpr (k : ExceptionKind) (a w : Word) : (takeException k a w s).gpr = s.gpr := rfl
@[simp] theorem State.takeException_fpr (k : ExceptionKind) (a w : Word) : (takeException k a w s).fpr = s.fpr := rfl
@[simp] theorem State.takeException_cr (k : ExceptionKind) (a w : Word) : (takeException k a w s).cr = s.cr := rfl
@[simp] theorem State.takeException_xer (k : ExceptionKind) (a w : Word) : (takeException k a w s).xer = s.xer := rfl
@[simp] theorem State.takeException_lr (k : ExceptionKind) (a w : Word) : (takeException k a w s).lr = s.lr := rfl
@[simp] theorem State.takeException_ctr (k : ExceptionKind) (a w : Word) : (takeException k a w s).ctr = s.ctr := rfl
@[simp] theorem State.takeException_pc (k : ExceptionKind) (a w : Word) : (takeException k a w s).pc = vectorAddress s.msr k := rfl
@[simp] theorem State.takeException_fpscr (k : ExceptionKind) (a w : Word) : (takeException k a w s).fpscr = s.fpscr := rfl
@[simp] theorem State.takeException_msr (k : ExceptionKind) (a w : Word) : (takeException k a w s).msr = entryMsr s.msr k := rfl
@[simp] theorem State.takeException_srr0 (k : ExceptionKind) (a w : Word) : (takeException k a w s).srr0 = wordAligned a := rfl
@[simp] theorem State.takeException_srr1 (k : ExceptionKind) (a w : Word) : (takeException k a w s).srr1 = savedStatus s.msr w := rfl
@[simp] theorem State.takeException_dar (k : ExceptionKind) (a w : Word) : (takeException k a w s).dar = s.dar := rfl
@[simp] theorem State.takeException_dsisr (k : ExceptionKind) (a w : Word) : (takeException k a w s).dsisr = s.dsisr := rfl
@[simp] theorem State.takeException_sprg (k : ExceptionKind) (a w : Word) : (takeException k a w s).sprg = s.sprg := rfl
@[simp] theorem State.takeException_dec (k : ExceptionKind) (a w : Word) : (takeException k a w s).dec = s.dec := rfl
@[simp] theorem State.takeException_tb (k : ExceptionKind) (a w : Word) : (takeException k a w s).tb = s.tb := rfl
@[simp] theorem State.takeException_pvr (k : ExceptionKind) (a w : Word) : (takeException k a w s).pvr = s.pvr := rfl
@[simp] theorem State.takeException_pir (k : ExceptionKind) (a w : Word) : (takeException k a w s).pir = s.pir := rfl
@[simp] theorem State.takeException_hid0 (k : ExceptionKind) (a w : Word) : (takeException k a w s).hid0 = s.hid0 := rfl
@[simp] theorem State.takeException_iabr (k : ExceptionKind) (a w : Word) : (takeException k a w s).iabr = s.iabr := rfl
@[simp] theorem State.takeException_dabr (k : ExceptionKind) (a w : Word) : (takeException k a w s).dabr = s.dabr := rfl
@[simp] theorem State.takeException_ear (k : ExceptionKind) (a w : Word) : (takeException k a w s).ear = s.ear := rfl
@[simp] theorem State.takeException_sdr1 (k : ExceptionKind) (a w : Word) : (takeException k a w s).sdr1 = s.sdr1 := rfl
@[simp] theorem State.takeException_bat (k : ExceptionKind) (a w : Word) : (takeException k a w s).bat = s.bat := rfl
@[simp] theorem State.takeException_sr (k : ExceptionKind) (a w : Word) : (takeException k a w s).sr = s.sr := rfl
@[simp] theorem State.takeException_mmcr0 (k : ExceptionKind) (a w : Word) : (takeException k a w s).mmcr0 = s.mmcr0 := rfl
@[simp] theorem State.takeException_pmc1 (k : ExceptionKind) (a w : Word) : (takeException k a w s).pmc1 = s.pmc1 := rfl
@[simp] theorem State.takeException_pmc2 (k : ExceptionKind) (a w : Word) : (takeException k a w s).pmc2 = s.pmc2 := rfl
@[simp] theorem State.takeException_sia (k : ExceptionKind) (a w : Word) : (takeException k a w s).sia = s.sia := rfl
@[simp] theorem State.takeException_sda (k : ExceptionKind) (a w : Word) : (takeException k a w s).sda = s.sda := rfl
@[simp] theorem State.takeException_thresholdShadow (k : ExceptionKind) (a w : Word) : (takeException k a w s).thresholdShadow = s.thresholdShadow := rfl
@[simp] theorem State.takeException_marked (k : ExceptionKind) (a w : Word) : (takeException k a w s).marked = s.marked := rfl
@[simp] theorem State.takeException_reserve (k : ExceptionKind) (a w : Word) : (takeException k a w s).reserve = s.reserve := rfl
@[simp] theorem State.takeException_reserveAddr (k : ExceptionKind) (a w : Word) : (takeException k a w s).reserveAddr = s.reserveAddr := rfl
@[simp] theorem State.takeException_intPin (k : ExceptionKind) (a w : Word) : (takeException k a w s).intPin = s.intPin := rfl
@[simp] theorem State.takeException_smiPin (k : ExceptionKind) (a w : Word) : (takeException k a w s).smiPin = s.smiPin := rfl
@[simp] theorem State.takeException_tbenPin (k : ExceptionKind) (a w : Word) : (takeException k a w s).tbenPin = s.tbenPin := rfl
@[simp] theorem State.takeException_hresetPin (k : ExceptionKind) (a w : Word) : (takeException k a w s).hresetPin = s.hresetPin := rfl
@[simp] theorem State.takeException_decPending (k : ExceptionKind) (a w : Word) : (takeException k a w s).decPending = s.decPending := rfl
@[simp] theorem State.takeException_pmiPending (k : ExceptionKind) (a w : Word) : (takeException k a w s).pmiPending = s.pmiPending := rfl
@[simp] theorem State.takeException_pmSignaled (k : ExceptionKind) (a w : Word) : (takeException k a w s).pmSignaled = s.pmSignaled := rfl
@[simp] theorem State.takeException_everSignaled (k : ExceptionKind) (a w : Word) : (takeException k a w s).everSignaled = s.everSignaled := rfl
@[simp] theorem State.takeException_sresetPending (k : ExceptionKind) (a w : Word) : (takeException k a w s).sresetPending = s.sresetPending := rfl
@[simp] theorem State.takeException_machineChecks (k : ExceptionKind) (a w : Word) : (takeException k a w s).machineChecks = s.machineChecks := rfl
@[simp] theorem State.takeException_checkstop (k : ExceptionKind) (a w : Word) : (takeException k a w s).checkstop = s.checkstop := rfl
@[simp] theorem State.takeException_mem (k : ExceptionKind) (a w : Word) : (takeException k a w s).mem = s.mem := rfl
@[simp] theorem State.takeException_memMap (k : ExceptionKind) (a w : Word) : (takeException k a w s).memMap = s.memMap := rfl
@[simp] theorem State.takeException_stale (k : ExceptionKind) (a w : Word) : (takeException k a w s).stale = s.stale := rfl
@[simp] theorem State.takeException_tbRose (k : ExceptionKind) (a w : Word) : (takeException k a w s).tbRose = s.tbRose := rfl
@[simp] theorem State.takeException_lastCompleted (k : ExceptionKind) (a w : Word) : (takeException k a w s).lastCompleted = s.lastCompleted := rfl
@[simp] theorem State.takeException_accesses (k : ExceptionKind) (a w : Word) : (takeException k a w s).accesses = s.accesses := rfl
@[simp] theorem State.takeException_pmc1Cause (k : ExceptionKind) (a w : Word) : (takeException k a w s).pmc1Cause = s.pmc1Cause := rfl
@[simp] theorem State.takeException_pmc2Cause (k : ExceptionKind) (a w : Word) : (takeException k a w s).pmc2Cause = s.pmc2Cause := rfl
@[simp] theorem State.takeException_busLog (k : ExceptionKind) (a w : Word) : (takeException k a w s).busLog = s.busLog := rfl
@[simp] theorem State.takeException_draws (k : ExceptionKind) (a w : Word) : (takeException k a w s).draws = s.draws := rfl
@[simp] theorem State.takeException_schedule (k : ExceptionKind) (a w : Word) : (takeException k a w s).schedule = s.schedule := rfl
@[simp] theorem State.takeException_taken (k : ExceptionKind) (a w : Word) : (takeException k a w s).taken = some k := rfl
@[simp] theorem State.takeException_r (k : ExceptionKind) (a w : Word) (j : BitVec 5) : (takeException k a w s).r j = s.r j := rfl
@[simp] theorem State.takeException_base (k : ExceptionKind) (a w : Word) (j : BitVec 5) : (takeException k a w s).base j = s.base j := rfl
@[simp] theorem State.takeException_f (k : ExceptionKind) (a w : Word) (j : BitVec 5) : (takeException k a w s).f j = s.f j := rfl
@[simp] theorem State.takeException_byteAt (k : ExceptionKind) (a w : Word) (x : Word) : (takeException k a w s).byteAt x = s.byteAt x := rfl
@[simp] theorem State.takeException_crBit (k : ExceptionKind) (a w : Word) (j : BitVec 5) : (takeException k a w s).crBit j = s.crBit j := rfl
@[simp] theorem State.takeException_watched (k : ExceptionKind) (a w : Word) (st : Bool) (x : Word) (m : Nat) : (takeException k a w s).watched st x m = s.watched st x m := rfl

/-! ### signalNow and the registers whose write may signal -/

/-- Without a negative counter that may signal, nothing happens. -/
theorem State.signalNow_quiet (h : s.countersSignal = false) : s.signalNow = s := by simp [State.signalNow, h]

/-- With one, the signal is given, SIA and SDA as at any signal. -/
theorem State.signalNow_signals (h : s.countersSignal = true) :
    s.signalNow =
      { (s.drawn 2).signalInterrupt with
        sia := (s.signalSample ⟨s.fresh 32, (s.drawn 1).fresh 32⟩).insn
        sda := (s.signalSample ⟨s.fresh 32, (s.drawn 1).fresh 32⟩).operand } := by
  simp [State.signalNow, h]

@[simp] theorem State.signalNow_gpr : s.signalNow.gpr = s.gpr := by unfold State.signalNow; split <;> rfl
@[simp] theorem State.signalNow_fpr : s.signalNow.fpr = s.fpr := by unfold State.signalNow; split <;> rfl
@[simp] theorem State.signalNow_cr : s.signalNow.cr = s.cr := by unfold State.signalNow; split <;> rfl
@[simp] theorem State.signalNow_xer : s.signalNow.xer = s.xer := by unfold State.signalNow; split <;> rfl
@[simp] theorem State.signalNow_lr : s.signalNow.lr = s.lr := by unfold State.signalNow; split <;> rfl
@[simp] theorem State.signalNow_ctr : s.signalNow.ctr = s.ctr := by unfold State.signalNow; split <;> rfl
@[simp] theorem State.signalNow_pc : s.signalNow.pc = s.pc := by unfold State.signalNow; split <;> rfl
@[simp] theorem State.signalNow_fpscr : s.signalNow.fpscr = s.fpscr := by unfold State.signalNow; split <;> rfl
@[simp] theorem State.signalNow_msr : s.signalNow.msr = s.msr := by unfold State.signalNow; split <;> rfl
@[simp] theorem State.signalNow_srr0 : s.signalNow.srr0 = s.srr0 := by unfold State.signalNow; split <;> rfl
@[simp] theorem State.signalNow_srr1 : s.signalNow.srr1 = s.srr1 := by unfold State.signalNow; split <;> rfl
@[simp] theorem State.signalNow_dar : s.signalNow.dar = s.dar := by unfold State.signalNow; split <;> rfl
@[simp] theorem State.signalNow_dsisr : s.signalNow.dsisr = s.dsisr := by unfold State.signalNow; split <;> rfl
@[simp] theorem State.signalNow_sprg : s.signalNow.sprg = s.sprg := by unfold State.signalNow; split <;> rfl
@[simp] theorem State.signalNow_dec : s.signalNow.dec = s.dec := by unfold State.signalNow; split <;> rfl
@[simp] theorem State.signalNow_tb : s.signalNow.tb = s.tb := by unfold State.signalNow; split <;> rfl
@[simp] theorem State.signalNow_pvr : s.signalNow.pvr = s.pvr := by unfold State.signalNow; split <;> rfl
@[simp] theorem State.signalNow_pir : s.signalNow.pir = s.pir := by unfold State.signalNow; split <;> rfl
@[simp] theorem State.signalNow_hid0 : s.signalNow.hid0 = s.hid0 := by unfold State.signalNow; split <;> rfl
@[simp] theorem State.signalNow_iabr : s.signalNow.iabr = s.iabr := by unfold State.signalNow; split <;> rfl
@[simp] theorem State.signalNow_dabr : s.signalNow.dabr = s.dabr := by unfold State.signalNow; split <;> rfl
@[simp] theorem State.signalNow_ear : s.signalNow.ear = s.ear := by unfold State.signalNow; split <;> rfl
@[simp] theorem State.signalNow_sdr1 : s.signalNow.sdr1 = s.sdr1 := by unfold State.signalNow; split <;> rfl
@[simp] theorem State.signalNow_bat : s.signalNow.bat = s.bat := by unfold State.signalNow; split <;> rfl
@[simp] theorem State.signalNow_sr : s.signalNow.sr = s.sr := by unfold State.signalNow; split <;> rfl
@[simp] theorem State.signalNow_pmc1 : s.signalNow.pmc1 = s.pmc1 := by unfold State.signalNow; split <;> rfl
@[simp] theorem State.signalNow_pmc2 : s.signalNow.pmc2 = s.pmc2 := by unfold State.signalNow; split <;> rfl
@[simp] theorem State.signalNow_thresholdShadow : s.signalNow.thresholdShadow = s.thresholdShadow := by unfold State.signalNow; split <;> rfl
@[simp] theorem State.signalNow_marked : s.signalNow.marked = s.marked := by unfold State.signalNow; split <;> rfl
@[simp] theorem State.signalNow_reserve : s.signalNow.reserve = s.reserve := by unfold State.signalNow; split <;> rfl
@[simp] theorem State.signalNow_reserveAddr : s.signalNow.reserveAddr = s.reserveAddr := by unfold State.signalNow; split <;> rfl
@[simp] theorem State.signalNow_intPin : s.signalNow.intPin = s.intPin := by unfold State.signalNow; split <;> rfl
@[simp] theorem State.signalNow_smiPin : s.signalNow.smiPin = s.smiPin := by unfold State.signalNow; split <;> rfl
@[simp] theorem State.signalNow_tbenPin : s.signalNow.tbenPin = s.tbenPin := by unfold State.signalNow; split <;> rfl
@[simp] theorem State.signalNow_hresetPin : s.signalNow.hresetPin = s.hresetPin := by unfold State.signalNow; split <;> rfl
@[simp] theorem State.signalNow_decPending : s.signalNow.decPending = s.decPending := by unfold State.signalNow; split <;> rfl
@[simp] theorem State.signalNow_sresetPending : s.signalNow.sresetPending = s.sresetPending := by unfold State.signalNow; split <;> rfl
@[simp] theorem State.signalNow_machineChecks : s.signalNow.machineChecks = s.machineChecks := by unfold State.signalNow; split <;> rfl
@[simp] theorem State.signalNow_checkstop : s.signalNow.checkstop = s.checkstop := by unfold State.signalNow; split <;> rfl
@[simp] theorem State.signalNow_mem : s.signalNow.mem = s.mem := by unfold State.signalNow; split <;> rfl
@[simp] theorem State.signalNow_memMap : s.signalNow.memMap = s.memMap := by unfold State.signalNow; split <;> rfl
@[simp] theorem State.signalNow_stale : s.signalNow.stale = s.stale := by unfold State.signalNow; split <;> rfl
@[simp] theorem State.signalNow_tbRose : s.signalNow.tbRose = s.tbRose := by unfold State.signalNow; split <;> rfl
@[simp] theorem State.signalNow_lastCompleted : s.signalNow.lastCompleted = s.lastCompleted := by unfold State.signalNow; split <;> rfl
@[simp] theorem State.signalNow_accesses : s.signalNow.accesses = s.accesses := by unfold State.signalNow; split <;> rfl
@[simp] theorem State.signalNow_pmc1Cause : s.signalNow.pmc1Cause = s.pmc1Cause := by unfold State.signalNow; split <;> rfl
@[simp] theorem State.signalNow_pmc2Cause : s.signalNow.pmc2Cause = s.pmc2Cause := by unfold State.signalNow; split <;> rfl
@[simp] theorem State.signalNow_busLog : s.signalNow.busLog = s.busLog := by unfold State.signalNow; split <;> rfl
@[simp] theorem State.signalNow_schedule : s.signalNow.schedule = s.schedule := by unfold State.signalNow; split <;> rfl
@[simp] theorem State.signalNow_taken : s.signalNow.taken = s.taken := by unfold State.signalNow; split <;> rfl
@[simp] theorem State.signalNow_r (j : BitVec 5) : s.signalNow.r j = s.r j := by simp [State.r]
@[simp] theorem State.signalNow_byteAt (x : Word) : s.signalNow.byteAt x = s.byteAt x := by simp [State.byteAt]

@[simp] theorem State.setMmcr0_gpr (v : Word) : (s.setMmcr0 v).gpr = s.gpr := by simp [State.setMmcr0]
@[simp] theorem State.setMmcr0_fpr (v : Word) : (s.setMmcr0 v).fpr = s.fpr := by simp [State.setMmcr0]
@[simp] theorem State.setMmcr0_cr (v : Word) : (s.setMmcr0 v).cr = s.cr := by simp [State.setMmcr0]
@[simp] theorem State.setMmcr0_xer (v : Word) : (s.setMmcr0 v).xer = s.xer := by simp [State.setMmcr0]
@[simp] theorem State.setMmcr0_lr (v : Word) : (s.setMmcr0 v).lr = s.lr := by simp [State.setMmcr0]
@[simp] theorem State.setMmcr0_ctr (v : Word) : (s.setMmcr0 v).ctr = s.ctr := by simp [State.setMmcr0]
@[simp] theorem State.setMmcr0_pc (v : Word) : (s.setMmcr0 v).pc = s.pc := by simp [State.setMmcr0]
@[simp] theorem State.setMmcr0_fpscr (v : Word) : (s.setMmcr0 v).fpscr = s.fpscr := by simp [State.setMmcr0]
@[simp] theorem State.setMmcr0_msr (v : Word) : (s.setMmcr0 v).msr = s.msr := by simp [State.setMmcr0]
@[simp] theorem State.setMmcr0_srr0 (v : Word) : (s.setMmcr0 v).srr0 = s.srr0 := by simp [State.setMmcr0]
@[simp] theorem State.setMmcr0_srr1 (v : Word) : (s.setMmcr0 v).srr1 = s.srr1 := by simp [State.setMmcr0]
@[simp] theorem State.setMmcr0_dar (v : Word) : (s.setMmcr0 v).dar = s.dar := by simp [State.setMmcr0]
@[simp] theorem State.setMmcr0_dsisr (v : Word) : (s.setMmcr0 v).dsisr = s.dsisr := by simp [State.setMmcr0]
@[simp] theorem State.setMmcr0_sprg (v : Word) : (s.setMmcr0 v).sprg = s.sprg := by simp [State.setMmcr0]
@[simp] theorem State.setMmcr0_dec (v : Word) : (s.setMmcr0 v).dec = s.dec := by simp [State.setMmcr0]
@[simp] theorem State.setMmcr0_tb (v : Word) : (s.setMmcr0 v).tb = s.tb := by simp [State.setMmcr0]
@[simp] theorem State.setMmcr0_pvr (v : Word) : (s.setMmcr0 v).pvr = s.pvr := by simp [State.setMmcr0]
@[simp] theorem State.setMmcr0_pir (v : Word) : (s.setMmcr0 v).pir = s.pir := by simp [State.setMmcr0]
@[simp] theorem State.setMmcr0_hid0 (v : Word) : (s.setMmcr0 v).hid0 = s.hid0 := by simp [State.setMmcr0]
@[simp] theorem State.setMmcr0_iabr (v : Word) : (s.setMmcr0 v).iabr = s.iabr := by simp [State.setMmcr0]
@[simp] theorem State.setMmcr0_dabr (v : Word) : (s.setMmcr0 v).dabr = s.dabr := by simp [State.setMmcr0]
@[simp] theorem State.setMmcr0_ear (v : Word) : (s.setMmcr0 v).ear = s.ear := by simp [State.setMmcr0]
@[simp] theorem State.setMmcr0_sdr1 (v : Word) : (s.setMmcr0 v).sdr1 = s.sdr1 := by simp [State.setMmcr0]
@[simp] theorem State.setMmcr0_bat (v : Word) : (s.setMmcr0 v).bat = s.bat := by simp [State.setMmcr0]
@[simp] theorem State.setMmcr0_sr (v : Word) : (s.setMmcr0 v).sr = s.sr := by simp [State.setMmcr0]
@[simp] theorem State.setMmcr0_pmc1 (v : Word) : (s.setMmcr0 v).pmc1 = s.pmc1 := by simp [State.setMmcr0]
@[simp] theorem State.setMmcr0_pmc2 (v : Word) : (s.setMmcr0 v).pmc2 = s.pmc2 := by simp [State.setMmcr0]
@[simp] theorem State.setMmcr0_thresholdShadow (v : Word) : (s.setMmcr0 v).thresholdShadow = s.thresholdShadow := by simp [State.setMmcr0]
@[simp] theorem State.setMmcr0_marked (v : Word) : (s.setMmcr0 v).marked = s.marked := by simp [State.setMmcr0]
@[simp] theorem State.setMmcr0_reserve (v : Word) : (s.setMmcr0 v).reserve = s.reserve := by simp [State.setMmcr0]
@[simp] theorem State.setMmcr0_reserveAddr (v : Word) : (s.setMmcr0 v).reserveAddr = s.reserveAddr := by simp [State.setMmcr0]
@[simp] theorem State.setMmcr0_intPin (v : Word) : (s.setMmcr0 v).intPin = s.intPin := by simp [State.setMmcr0]
@[simp] theorem State.setMmcr0_smiPin (v : Word) : (s.setMmcr0 v).smiPin = s.smiPin := by simp [State.setMmcr0]
@[simp] theorem State.setMmcr0_tbenPin (v : Word) : (s.setMmcr0 v).tbenPin = s.tbenPin := by simp [State.setMmcr0]
@[simp] theorem State.setMmcr0_hresetPin (v : Word) : (s.setMmcr0 v).hresetPin = s.hresetPin := by simp [State.setMmcr0]
@[simp] theorem State.setMmcr0_decPending (v : Word) : (s.setMmcr0 v).decPending = s.decPending := by simp [State.setMmcr0]
@[simp] theorem State.setMmcr0_sresetPending (v : Word) : (s.setMmcr0 v).sresetPending = s.sresetPending := by simp [State.setMmcr0]
@[simp] theorem State.setMmcr0_machineChecks (v : Word) : (s.setMmcr0 v).machineChecks = s.machineChecks := by simp [State.setMmcr0]
@[simp] theorem State.setMmcr0_checkstop (v : Word) : (s.setMmcr0 v).checkstop = s.checkstop := by simp [State.setMmcr0]
@[simp] theorem State.setMmcr0_mem (v : Word) : (s.setMmcr0 v).mem = s.mem := by simp [State.setMmcr0]
@[simp] theorem State.setMmcr0_memMap (v : Word) : (s.setMmcr0 v).memMap = s.memMap := by simp [State.setMmcr0]
@[simp] theorem State.setMmcr0_stale (v : Word) : (s.setMmcr0 v).stale = s.stale := by simp [State.setMmcr0]
@[simp] theorem State.setMmcr0_tbRose (v : Word) : (s.setMmcr0 v).tbRose = s.tbRose := by simp [State.setMmcr0]
@[simp] theorem State.setMmcr0_lastCompleted (v : Word) : (s.setMmcr0 v).lastCompleted = s.lastCompleted := by simp [State.setMmcr0]
@[simp] theorem State.setMmcr0_accesses (v : Word) : (s.setMmcr0 v).accesses = s.accesses := by simp [State.setMmcr0]
@[simp] theorem State.setMmcr0_pmc1Cause (v : Word) : (s.setMmcr0 v).pmc1Cause = s.pmc1Cause := by simp [State.setMmcr0]
@[simp] theorem State.setMmcr0_pmc2Cause (v : Word) : (s.setMmcr0 v).pmc2Cause = s.pmc2Cause := by simp [State.setMmcr0]
@[simp] theorem State.setMmcr0_busLog (v : Word) : (s.setMmcr0 v).busLog = s.busLog := by simp [State.setMmcr0]
@[simp] theorem State.setMmcr0_schedule (v : Word) : (s.setMmcr0 v).schedule = s.schedule := by simp [State.setMmcr0]
@[simp] theorem State.setMmcr0_taken (v : Word) : (s.setMmcr0 v).taken = s.taken := by simp [State.setMmcr0]
@[simp] theorem State.setMmcr0_r (v : Word) (j : BitVec 5) : (s.setMmcr0 v).r j = s.r j := by simp [State.r]
@[simp] theorem State.setMmcr0_byteAt (v : Word) (x : Word) : (s.setMmcr0 v).byteAt x = s.byteAt x := by simp [State.byteAt]

@[simp] theorem State.setPmc1_gpr (v : Word) : (s.setPmc1 v).gpr = s.gpr := by simp [State.setPmc1]
@[simp] theorem State.setPmc1_fpr (v : Word) : (s.setPmc1 v).fpr = s.fpr := by simp [State.setPmc1]
@[simp] theorem State.setPmc1_cr (v : Word) : (s.setPmc1 v).cr = s.cr := by simp [State.setPmc1]
@[simp] theorem State.setPmc1_xer (v : Word) : (s.setPmc1 v).xer = s.xer := by simp [State.setPmc1]
@[simp] theorem State.setPmc1_lr (v : Word) : (s.setPmc1 v).lr = s.lr := by simp [State.setPmc1]
@[simp] theorem State.setPmc1_ctr (v : Word) : (s.setPmc1 v).ctr = s.ctr := by simp [State.setPmc1]
@[simp] theorem State.setPmc1_pc (v : Word) : (s.setPmc1 v).pc = s.pc := by simp [State.setPmc1]
@[simp] theorem State.setPmc1_fpscr (v : Word) : (s.setPmc1 v).fpscr = s.fpscr := by simp [State.setPmc1]
@[simp] theorem State.setPmc1_msr (v : Word) : (s.setPmc1 v).msr = s.msr := by simp [State.setPmc1]
@[simp] theorem State.setPmc1_srr0 (v : Word) : (s.setPmc1 v).srr0 = s.srr0 := by simp [State.setPmc1]
@[simp] theorem State.setPmc1_srr1 (v : Word) : (s.setPmc1 v).srr1 = s.srr1 := by simp [State.setPmc1]
@[simp] theorem State.setPmc1_dar (v : Word) : (s.setPmc1 v).dar = s.dar := by simp [State.setPmc1]
@[simp] theorem State.setPmc1_dsisr (v : Word) : (s.setPmc1 v).dsisr = s.dsisr := by simp [State.setPmc1]
@[simp] theorem State.setPmc1_sprg (v : Word) : (s.setPmc1 v).sprg = s.sprg := by simp [State.setPmc1]
@[simp] theorem State.setPmc1_dec (v : Word) : (s.setPmc1 v).dec = s.dec := by simp [State.setPmc1]
@[simp] theorem State.setPmc1_tb (v : Word) : (s.setPmc1 v).tb = s.tb := by simp [State.setPmc1]
@[simp] theorem State.setPmc1_pvr (v : Word) : (s.setPmc1 v).pvr = s.pvr := by simp [State.setPmc1]
@[simp] theorem State.setPmc1_pir (v : Word) : (s.setPmc1 v).pir = s.pir := by simp [State.setPmc1]
@[simp] theorem State.setPmc1_hid0 (v : Word) : (s.setPmc1 v).hid0 = s.hid0 := by simp [State.setPmc1]
@[simp] theorem State.setPmc1_iabr (v : Word) : (s.setPmc1 v).iabr = s.iabr := by simp [State.setPmc1]
@[simp] theorem State.setPmc1_dabr (v : Word) : (s.setPmc1 v).dabr = s.dabr := by simp [State.setPmc1]
@[simp] theorem State.setPmc1_ear (v : Word) : (s.setPmc1 v).ear = s.ear := by simp [State.setPmc1]
@[simp] theorem State.setPmc1_sdr1 (v : Word) : (s.setPmc1 v).sdr1 = s.sdr1 := by simp [State.setPmc1]
@[simp] theorem State.setPmc1_bat (v : Word) : (s.setPmc1 v).bat = s.bat := by simp [State.setPmc1]
@[simp] theorem State.setPmc1_sr (v : Word) : (s.setPmc1 v).sr = s.sr := by simp [State.setPmc1]
@[simp] theorem State.setPmc1_pmc1 (v : Word) : (s.setPmc1 v).pmc1 = v := by simp [State.setPmc1]
@[simp] theorem State.setPmc1_pmc2 (v : Word) : (s.setPmc1 v).pmc2 = s.pmc2 := by simp [State.setPmc1]
@[simp] theorem State.setPmc1_thresholdShadow (v : Word) : (s.setPmc1 v).thresholdShadow = s.thresholdShadow := by simp [State.setPmc1]
@[simp] theorem State.setPmc1_marked (v : Word) : (s.setPmc1 v).marked = s.marked := by simp [State.setPmc1]
@[simp] theorem State.setPmc1_reserve (v : Word) : (s.setPmc1 v).reserve = s.reserve := by simp [State.setPmc1]
@[simp] theorem State.setPmc1_reserveAddr (v : Word) : (s.setPmc1 v).reserveAddr = s.reserveAddr := by simp [State.setPmc1]
@[simp] theorem State.setPmc1_intPin (v : Word) : (s.setPmc1 v).intPin = s.intPin := by simp [State.setPmc1]
@[simp] theorem State.setPmc1_smiPin (v : Word) : (s.setPmc1 v).smiPin = s.smiPin := by simp [State.setPmc1]
@[simp] theorem State.setPmc1_tbenPin (v : Word) : (s.setPmc1 v).tbenPin = s.tbenPin := by simp [State.setPmc1]
@[simp] theorem State.setPmc1_hresetPin (v : Word) : (s.setPmc1 v).hresetPin = s.hresetPin := by simp [State.setPmc1]
@[simp] theorem State.setPmc1_decPending (v : Word) : (s.setPmc1 v).decPending = s.decPending := by simp [State.setPmc1]
@[simp] theorem State.setPmc1_sresetPending (v : Word) : (s.setPmc1 v).sresetPending = s.sresetPending := by simp [State.setPmc1]
@[simp] theorem State.setPmc1_machineChecks (v : Word) : (s.setPmc1 v).machineChecks = s.machineChecks := by simp [State.setPmc1]
@[simp] theorem State.setPmc1_checkstop (v : Word) : (s.setPmc1 v).checkstop = s.checkstop := by simp [State.setPmc1]
@[simp] theorem State.setPmc1_mem (v : Word) : (s.setPmc1 v).mem = s.mem := by simp [State.setPmc1]
@[simp] theorem State.setPmc1_memMap (v : Word) : (s.setPmc1 v).memMap = s.memMap := by simp [State.setPmc1]
@[simp] theorem State.setPmc1_stale (v : Word) : (s.setPmc1 v).stale = s.stale := by simp [State.setPmc1]
@[simp] theorem State.setPmc1_tbRose (v : Word) : (s.setPmc1 v).tbRose = s.tbRose := by simp [State.setPmc1]
@[simp] theorem State.setPmc1_lastCompleted (v : Word) : (s.setPmc1 v).lastCompleted = s.lastCompleted := by simp [State.setPmc1]
@[simp] theorem State.setPmc1_accesses (v : Word) : (s.setPmc1 v).accesses = s.accesses := by simp [State.setPmc1]
@[simp] theorem State.setPmc1_pmc1Cause (v : Word) : (s.setPmc1 v).pmc1Cause = .written := by simp [State.setPmc1]
@[simp] theorem State.setPmc1_pmc2Cause (v : Word) : (s.setPmc1 v).pmc2Cause = s.pmc2Cause := by simp [State.setPmc1]
@[simp] theorem State.setPmc1_busLog (v : Word) : (s.setPmc1 v).busLog = s.busLog := by simp [State.setPmc1]
@[simp] theorem State.setPmc1_schedule (v : Word) : (s.setPmc1 v).schedule = s.schedule := by simp [State.setPmc1]
@[simp] theorem State.setPmc1_taken (v : Word) : (s.setPmc1 v).taken = s.taken := by simp [State.setPmc1]
@[simp] theorem State.setPmc1_r (v : Word) (j : BitVec 5) : (s.setPmc1 v).r j = s.r j := by simp [State.r]
@[simp] theorem State.setPmc1_byteAt (v : Word) (x : Word) : (s.setPmc1 v).byteAt x = s.byteAt x := by simp [State.byteAt]

@[simp] theorem State.setPmc2_gpr (v : Word) : (s.setPmc2 v).gpr = s.gpr := by simp [State.setPmc2]
@[simp] theorem State.setPmc2_fpr (v : Word) : (s.setPmc2 v).fpr = s.fpr := by simp [State.setPmc2]
@[simp] theorem State.setPmc2_cr (v : Word) : (s.setPmc2 v).cr = s.cr := by simp [State.setPmc2]
@[simp] theorem State.setPmc2_xer (v : Word) : (s.setPmc2 v).xer = s.xer := by simp [State.setPmc2]
@[simp] theorem State.setPmc2_lr (v : Word) : (s.setPmc2 v).lr = s.lr := by simp [State.setPmc2]
@[simp] theorem State.setPmc2_ctr (v : Word) : (s.setPmc2 v).ctr = s.ctr := by simp [State.setPmc2]
@[simp] theorem State.setPmc2_pc (v : Word) : (s.setPmc2 v).pc = s.pc := by simp [State.setPmc2]
@[simp] theorem State.setPmc2_fpscr (v : Word) : (s.setPmc2 v).fpscr = s.fpscr := by simp [State.setPmc2]
@[simp] theorem State.setPmc2_msr (v : Word) : (s.setPmc2 v).msr = s.msr := by simp [State.setPmc2]
@[simp] theorem State.setPmc2_srr0 (v : Word) : (s.setPmc2 v).srr0 = s.srr0 := by simp [State.setPmc2]
@[simp] theorem State.setPmc2_srr1 (v : Word) : (s.setPmc2 v).srr1 = s.srr1 := by simp [State.setPmc2]
@[simp] theorem State.setPmc2_dar (v : Word) : (s.setPmc2 v).dar = s.dar := by simp [State.setPmc2]
@[simp] theorem State.setPmc2_dsisr (v : Word) : (s.setPmc2 v).dsisr = s.dsisr := by simp [State.setPmc2]
@[simp] theorem State.setPmc2_sprg (v : Word) : (s.setPmc2 v).sprg = s.sprg := by simp [State.setPmc2]
@[simp] theorem State.setPmc2_dec (v : Word) : (s.setPmc2 v).dec = s.dec := by simp [State.setPmc2]
@[simp] theorem State.setPmc2_tb (v : Word) : (s.setPmc2 v).tb = s.tb := by simp [State.setPmc2]
@[simp] theorem State.setPmc2_pvr (v : Word) : (s.setPmc2 v).pvr = s.pvr := by simp [State.setPmc2]
@[simp] theorem State.setPmc2_pir (v : Word) : (s.setPmc2 v).pir = s.pir := by simp [State.setPmc2]
@[simp] theorem State.setPmc2_hid0 (v : Word) : (s.setPmc2 v).hid0 = s.hid0 := by simp [State.setPmc2]
@[simp] theorem State.setPmc2_iabr (v : Word) : (s.setPmc2 v).iabr = s.iabr := by simp [State.setPmc2]
@[simp] theorem State.setPmc2_dabr (v : Word) : (s.setPmc2 v).dabr = s.dabr := by simp [State.setPmc2]
@[simp] theorem State.setPmc2_ear (v : Word) : (s.setPmc2 v).ear = s.ear := by simp [State.setPmc2]
@[simp] theorem State.setPmc2_sdr1 (v : Word) : (s.setPmc2 v).sdr1 = s.sdr1 := by simp [State.setPmc2]
@[simp] theorem State.setPmc2_bat (v : Word) : (s.setPmc2 v).bat = s.bat := by simp [State.setPmc2]
@[simp] theorem State.setPmc2_sr (v : Word) : (s.setPmc2 v).sr = s.sr := by simp [State.setPmc2]
@[simp] theorem State.setPmc2_pmc1 (v : Word) : (s.setPmc2 v).pmc1 = s.pmc1 := by simp [State.setPmc2]
@[simp] theorem State.setPmc2_pmc2 (v : Word) : (s.setPmc2 v).pmc2 = v := by simp [State.setPmc2]
@[simp] theorem State.setPmc2_thresholdShadow (v : Word) : (s.setPmc2 v).thresholdShadow = s.thresholdShadow := by simp [State.setPmc2]
@[simp] theorem State.setPmc2_marked (v : Word) : (s.setPmc2 v).marked = s.marked := by simp [State.setPmc2]
@[simp] theorem State.setPmc2_reserve (v : Word) : (s.setPmc2 v).reserve = s.reserve := by simp [State.setPmc2]
@[simp] theorem State.setPmc2_reserveAddr (v : Word) : (s.setPmc2 v).reserveAddr = s.reserveAddr := by simp [State.setPmc2]
@[simp] theorem State.setPmc2_intPin (v : Word) : (s.setPmc2 v).intPin = s.intPin := by simp [State.setPmc2]
@[simp] theorem State.setPmc2_smiPin (v : Word) : (s.setPmc2 v).smiPin = s.smiPin := by simp [State.setPmc2]
@[simp] theorem State.setPmc2_tbenPin (v : Word) : (s.setPmc2 v).tbenPin = s.tbenPin := by simp [State.setPmc2]
@[simp] theorem State.setPmc2_hresetPin (v : Word) : (s.setPmc2 v).hresetPin = s.hresetPin := by simp [State.setPmc2]
@[simp] theorem State.setPmc2_decPending (v : Word) : (s.setPmc2 v).decPending = s.decPending := by simp [State.setPmc2]
@[simp] theorem State.setPmc2_sresetPending (v : Word) : (s.setPmc2 v).sresetPending = s.sresetPending := by simp [State.setPmc2]
@[simp] theorem State.setPmc2_machineChecks (v : Word) : (s.setPmc2 v).machineChecks = s.machineChecks := by simp [State.setPmc2]
@[simp] theorem State.setPmc2_checkstop (v : Word) : (s.setPmc2 v).checkstop = s.checkstop := by simp [State.setPmc2]
@[simp] theorem State.setPmc2_mem (v : Word) : (s.setPmc2 v).mem = s.mem := by simp [State.setPmc2]
@[simp] theorem State.setPmc2_memMap (v : Word) : (s.setPmc2 v).memMap = s.memMap := by simp [State.setPmc2]
@[simp] theorem State.setPmc2_stale (v : Word) : (s.setPmc2 v).stale = s.stale := by simp [State.setPmc2]
@[simp] theorem State.setPmc2_tbRose (v : Word) : (s.setPmc2 v).tbRose = s.tbRose := by simp [State.setPmc2]
@[simp] theorem State.setPmc2_lastCompleted (v : Word) : (s.setPmc2 v).lastCompleted = s.lastCompleted := by simp [State.setPmc2]
@[simp] theorem State.setPmc2_accesses (v : Word) : (s.setPmc2 v).accesses = s.accesses := by simp [State.setPmc2]
@[simp] theorem State.setPmc2_pmc1Cause (v : Word) : (s.setPmc2 v).pmc1Cause = s.pmc1Cause := by simp [State.setPmc2]
@[simp] theorem State.setPmc2_pmc2Cause (v : Word) : (s.setPmc2 v).pmc2Cause = .written := by simp [State.setPmc2]
@[simp] theorem State.setPmc2_busLog (v : Word) : (s.setPmc2 v).busLog = s.busLog := by simp [State.setPmc2]
@[simp] theorem State.setPmc2_schedule (v : Word) : (s.setPmc2 v).schedule = s.schedule := by simp [State.setPmc2]
@[simp] theorem State.setPmc2_taken (v : Word) : (s.setPmc2 v).taken = s.taken := by simp [State.setPmc2]
@[simp] theorem State.setPmc2_r (v : Word) (j : BitVec 5) : (s.setPmc2 v).r j = s.r j := by simp [State.r]
@[simp] theorem State.setPmc2_byteAt (v : Word) (x : Word) : (s.setPmc2 v).byteAt x = s.byteAt x := by simp [State.byteAt]

/-! ### Registers read back -/

theorem State.setR_r (i j : BitVec 5) (v : Word) : (s.setR i v).r j = if j = i then v else s.r j := by
  simp only [State.r, State.setR, Vector.getElem_set, BitVec.toNat_inj, eq_comm]

@[simp] theorem State.setR_r_same (i : BitVec 5) (v : Word) : (s.setR i v).r i = v := by simp [State.setR_r]

theorem State.setR_r_ne {i j : BitVec 5} (h : j ≠ i) (v : Word) : (s.setR i v).r j = s.r j := by simp [State.setR_r, h]

theorem State.setF_f (i j : BitVec 5) (v : Dword) : (s.setF i v).f j = if j = i then v else s.f j := by
  simp only [State.f, State.setF, Vector.getElem_set, BitVec.toNat_inj, eq_comm]

@[simp] theorem State.setF_f_same (i : BitVec 5) (v : Dword) : (s.setF i v).f i = v := by simp [State.setF_f]

theorem State.setF_f_ne {i j : BitVec 5} (h : j ≠ i) (v : Dword) : (s.setF i v).f j = s.f j := by simp [State.setF_f, h]

/-- Two states are equal when their fields are: the step for frames written as a record update. -/
theorem State.eta_gpr_pc (t : State) (h : t = { s with gpr := t.gpr, pc := t.pc }) :
    { t with gpr := s.gpr, pc := s.pc } = s := by
  rw [h]

end Sys2Proof.Machine
end

