-- ==== Sys2Proof/Laws/Memory.lean ====
section
/-! SUPPORT. Memory: reading back what was written, what a write leaves alone, and the canonical form, which every operation keeps. -/

namespace Sys2Proof.Machine

theorem Memory.read_write (m : Memory) (a x : Nat) (b : Byte) (low : Nat) (h : Memory.wfFrom low m = true) :
    Memory.read (Memory.write m a b) x = if x = a then b else Memory.read m x := by
  induction m generalizing low with
  | nil =>
    unfold Memory.write
    by_cases hb : b = Config.unlistedByte <;> by_cases hx : x = a <;> simp [hb, hx, Memory.read, eq_comm]
    intro e; exact absurd e.symm hx
  | cons c rest ih =>
    obtain ⟨k, v⟩ := c
    simp only [Memory.wfFrom, Bool.and_eq_true, decide_eq_true_eq] at h
    have hrest : ∀ y, y ≤ k → Memory.read rest y = Config.unlistedByte := fun y hy => by
      have : ∀ (l : Memory) (lo : Nat), Memory.wfFrom lo l = true → ∀ y, y < lo → Memory.read l y = Config.unlistedByte := by
        intro l
        induction l with
        | nil => intros; rfl
        | cons c l ihl =>
          intro lo hl y hy
          simp only [Memory.wfFrom, Bool.and_eq_true, decide_eq_true_eq] at hl
          have : c.1 ≠ y := by omega
          simpa [Memory.read, this] using ihl (c.1 + 1) hl.2 y (by omega)
      exact this rest (k + 1) h.2 y (by omega)
    unfold Memory.write
    split
    · rename_i hlt
      split
      · rename_i hb
        by_cases hx : x = a
        · subst hx
          simp [Memory.read, show k ≠ x by omega, hrest x (by omega), hb]
        · simp [hx]
      · by_cases hx : x = a
        · simp [Memory.read, hx]
        · simp [Memory.read, hx, Ne.symm hx]
    · split
      · rename_i hlt he
        subst he
        split
        · rename_i hb
          by_cases hx : x = a
          · subst hx; simp [hrest x (by omega), hb]
          · simp [Memory.read, hx, Ne.symm hx]
        · by_cases hx : x = a
          · simp [Memory.read, hx]
          · simp [Memory.read, hx, Ne.symm hx]
      · rename_i hlt he
        by_cases hk : k = x
        · subst hk
          simp [Memory.read, Ne.symm he]
        · simp only [Memory.read, if_neg hk]
          exact ih (k + 1) h.2

theorem Memory.wfFrom_write (m : Memory) (a : Nat) (b : Byte) (low : Nat) (h : Memory.wfFrom low m = true)
    (hlow : low ≤ a) (ha : a < 2 ^ 32) : Memory.wfFrom low (Memory.write m a b) = true := by
  induction m generalizing low with
  | nil =>
    unfold Memory.write
    split <;> simp_all [Memory.wfFrom]
  | cons c rest ih =>
    obtain ⟨k, v⟩ := c
    simp only [Memory.wfFrom, Bool.and_eq_true, decide_eq_true_eq] at h
    obtain ⟨⟨⟨h1, h2⟩, h3⟩, h4⟩ := h
    have mono : ∀ (l : Memory) (lo lo' : Nat), lo' ≤ lo → Memory.wfFrom lo l = true → Memory.wfFrom lo' l = true := by
      intro l lo lo' hle hl
      cases l with
      | nil => rfl
      | cons c l =>
        simp only [Memory.wfFrom, Bool.and_eq_true, decide_eq_true_eq] at hl ⊢
        exact ⟨⟨⟨by omega, hl.1.1.2⟩, hl.1.2⟩, hl.2⟩
    unfold Memory.write
    split
    · split
      · simp only [Memory.wfFrom, Bool.and_eq_true, decide_eq_true_eq]
        exact ⟨⟨⟨h1, h2⟩, h3⟩, h4⟩
      · rename_i hb
        simp only [Memory.wfFrom, Bool.and_eq_true, decide_eq_true_eq]
        exact ⟨⟨⟨hlow, ha⟩, hb⟩, ⟨⟨⟨by omega, h2⟩, h3⟩, h4⟩⟩
    · split
      · split
        · exact mono rest (k + 1) low (by omega) h4
        · rename_i he hb
          simp only [Memory.wfFrom, Bool.and_eq_true, decide_eq_true_eq]
          exact ⟨⟨⟨hlow, ha⟩, hb⟩, by rw [he]; exact h4⟩
      · simp only [Memory.wfFrom, Bool.and_eq_true, decide_eq_true_eq]
        exact ⟨⟨⟨h1, h2⟩, h3⟩, ih (k + 1) h4 (by omega)⟩

/-- A write keeps the canonical form. -/
theorem Memory.wf_write (m : Memory) (a : Word) (b : Byte) (h : Memory.wf m = true) :
    Memory.wf (Memory.write m a.toNat b) = true :=
  Memory.wfFrom_write m a.toNat b 0 h (Nat.zero_le _) a.isLt

/-- One stored byte reads back; every other byte reads as before. -/
theorem State.storeByte_byteAt (s : State) (h : Memory.wf s.mem = true) (a x : Word) (b : Byte) :
    (s.storeByte a b).byteAt x = if x = a then b else s.byteAt x := by
  simp only [State.byteAt, State.storeByte_mem, Memory.read_write s.mem a.toNat x.toNat b 0 h, BitVec.toNat_inj]

theorem State.storeByte_wf (s : State) (h : Memory.wf s.mem = true) (a : Word) (b : Byte) :
    Memory.wf (s.storeByte a b).mem = true := Memory.wf_write s.mem a b h

@[simp] theorem State.remember_bytesAt (s : State) (own : Bool) (a x : Word) (m : Option Word) (n : Nat) :
    (s.remember own a m).bytesAt x n = s.bytesAt x n := by
  induction n generalizing x with
  | zero => rfl
  | succ n ih => simp only [State.bytesAt, ih, State.remember_byteAt]

/-- Remembering a word changes only what fetch may still see. -/
theorem State.remember_eq (s : State) (own : Bool) (a : Word) (m : Option Word) :
    s.remember own a m = { s with stale := (s.remember own a m).stale } := rfl

/-- The first byte of a list is stored into a state that differs from the one before only in what fetch may still see. -/
theorem State.storePieces_cons (s : State) (own byBytes : Bool) (unit : Nat) (a : Word) (b : Byte) (rest : List Byte) :
    ∃ t : State, s.storePieces own byBytes unit a (b :: rest) = (t.storeByte a b).storePieces own byBytes unit (a + 1) rest ∧
      t.mem = s.mem ∧ t = { s with stale := t.stale } := by
  simp only [State.storePieces]
  split
  · exact ⟨s.remember own a (blendOf byBytes (b :: rest)), rfl, rfl, rfl⟩
  · exact ⟨s, rfl, rfl, rfl⟩

/-- No address inside an aligned word but its first is aligned. -/
theorem aligned_inside_word {a : Word} {k : Nat} (hk : 0 < k ∧ k < 4) (h : aligned a 4 = true) :
    aligned (a + BitVec.ofNat 32 k) 4 = false := by
  simp only [aligned, beq_iff_eq, beq_eq_false_iff_ne, BitVec.toNat_add, BitVec.toNat_ofNat] at h ⊢
  have := a.isLt
  omega

/-- An aligned word of a store in words: it is remembered once, as it was before its first byte, then its four bytes are
stored. -/
theorem State.storePieces_word (s : State) (own byBytes : Bool) {a : Word} (h : aligned a 4 = true) (b0 b1 b2 b3 : Byte)
    (rest : List Byte) :
    s.storePieces own byBytes 4 a (b0 :: b1 :: b2 :: b3 :: rest) =
      (((((s.remember own a (if byBytes then some (wordOf [b0, b1, b2, b3]) else none)).storeByte a b0).storeByte
        (a + 1) b1).storeByte (a + 2) b2).storeByte (a + 3) b3).storePieces own byBytes 4 (a + 4) rest := by
  have h1 : aligned (a + 1) 4 = false := aligned_inside_word (k := 1) (by omega) h
  have h2 : aligned (a + 2) 4 = false := aligned_inside_word (k := 2) (by omega) h
  have h3 : aligned (a + 3) 4 = false := aligned_inside_word (k := 3) (by omega) h
  have e2 : a + 1 + 1 = a + 2 := by rw [BitVec.add_assoc]; rfl
  have e3 : a + 2 + 1 = a + 3 := by rw [BitVec.add_assoc]; rfl
  have e4 : a + 3 + 1 = a + 4 := by rw [BitVec.add_assoc]; rfl
  simp only [State.storePieces, e2, e3, e4, h, h1, h2, h3, if_true, Bool.false_eq_true, if_false, blendOf,
    List.take_succ_cons, List.take_zero]

/-- Storing bytes keeps the canonical form. -/
theorem State.storePieces_wf (s : State) (h : Memory.wf s.mem = true) (own byBytes : Bool) (unit : Nat) (a : Word)
    (data : List Byte) : Memory.wf (s.storePieces own byBytes unit a data).mem = true := by
  induction data generalizing s a with
  | nil => exact h
  | cons b rest ih =>
    obtain ⟨t, e, m, _⟩ := s.storePieces_cons own byBytes unit a b rest
    rw [e]
    exact ih _ (t.storeByte_wf (m ▸ h) a b) _

theorem State.storeSpan_wf (s : State) (h : Memory.wf s.mem = true) (own : Bool) (a : Word) (data : List Byte) :
    Memory.wf (s.storeSpan own a data).mem = true := s.storePieces_wf h _ _ _ _ _

theorem State.storeBytes_wf (s : State) (h : Memory.wf s.mem = true) (a : Word) (data : List Byte) :
    Memory.wf (s.storeBytes a data).mem = true := s.storeSpan_wf h _ _ _

/-- Storing bytes changes memory and what fetch may still see, nothing else. -/
theorem State.storePieces_eq (s : State) (own byBytes : Bool) (unit : Nat) (a : Word) (data : List Byte) :
    s.storePieces own byBytes unit a data =
      { s with mem := (s.storePieces own byBytes unit a data).mem, stale := (s.storePieces own byBytes unit a data).stale } := by
  induction data generalizing s a with
  | nil => rfl
  | cons b rest ih =>
    obtain ⟨t, e, _, ht⟩ := s.storePieces_cons own byBytes unit a b rest
    rw [e, ih (t.storeByte a b) (a + 1), ht]
    rfl

theorem State.storeSpan_eq (s : State) (own : Bool) (a : Word) (data : List Byte) :
    s.storeSpan own a data = { s with mem := (s.storeSpan own a data).mem, stale := (s.storeSpan own a data).stale } :=
  s.storePieces_eq _ _ _ _ _

theorem State.storeBytes_eq (s : State) (a : Word) (data : List Byte) :
    s.storeBytes a data = { s with mem := (s.storeBytes a data).mem, stale := (s.storeBytes a data).stale } :=
  s.storeSpan_eq _ _ _

theorem mem_span (a x : Word) (n : Nat) : x ∈ span a n ↔ ∃ k, k < n ∧ x = a + BitVec.ofNat 32 k := by
  induction n generalizing a with
  | zero => simp [span]
  | succ n ih =>
    simp only [span, List.mem_cons, ih]
    constructor
    · rintro (h | ⟨k, hk, h⟩)
      · exact ⟨0, by omega, by simp [h]⟩
      · refine ⟨k + 1, by omega, ?_⟩
        rw [h, BitVec.add_assoc, Nat.add_comm k 1, BitVec.ofNat_add]
        rfl
    · rintro ⟨k, hk, h⟩
      cases k with
      | zero => left; simpa using h
      | succ k =>
        right
        refine ⟨k, by omega, ?_⟩
        rw [h, BitVec.add_assoc, Nat.add_comm k 1, BitVec.ofNat_add]
        rfl

/-- Bytes outside the stored ones read as before. -/
theorem State.storePieces_byteAt_outside (s : State) (h : Memory.wf s.mem = true) (own byBytes : Bool) (unit : Nat) (a x : Word)
    (data : List Byte) (hx : x ∉ span a data.length) : (s.storePieces own byBytes unit a data).byteAt x = s.byteAt x := by
  induction data generalizing s a with
  | nil => rfl
  | cons b rest ih =>
    simp only [List.length_cons, span, List.mem_cons, not_or] at hx
    obtain ⟨t, e, m, _⟩ := s.storePieces_cons own byBytes unit a b rest
    rw [e, ih _ (t.storeByte_wf (m ▸ h) a b) _ hx.2, t.storeByte_byteAt (m ▸ h), if_neg hx.1, State.byteAt, m, State.byteAt]

theorem State.storeSpan_byteAt_outside (s : State) (h : Memory.wf s.mem = true) (own : Bool) (a x : Word)
    (data : List Byte) (hx : x ∉ span a data.length) : (s.storeSpan own a data).byteAt x = s.byteAt x :=
  s.storePieces_byteAt_outside h _ _ _ a x data hx

theorem State.storeBytes_byteAt_outside (s : State) (h : Memory.wf s.mem = true) (a x : Word) (data : List Byte)
    (hx : x ∉ span a data.length) : (s.storeBytes a data).byteAt x = s.byteAt x :=
  s.storeSpan_byteAt_outside h _ a x data hx

/-- The stored bytes read back, as long as they do not wrap onto themselves. -/
theorem State.storePieces_byteAt_inside (s : State) (h : Memory.wf s.mem = true) (own byBytes : Bool) (unit : Nat) (a : Word)
    (data : List Byte) (hn : data.length < 2 ^ 32) (k : Nat) (hk : k < data.length) :
    (s.storePieces own byBytes unit a data).byteAt (a + BitVec.ofNat 32 k) = data[k] := by
  induction data generalizing s a k with
  | nil => simp at hk
  | cons b rest ih =>
    simp only [List.length_cons] at hn hk
    obtain ⟨t, et, m, _⟩ := s.storePieces_cons own byBytes unit a b rest
    rw [et]
    cases k with
    | zero =>
      have hx : a ∉ span (a + 1) rest.length := by
        rw [mem_span]
        rintro ⟨j, hj, e⟩
        have : (a.toNat) = (a + 1 + BitVec.ofNat 32 j).toNat := congrArg BitVec.toNat e
        have one : (1 : Word).toNat = 1 := rfl
        simp only [BitVec.toNat_add, BitVec.toNat_ofNat, one] at this
        have := a.isLt
        omega
      have z : a + BitVec.ofNat 32 0 = a := by simp
      rw [z, List.getElem_cons_zero, State.storePieces_byteAt_outside _ (t.storeByte_wf (m ▸ h) a b) _ _ _ _ _ _ hx,
        t.storeByte_byteAt (m ▸ h), if_pos rfl]
    | succ k =>
      have e : a + BitVec.ofNat 32 (k + 1) = a + 1 + BitVec.ofNat 32 k := by
        rw [BitVec.add_assoc, Nat.add_comm k 1, BitVec.ofNat_add]
        rfl
      rw [e, List.getElem_cons_succ]
      exact ih _ (t.storeByte_wf (m ▸ h) a b) _ (by omega) k (by omega)

theorem State.storeSpan_byteAt_inside (s : State) (h : Memory.wf s.mem = true) (own : Bool) (a : Word) (data : List Byte)
    (hn : data.length < 2 ^ 32) (k : Nat) (hk : k < data.length) :
    (s.storeSpan own a data).byteAt (a + BitVec.ofNat 32 k) = data[k] :=
  s.storePieces_byteAt_inside h _ _ _ a data hn k hk

theorem State.storeBytes_byteAt_inside (s : State) (h : Memory.wf s.mem = true) (a : Word) (data : List Byte)
    (hn : data.length < 2 ^ 32) (k : Nat) (hk : k < data.length) :
    (s.storeBytes a data).byteAt (a + BitVec.ofNat 32 k) = data[k] :=
  s.storeSpan_byteAt_inside h _ a data hn k hk

/-- The bytes of a span, one by one. -/
theorem State.bytesAt_eq (s : State) (a : Word) (n : Nat) : s.bytesAt a n = (span a n).map s.byteAt := by
  induction n generalizing a with
  | zero => rfl
  | succ n ih => simp [State.bytesAt, span, ih]

@[simp] theorem State.bytesAt_length (s : State) (a : Word) (n : Nat) : (s.bytesAt a n).length = n := by
  induction n generalizing a with
  | zero => rfl
  | succ n ih => simp [State.bytesAt, ih]

end Sys2Proof.Machine
end

