-- ==== Sys2Proof/Laws/Ops.lean ====
section
/-! SUPPORT. One lemma for each shared operation that says everything it can do. -/

namespace Sys2Proof.Machine

/-! ## Modes -/

theorem supervisorOnly_user {s : State} (h : s.userMode = true) (go : State → Result) :
    supervisorOnly s go = .next (takeException .program s.pc privilegedCause s) := by
  simp [supervisorOnly, h, raisePrivileged, raise]

theorem supervisorOnly_supervisor {s : State} (h : s.userMode = false) (go : State → Result) :
    supervisorOnly s go = go s := by
  simp [supervisorOnly, h]

theorem floatOnly_on {s : State} (h : bit s.msr 18 = true) (go : State → Result) : floatOnly s go = go s := by
  simp [floatOnly, h]

theorem floatOnly_off {s : State} (h : bit s.msr 18 = false) (go : State → Result) :
    floatOnly s go = .next (takeException .fpUnavailable s.pc 0 s) := by
  simp [floatOnly, h, raise]

/-- A next state of a supervisor-level instruction is the privileged exception's or the instruction's own. -/
theorem supervisorOnly_next {s t : State} {go : State → Result} (h : supervisorOnly s go = .next t) :
    (s.userMode = true ∧ t = takeException .program s.pc privilegedCause s) ∨ (s.userMode = false ∧ go s = .next t) := by
  cases hu : s.userMode
  · exact .inr ⟨rfl, by rwa [supervisorOnly_supervisor hu] at h⟩
  · rw [supervisorOnly_user hu] at h
    cases h
    exact .inl ⟨rfl, rfl⟩

theorem floatOnly_next {s t : State} {go : State → Result} (h : floatOnly s go = .next t) :
    (bit s.msr 18 = false ∧ t = takeException .fpUnavailable s.pc 0 s) ∨ (bit s.msr 18 = true ∧ go s = .next t) := by
  cases hu : bit s.msr 18
  · rw [floatOnly_off hu] at h
    cases h
    exact .inl ⟨rfl, rfl⟩
  · exact .inr ⟨rfl, by rwa [floatOnly_on hu] at h⟩

/-- A next state of an MSR change: no refused mode, the new MSR, and either the next instruction or the floating-point
enabled exception that resumes there. -/
theorem enterMsr_next {msr next : Word} {s t : State} (h : enterMsr msr next s = .next t) :
    msrRefusal msr = none ∧
      (t = { s with msr := msr, pc := next } ∨
        t = takeException .program next floatEnabledCause { s with msr := msr, pc := next }) := by
  unfold enterMsr at h
  split at h
  · cases h
  · rename_i hr
    dsimp only at h
    split at h <;> cases h
    · exact ⟨hr, .inr rfl⟩
    · exact ⟨hr, .inl rfl⟩

/-! ## Data accesses -/

/-- A read that is done: not watched; in `ram` it gives memory's bytes and changes nothing, with a byte in a device
region it is logged. -/
theorem readSpan_done {ea : Word} {n : Nat} {s t : State} {bytes : List Byte} (h : readSpan ea n s = .done bytes t) :
    s.watched false ea n = false ∧
      ((kindOf s.memMap ea n = some .ram ∧ bytes = s.bytesAt ea n ∧ t = s) ∨
        (kindOf s.memMap ea n = some .device ∧ bytes = s.answeredBytes ea s.draws n ∧
          t = { s with draws := s.draws + n, busLog := .deviceRead ea n :: s.busLog })) := by
  unfold readSpan at h
  cases hw : s.watched false ea n <;> simp only [hw, if_true, Bool.false_eq_true, if_false] at h
  · refine ⟨rfl, ?_⟩
    split at h
    · cases h
    · rename_i hk; cases h; exact .inl ⟨hk, rfl, rfl⟩
    · rename_i hk; cases h; exact .inr ⟨hk, rfl, rfl⟩
  · cases h

/-- A read that is not done is a DSI of a watched access or a refusal outside MEM_MAP. -/
theorem readSpan_stop {ea : Word} {n : Nat} {s : State} {r : Result} (h : readSpan ea n s = .stop r) :
    (s.watched false ea n = true ∧ r = raiseDsi (watchCause false) ea s) ∨
      (kindOf s.memMap ea n = none ∧ r = .refused .outsideMemMap) := by
  unfold readSpan at h
  cases hw : s.watched false ea n <;> simp only [hw, if_true, Bool.false_eq_true, if_false] at h
  · split at h
    · rename_i hk; cases h; exact .inr ⟨hk, rfl⟩
    · cases h
    · cases h
  · cases h; exact .inl ⟨rfl, rfl⟩

theorem readSpan_ready {ea : Word} {n : Nat} {s : State} (hw : s.watched false ea n = false)
    (hk : kindOf s.memMap ea n = some .ram) : readSpan ea n s = .done (s.bytesAt ea n) s := by
  simp [readSpan, hw, hk]

/-- A write that is done: not watched; in `ram` the bytes are stored, with a byte in a device region the write is logged and
the bytes in `ram` are stored. -/
theorem writeSpan_done {ea : Word} {data : List Byte} {s t : State} {u : Unit} (h : writeSpan ea data s = .done u t) :
    s.watched true ea data.length = false ∧
      ((kindOf s.memMap ea data.length = some .ram ∧ t = s.storeBytes ea data) ∨
        (kindOf s.memMap ea data.length = some .device ∧
          t = { s.storeRamBytes ea data with busLog := .deviceWrite ea data :: s.busLog })) := by
  unfold writeSpan at h
  cases hw : s.watched true ea data.length <;> simp only [hw, if_true, Bool.false_eq_true, if_false] at h
  · refine ⟨rfl, ?_⟩
    split at h
    · cases h
    · rename_i hk; cases h; exact .inl ⟨hk, rfl⟩
    · rename_i hk; cases h; exact .inr ⟨hk, rfl⟩
  · cases h

theorem writeSpan_stop {ea : Word} {data : List Byte} {s : State} {r : Result} (h : writeSpan ea data s = .stop r) :
    (s.watched true ea data.length = true ∧ r = raiseDsi (watchCause true) ea s) ∨
      (kindOf s.memMap ea data.length = none ∧ r = .refused .outsideMemMap) := by
  unfold writeSpan at h
  cases hw : s.watched true ea data.length <;> simp only [hw, if_true, Bool.false_eq_true, if_false] at h
  · split at h
    · rename_i hk; cases h; exact .inr ⟨hk, rfl⟩
    · cases h
    · cases h
  · cases h; exact .inl ⟨rfl, rfl⟩

theorem writeSpan_ready {ea : Word} {data : List Byte} {s : State} (hw : s.watched true ea data.length = false)
    (hk : kindOf s.memMap ea data.length = some .ram) : writeSpan ea data s = .done () (s.storeBytes ea data) := by
  simp [writeSpan, hw, hk]

theorem loadData_ready {insn ea : Word} {show_ : Bool} {n : Nat} {s : State} (h : AccessReady s false ea n) :
    loadData insn show_ ea n s = .done (s.bytesAt ea n) s := by
  simp [loadData, h.1, readSpan_ready h.2.1 h.2.2]

theorem storeData_ready {insn ea : Word} {show_ : Bool} {data : List Byte} {s : State}
    (h : AccessReady s true ea data.length) : storeData insn show_ ea data s = .done () (s.storeBytes ea data) := by
  simp [storeData, h.1, writeSpan_ready h.2.1 h.2.2]

/-- A split access of a span that DABR does not watch goes on. -/
theorem unwatched_ready {α : Type} {st : Bool} {ea : Word} {n : Nat} {s : State} (hw : s.watched st ea n = false)
    (go : Access α) : unwatched st ea n s go = go := by
  have h : (span ea n).find? (fun a => s.watched st a 1) = none := by
    simp only [List.find?_eq_none]
    intro a ha h1
    simp only [State.watched, span, List.any_cons, List.any_nil, Bool.or_false, Bool.and_eq_true] at h1
    simp only [State.watched, Bool.and_eq_false_iff, h1.1, Bool.true_eq_false, false_or, List.any_eq_false] at hw
    exact hw a ha h1.2
  simp only [unwatched, h]

/-- A split access that DABR watches at some byte takes the data storage interrupt, and nothing else happens: no byte is
read or stored. -/
theorem unwatched_watched {α : Type} {st : Bool} {ea : Word} {n : Nat} {s : State} {a : Word} (ha : a ∈ span ea n)
    (hw : s.watched st a 1 = true) (go : Access α) :
    ∃ b ∈ span ea n, s.watched st b 1 = true ∧ unwatched st ea n s go = .stop (raiseDsi (watchCause st) b s) := by
  cases h : (span ea n).find? (fun a => s.watched st a 1) with
  | none => exact absurd hw (by simpa using List.find?_eq_none.mp h a ha)
  | some b => exact ⟨b, List.mem_of_find?_eq_some h, by simpa using List.find?_some h, by simp only [unwatched, h]⟩

/-- One step of a device store: the byte is stored where it lies in `ram`, into a state that differs from the one before only
in what fetch may still see. -/
theorem State.storeRam_cons (s : State) (byBytes : Bool) (unit : Nat) (a : Word) (b : Byte) (rest : List Byte) :
    ∃ t : State, s.storeRam byBytes unit a (b :: rest) =
        (if s.isDevice a then t else t.storeByte a b).storeRam byBytes unit (a + 1) rest ∧
      t.mem = s.mem ∧ t = { s with stale := t.stale } := by
  refine ⟨if aligned a unit && !(span a unit).all s.isDevice then s.remember true a (blendOf byBytes (b :: rest)) else s, rfl, ?_⟩
  split <;> exact ⟨rfl, rfl⟩

/-- Storing the bytes in `ram` changes memory and what fetch may still see, nothing else. -/
theorem State.storeRam_eq (s : State) (byBytes : Bool) (unit : Nat) (a : Word) (data : List Byte) :
    s.storeRam byBytes unit a data =
      { s with mem := (s.storeRam byBytes unit a data).mem, stale := (s.storeRam byBytes unit a data).stale } := by
  induction data generalizing s a with
  | nil => rfl
  | cons b rest ih =>
    obtain ⟨t, e, _, ht⟩ := s.storeRam_cons byBytes unit a b rest
    rw [e, ih, ht]
    split <;> rfl

/-- Storing the bytes in `ram` keeps the canonical form. -/
theorem State.storeRam_wf (s : State) (h : Memory.wf s.mem = true) (byBytes : Bool) (unit : Nat) (a : Word) (data : List Byte) :
    Memory.wf (s.storeRam byBytes unit a data).mem = true := by
  induction data generalizing s a with
  | nil => exact h
  | cons b rest ih =>
    obtain ⟨t, e, m, _⟩ := s.storeRam_cons byBytes unit a b rest
    rw [e]
    split
    · exact ih t (m ▸ h) _
    · exact ih _ (t.storeByte_wf (m ▸ h) a b) _

/-- A byte outside the span, or in a device region, reads as before. -/
theorem State.storeRam_byteAt_kept (s : State) (h : Memory.wf s.mem = true) (byBytes : Bool) (unit : Nat) (a x : Word) (data : List Byte)
    (hx : x ∉ span a data.length ∨ s.isDevice x = true) : (s.storeRam byBytes unit a data).byteAt x = s.byteAt x := by
  induction data generalizing s a with
  | nil => rfl
  | cons b rest ih =>
    obtain ⟨t, e, m, ht⟩ := s.storeRam_cons byBytes unit a b rest
    have map : t.memMap = s.memMap := by rw [ht]
    have same : ∀ u : State, u.memMap = s.memMap → (u.isDevice x = s.isDevice x) := fun u hu => by
      simp only [State.isDevice, hu]
    rw [e]
    split
    · rw [ih t (m ▸ h), State.byteAt, m, State.byteAt]
      rw [same t map]
      exact hx.imp (fun h => by simp only [List.length_cons, span, List.mem_cons, not_or] at h; exact h.2) id
    · rename_i hd
      rw [ih _ (t.storeByte_wf (m ▸ h) a b), t.storeByte_byteAt (m ▸ h), if_neg, State.byteAt, m, State.byteAt]
      · rintro rfl
        rcases hx with hx | hx
        · simp [span] at hx
        · exact hd hx
      · rw [same _ (by exact map)]
        exact hx.imp (fun h => by simp only [List.length_cons, span, List.mem_cons, not_or] at h; exact h.2) id

theorem State.storeRamBytes_eq (s : State) (a : Word) (data : List Byte) :
    s.storeRamBytes a data =
      { s with mem := (s.storeRamBytes a data).mem, stale := (s.storeRamBytes a data).stale } :=
  s.storeRam_eq _ _ _ _

theorem State.storeRamBytes_wf (s : State) (h : Memory.wf s.mem = true) (a : Word) (data : List Byte) :
    Memory.wf (s.storeRamBytes a data).mem = true := s.storeRam_wf h _ _ _ _

theorem State.storeRamBytes_byteAt_kept (s : State) (h : Memory.wf s.mem = true) (a x : Word) (data : List Byte)
    (hx : x ∉ span a data.length ∨ s.isDevice x = true) : (s.storeRamBytes a data).byteAt x = s.byteAt x :=
  s.storeRam_byteAt_kept h _ _ a x data hx

/-- `ram` of a span is `ram` of its first byte and of the rest. -/
theorem kindOf_ram_succ {map : List Region} {a : Word} {n : Nat} (h : kindOf map a (n + 1) = some .ram) :
    kindOf map a 1 = some .ram ∧ kindOf map (a + 1) n = some .ram := by
  simp only [kindOf] at h ⊢
  generalize kindOf map (a + 1) n = k2 at h ⊢
  generalize kindAt map a.toNat = k1 at h ⊢
  rcases k1 with _ | (_ | _) <;> rcases k2 with _ | (_ | _) <;> simp_all

/-- A span that is not watched: neither its first byte nor the rest. -/
theorem watched_succ {s : State} {st : Bool} {a : Word} {n : Nat} (h : s.watched st a (n + 1) = false) :
    s.watched st a 1 = false ∧ s.watched st (a + 1) n = false := by
  simp only [State.watched, span, List.any_cons, List.any_nil, Bool.or_false, Bool.and_eq_false_iff,
    Bool.or_eq_false_iff] at h ⊢
  rcases h with h | ⟨h1, h2⟩
  · exact ⟨.inl h, .inl h⟩
  · exact ⟨.inr h1, .inr h2⟩

/-- A split read of unwatched `ram` gives the same bytes as one access. -/
theorem readSplit_ready {ea : Word} {n : Nat} {s : State} (hw : s.watched false ea n = false)
    (hk : kindOf s.memMap ea n = some .ram) : readSplit ea n s = .done (s.bytesAt ea n) s := by
  induction n generalizing ea with
  | zero => rfl
  | succ n ih =>
    obtain ⟨k1, k2⟩ := kindOf_ram_succ hk
    obtain ⟨w1, w2⟩ := watched_succ hw
    simp only [readSplit, readSpan_ready w1 k1, ih w2 k2, State.bytesAt, List.singleton_append]

/-- A split write of unwatched `ram` stores the same bytes as one access, byte by byte. -/
theorem writeSplit_ready {ea : Word} {data : List Byte} {s : State} (hw : s.watched true ea data.length = false)
    (hk : kindOf s.memMap ea data.length = some .ram) :
    writeSplit ea data s = .done () (s.storePieces true false 1 ea data) := by
  induction data generalizing ea s with
  | nil => rfl
  | cons b rest ih =>
    obtain ⟨k1, k2⟩ := kindOf_ram_succ hk
    obtain ⟨w1, w2⟩ := watched_succ hw
    have one : aligned ea 1 = true := by simp [aligned, Nat.mod_one]
    have e : writeSpan ea [b] s = .done () ((s.remember true ea none).storeByte ea b) := by
      rw [writeSpan_ready w1 k1]
      simp [State.storeBytes, State.storeSpan, State.storePieces, seenByBytes, blendOf, atomicUnit, one]
    simp only [writeSplit, e, State.storePieces, one, if_true, blendOf, Bool.false_eq_true, if_false]
    exact ih (s := (s.remember true ea none).storeByte ea b) w2 k2

/-! ## Endings -/

/-- An arithmetic instruction always completes. -/
theorem arith_eq (s : State) (d : BitVec 5) (res : Word) (ca ov : Option Bool) (rc : Bool) :
    arith s d res ca ov rc = .next (s.writeArith d res ca ov rc).advance := rfl

/-- The end of a floating-point instruction: the next instruction, or the enabled exception at this one. -/
theorem finishFloat_eq (s : State) :
    finishFloat s =
      .next (if s.floatTraps then takeException .program s.pc floatEnabledCause s else s.advance) := by
  unfold finishFloat
  split <;> rfl

theorem trapIf_eq (s : State) (h : Bool) :
    trapIf s h = .next (if h then takeException .program s.pc trapCause s else s.advance) := by
  unfold trapIf
  split <;> rfl

/-! ## External control -/

/-- A misaligned address takes the alignment exception, whatever EAR says. -/
theorem externalControl_misaligned {insn ea : Word} {store : Bool} {s : State} {go : State → Result}
    (h : aligned ea 4 = false) : externalControl insn store ea s go = raiseAlignment insn false ea s := by
  simp [externalControl, neverSplit, h]

/-- An aligned address with EAR[E] = 1 goes on. -/
theorem externalControl_enabled {insn ea : Word} {store : Bool} {s : State} {go : State → Result}
    (h : bit s.ear 0 = true) (ha : aligned ea 4 = true) : externalControl insn store ea s go = go s := by
  simp [externalControl, neverSplit, h, ha]

/-- An aligned address with EAR[E] = 0 takes the data storage interrupt. -/
theorem externalControl_disabled {insn ea : Word} {store : Bool} {s : State} {go : State → Result}
    (h : bit s.ear 0 = false) (ha : aligned ea 4 = true) :
    externalControl insn store ea s go = raiseDsi (if store then bitMask 11 ||| bitMask 6 else bitMask 11) ea s := by
  simp [externalControl, neverSplit, h, ha]

/-! ## Instruction-fetch coherence -/

/-- What `isync` leaves of a word is at its address. -/
theorem isynced_addr {e x : StaleWord} (h : e.isynced = some x) : x.addr = e.addr := by
  obtain ⟨a, b, c, st, own⟩ := e
  cases st <;> simp [StaleWord.isynced] at h <;> simp [← h]

/-- What instruction fetch may still see after `isync` it might see before, and no later store at its address is complete. -/
theorem mem_afterIsync {x : StaleWord} {l : List StaleWord} :
    ∀ {seen : List Nat}, x ∈ afterIsync seen l → x.addr ∉ seen ∧ ∃ e ∈ l, e.isynced = some x := by
  induction l with
  | nil => intro _ h; simp [afterIsync] at h
  | cons e older ih =>
    intro seen h
    simp only [afterIsync, List.contains_iff_mem] at h
    split at h
    · exact ⟨(ih h).1, by simpa using .inr (ih h).2⟩
    · rename_i hn
      split at h
      · rename_i y hy
        rcases List.mem_cons.1 h with rfl | h
        · exact ⟨isynced_addr hy ▸ hn, e, by simp, hy⟩
        · exact ⟨(ih h).1, by simpa using .inr (ih h).2⟩
      · have := ih h
        exact ⟨fun hs => this.1 (by simp [hs]), by simpa using .inr this.2⟩

/-- Where the latest store at an address is complete, no word at that address is left after `isync`. -/
theorem afterIsync_ends {k : Nat} {e x : StaleWord} (hc : e.isynced = none) {l : List StaleWord} :
    ∀ {seen : List Nat}, l.find? (fun y => y.addr == k) = some e → x ∈ afterIsync seen l → x.addr ≠ k := by
  induction l with
  | nil => intro _ h; simp at h
  | cons y older ih =>
    intro seen h hx
    rw [List.find?_cons] at h
    simp only [afterIsync, List.contains_iff_mem] at hx
    by_cases hk : y.addr = k
    · obtain rfl : y = e := by simpa [hk] using h
      split at hx
      · exact fun he => (mem_afterIsync hx).1 (by simpa [he, hk] using ‹y.addr ∈ seen›)
      · simp only [hc] at hx
        exact fun he => (mem_afterIsync hx).1 (by simp [he, hk])
    · have h : older.find? (fun y => y.addr == k) = some e := by rwa [beq_false_of_ne hk] at h
      split at hx
      · exact ih h hx
      · split at hx
        · rename_i z hz
          rcases List.mem_cons.1 hx with rfl | hx
          · exact fun he => hk (isynced_addr hz ▸ he)
          · exact ih h hx
        · exact ih h hx

/-- A word stays after `isync` where neither its own store nor a later one at its address is complete. -/
theorem afterIsync_keeps {e z : StaleWord} (hz : e.isynced = some z) {newer older : List StaleWord} :
    ∀ {seen : List Nat}, e.addr ∉ seen → (∀ y ∈ newer, y.addr = e.addr → y.isynced ≠ none) →
      z ∈ afterIsync seen (newer ++ e :: older) := by
  induction newer with
  | nil => intro seen hs _; simp [afterIsync, hs, hz]
  | cons y rest ih =>
    intro seen hs hn
    have hr : ∀ w ∈ rest, w.addr = e.addr → w.isynced ≠ none := fun w hw => hn w (by simp [hw])
    simp only [List.cons_append, afterIsync]
    split
    · exact ih hs hr
    · split
      · exact List.mem_cons_of_mem _ (ih hs hr)
      · rename_i hy
        refine ih ?_ hr
        simp only [List.mem_cons, not_or]
        exact ⟨fun he => hn y (by simp) he.symm hy, hs⟩

/-! ## The processor's step -/

/-- In a mode that is not refused the processor's step takes the exception that waits. -/
theorem processorStep_pending {s u : State} (hm : msrRefusal s.msr = none) (h : pendingException s = some u) :
    processorStep s = .next u := by
  simp only [processorStep, hm, h]

/-- Noting a completion keeps the outcome and changes nothing but what the performance monitor samples. -/
theorem noteCompletion_next (i : Instr) (s t : State) :
    noteCompletion i s (.next t) =
      .next { t with
        lastCompleted := if completed s t then some s.pc else t.lastCompleted
        accesses := if completed s t then ((accessAddress i s).map (Sample.mk s.pc)).toList ++ t.accesses
          else t.accesses } := by
  cases h : completed s t <;> simp [noteCompletion, h]

/-- No byte of a span in `ram` lies in a device region. -/
theorem isDevice_ram {s : State} {a x : Word} {n : Nat} (h : kindOf s.memMap a n = some .ram) (hx : x ∈ span a n) :
    s.isDevice x = false := by
  induction n generalizing a with
  | zero => simp [span] at hx
  | succ n ih =>
    obtain ⟨h1, h2⟩ := kindOf_ram_succ h
    simp only [span, List.mem_cons] at hx
    rcases hx with rfl | hx
    · simp only [kindOf] at h1
      simp only [State.isDevice]
      generalize kindAt s.memMap x.toNat = k at h1 ⊢
      rcases k with _ | (_ | _) <;> simp_all
    · exact ih h2 hx

/-- A word of `ram` has no byte of a device. -/
theorem State.deviceMask_ram {s : State} {a : Word} (h : kindOf s.memMap a 4 = some .ram) : s.deviceMask a = 0 := by
  have e : ((span a 4).map fun b => if s.isDevice b then (0xFF : Byte) else 0) = (span a 4).map fun _ => 0 :=
    List.map_congr_left fun b hb => by simp [isDevice_ram h hb]
  rw [State.deviceMask, e]
  simp only [span, List.map_cons, List.map_nil]
  decide

theorem wordByte_merge (m old new : Word) {k : Nat} (hk : k < 4) :
    wordByte (merge m old new) k = (wordByte new k &&& wordByte m k) ||| (wordByte old k &&& ~~~(wordByte m k)) := by
  ext i hi
  have h : 8 * k + i < 32 := by omega
  simp only [wordByte, merge, BitVec.getElem_extractLsb', BitVec.getLsbD_or, BitVec.getLsbD_and, BitVec.getLsbD_not,
    BitVec.getElem_or, BitVec.getElem_and, BitVec.getElem_not]
  simp [h]

/-- Fetch sees each byte of an overwritten word old, or as the store left it where it may mix the two. -/
theorem StaleWord.shows_seen (e : StaleWord) (m : BitVec 4) : e.Shows (e.seen m) := by
  intro k hk
  have mask : wordByte (byteMask m) k = 0#8 ∨ wordByte (byteMask m) k = BitVec.allOnes 8 := by
    revert m k
    decide
  rw [StaleWord.seen, wordByte_merge _ _ _ hk]
  rcases mask with h | h <;> rw [h]
  · left
    rw [BitVec.and_zero, BitVec.zero_or, BitVec.not_zero, BitVec.and_allOnes]
  · right
    rw [BitVec.and_allOnes, BitVec.not_allOnes, BitVec.and_zero, BitVec.or_zero]

/-- The word before an atomic store is seen whole. -/
theorem StaleWord.seen_whole {e : StaleWord} (h : e.blend = e.word) (m : BitVec 4) : e.seen m = e.word := by
  rw [StaleWord.seen, h, merge, ← BitVec.and_or_distrib_left, BitVec.or_not_self, BitVec.and_allOnes]

/-- What fetch reads of memory: the word that memory holds, or one that an entry at the address shows; only draws are
used. -/
theorem State.fetchMemory_sees (s : State) (a : Word) :
    ((s.fetchMemory a).1 = s.wordAt a ∨ ∃ e ∈ s.stale, e.addr = a.toNat ∧ e.Shows (s.fetchMemory a).1) ∧
      ∃ n, (s.fetchMemory a).2 = { s with draws := n } := by
  have pick : ∀ (l : List Word) (k : Nat) (d : Word), l.getD k d = d ∨ l.getD k d ∈ l := fun l k d => by
    by_cases h : k < l.length <;> simp [h]
  unfold State.fetchMemory
  split
  · exact ⟨.inl rfl, s.draws, rfl⟩
  · refine ⟨?_, _, rfl⟩
    rcases pick (s.wordAt a :: (s.stale.filter fun e => e.addr == a.toNat).map fun e => e.seen ((s.drawn 1).fresh 4))
      ((s.fresh 32).toNat % ((s.stale.filter fun e => e.addr == a.toNat).length + 1)) (s.wordAt a) with h | h
    · exact .inl h
    · rcases List.mem_cons.1 h with h | h
      · exact .inl h
      · obtain ⟨e, he, hv⟩ := List.mem_map.1 h
        rw [List.mem_filter] at he
        exact .inr ⟨e, he.1, by simpa using he.2, hv ▸ e.shows_seen _⟩

/-- At an instruction in `ram` where nothing is stale, fetch decodes the word that memory holds and changes nothing. -/
theorem State.fetch_fresh {s : State} (h : s.FetchesMemory) : s.fetch = (s.decoded, s) := by
  have fresh : s.stale.filter (fun e => e.addr == s.pc.toNat) = [] := by simpa using h.2
  simp only [State.fetch, State.fetchWord, State.fetchMemory, fresh, State.deviceMask_ram h.1, if_true, State.decoded]

/-! ## The signal of the performance monitor -/

/-- Where `mtspr` made a counter negative, SIA and SDA are any addresses. -/
theorem State.signalSample_written {s : State} (h : s.signalsWritten = true) (any : Sample) :
    s.signalSample any = any := by simp [State.signalSample, h]

/-- Where a threshold event made PMC1 negative, they are its load or store. -/
theorem State.signalSample_threshold {s : State} {m : Sample} (hw : s.signalsWritten = false) (h1 : s.signals1 = true)
    (hc : s.pmc1Cause = .threshold m) (any : Sample) : s.signalSample any = m := by
  simp [State.signalSample, hw, h1, hc]

/-- Otherwise SIA is the last instruction completed. -/
theorem State.signalSample_counted {s : State} (hw : s.signalsWritten = false)
    (hc : s.signals1 = false ∨ s.pmc1Cause = .counted) (any : Sample) :
    s.signalSample any = ⟨s.lastCompleted.getD any.insn, any.operand⟩ := by
  rcases hc with h | h <;> simp [State.signalSample, hw, h]

/-- Which counters may signal, bit by bit. -/
theorem State.countersSignal_eq (s : State) :
    s.countersSignal = (bit s.mmcr0 5 && ((bit s.mmcr0 16 && bit s.pmc1 0) || (bit s.mmcr0 17 && bit s.pmc2 0))) := rfl

/-- After the write of a counter or of MMCR0 no counter is left that could still signal: ENINT is 0 where one did. -/
theorem State.countersSignal_signalNow (s : State) : s.signalNow.countersSignal = false := by
  cases h : s.countersSignal
  · rw [s.signalNow_quiet h, h]
  · rw [s.signalNow_signals h]
    have e : bit (writeBit s.mmcr0 5 false) 5 = false := by simp [writeBit, bit, bitMask]
    simp [State.countersSignal, e]

end Sys2Proof.Machine
end

