-- ==== Sys2Proof/Laws/Flags.lean ====
section
/-! SUPPORT. What recording a result, writing XER and ending an arithmetic instruction leave, bit by bit. -/

namespace Sys2Proof.Machine

theorem recordField_bits (res : Word) (so : Bool) :
    bit (recordField res so) 0 = decide (res.toInt < 0) ∧ bit (recordField res so) 1 = decide (0 < res.toInt) ∧
      bit (recordField res so) 2 = decide (res = 0) ∧ bit (recordField res so) 3 = so := by
  unfold recordField orderField ofFlag
  generalize decide (res.toInt < 0) = a
  generalize decide (0 < res.toInt) = b
  generalize decide (res = 0) = c
  revert a b c so
  decide

/-- A bit inside the CR field that was written. -/
theorem State.setCrField_bit (s : State) (n : BitVec 3) (v : BitVec 4) {k : Nat} (hk : k < 4) :
    bit (s.setCrField n v).cr (4 * n.toNat + k) = bit v k := by
  rw [← bit_crField _ _ hk, State.setCrField_crField, if_pos rfl]

/-- A bit outside the CR field that was written. -/
theorem State.setCrField_bit_other (s : State) (n : BitVec 3) (v : BitVec 4) {i : Nat} (hi : i < 32)
    (h : i / 4 ≠ n.toNat) : bit (s.setCrField n v).cr i = bit s.cr i := by
  have split : ∀ cr : Word, bit cr i = bit (crField cr (BitVec.ofNat 3 (i / 4))) (i % 4) := fun cr => by
    rw [bit_crField _ _ (by omega), BitVec.toNat_ofNat, Nat.mod_eq_of_lt (by omega : i / 4 < 2 ^ 3), Nat.div_add_mod]
  rw [split, split s.cr, State.setCrField_crField, if_neg]
  intro e
  apply h
  rw [← e, BitVec.toNat_ofNat]
  omega

/-- XER after CA and OV are written where they are given, bit by bit. -/
theorem xer_bit (x : Word) (ca ov : Option Bool) {i : Nat} (hi : i < 32) :
    bit (match ov with
      | some v => setOv (match ca with | some c => setCa x c | none => x) v
      | none => (match ca with | some c => setCa x c | none => x)) i =
      if i = 0 then (bit x 0 || ov.getD false) else if i = 1 then ov.getD (bit x 1)
      else if i = 2 then ca.getD (bit x 2) else bit x i := by
  rcases ca with _ | c <;> rcases ov with _ | v <;>
    simp only [setCa, setOv, xerSo, bit_writeBit _ (show 0 < 32 by omega) hi, bit_writeBit _ (show 1 < 32 by omega) hi,
      bit_writeBit _ (show 2 < 32 by omega) hi, bit_writeBit _ (show 2 < 32 by omega) (show 0 < 32 by omega),
      Option.getD] <;>
    by_cases h0 : i = 0 <;> by_cases h1 : i = 1 <;> by_cases h2 : i = 2 <;> simp [h0, h1, h2]

theorem State.recordCr0_records (s : State) (res : Word) : RecordsCr0 s (s.recordCr0 res) res true := by
  obtain ⟨h0, h1, h2, h3⟩ := recordField_bits res (xerSo s.xer)
  refine ⟨(s.setCrField_bit 0 _ (k := 0) (by omega)).trans h0, (s.setCrField_bit 0 _ (k := 1) (by omega)).trans h1,
    (s.setCrField_bit 0 _ (k := 2) (by omega)).trans h2, (s.setCrField_bit 0 _ (k := 3) (by omega)).trans h3, ?_⟩
  intro i hi hi'
  refine s.setCrField_bit_other 0 _ (by omega) ?_
  change i / 4 ≠ 0
  omega

/-- Everything the end of an integer instruction does. -/
theorem State.writeArith_effect (s : State) (d : BitVec 5) (res : Word) (ca ov : Option Bool) (rc : Bool) :
    IntegerEffect s (s.writeArith d res ca ov rc).advance d res ca ov rc := by
  have hx : ∀ i, i < 32 → bit (s.writeArith d res ca ov rc).advance.xer i =
      if i = 0 then (bit s.xer 0 || ov.getD false) else if i = 1 then ov.getD (bit s.xer 1)
      else if i = 2 then ca.getD (bit s.xer 2) else bit s.xer i := fun i hi => by
    rw [← xer_bit s.xer ca ov hi]
    cases rc <;> rcases ca with _ | c <;> rcases ov with _ | v <;> rfl
  refine ⟨?_, ?_, ?_, ?_, ?_, ?_, ?_, ?_, ?_, ?_⟩
  · have : (s.writeArith d res ca ov rc).advance.r d = (s.setR d res).r d := by cases rc <;> rfl
    rw [this, State.setR_r_same]
  · intro j hj
    have : (s.writeArith d res ca ov rc).advance.r j = (s.setR d res).r j := by cases rc <;> rfl
    rw [this, s.setR_r_ne (by simpa using hj)]
  · cases rc <;> rfl
  · exact hx 0 (by omega)
  · exact hx 1 (by omega)
  · exact hx 2 (by omega)
  · intro i hi hi'
    rw [hx i (by omega), if_neg (by omega), if_neg (by omega), if_neg (by omega)]
  · cases rc
    · rfl
    · exact State.recordCr0_records _ res
  · intro a
    cases rc <;> rfl
  · cases rc <;> rfl

/-- An instruction that ends in `arith` completes with that effect. -/
theorem arith_completes (s : State) (d : BitVec 5) (res : Word) (ca ov : Option Bool) (rc : Bool) :
    Completes (arith s d res ca ov rc) (fun t => IntegerEffect s t d res ca ov rc) :=
  ⟨_, rfl, s.writeArith_effect d res ca ov rc⟩

/-- A logical instruction completes with that effect on the field A. -/
theorem logical_completes (s : State) (a : BitVec 5) (res : Word) (rc : Bool) :
    Completes (logical s a res rc) (fun t => IntegerEffect s t a res none none rc) :=
  ⟨_, rfl, s.writeArith_effect a res none none rc⟩

end Sys2Proof.Machine
end

