-- ==== Sys2Proof/Laws/PerInstr.lean ====
section
/-! SUPPORT. Facts proved for each instruction as syntax, one lemma per constructor. -/

namespace Sys2Proof.Laws

namespace EncodeFits

/-- The encoded word of an instruction fits 32 bits (30_encoding.md R120). -/
def Statement (i : Instr) : Prop := encodeNat i < 2 ^ 32

theorem addi (d a : BitVec 5) (simm : BitVec 16) : Statement (.addi d a simm) := by
  have := put_le d 10
  have := put_le a 15
  have := put_le simm 31
  simp only [Statement, encodeNat_addi, assemble_cons, assemble_nil]
  omega

theorem addis (d a : BitVec 5) (simm : BitVec 16) : Statement (.addis d a simm) := by
  have := put_le d 10
  have := put_le a 15
  have := put_le simm 31
  simp only [Statement, encodeNat_addis, assemble_cons, assemble_nil]
  omega

theorem addic (d a : BitVec 5) (simm : BitVec 16) : Statement (.addic d a simm) := by
  have := put_le d 10
  have := put_le a 15
  have := put_le simm 31
  simp only [Statement, encodeNat_addic, assemble_cons, assemble_nil]
  omega

theorem addic_rc (d a : BitVec 5) (simm : BitVec 16) : Statement (.addic_rc d a simm) := by
  have := put_le d 10
  have := put_le a 15
  have := put_le simm 31
  simp only [Statement, encodeNat_addic_rc, assemble_cons, assemble_nil]
  omega

theorem subfic (d a : BitVec 5) (simm : BitVec 16) : Statement (.subfic d a simm) := by
  have := put_le d 10
  have := put_le a 15
  have := put_le simm 31
  simp only [Statement, encodeNat_subfic, assemble_cons, assemble_nil]
  omega

theorem mulli (d a : BitVec 5) (simm : BitVec 16) : Statement (.mulli d a simm) := by
  have := put_le d 10
  have := put_le a 15
  have := put_le simm 31
  simp only [Statement, encodeNat_mulli, assemble_cons, assemble_nil]
  omega

theorem addx (d a b : BitVec 5) (oe rc : Bool) : Statement (.addx d a b oe rc) := by
  have := put_le d 10
  have := put_le a 15
  have := put_le b 20
  have := putFlag_le oe 21
  have := putFlag_le rc 31
  simp only [Statement, encodeNat_addx, assemble_cons, assemble_nil, putXo]
  omega

theorem addcx (d a b : BitVec 5) (oe rc : Bool) : Statement (.addcx d a b oe rc) := by
  have := put_le d 10
  have := put_le a 15
  have := put_le b 20
  have := putFlag_le oe 21
  have := putFlag_le rc 31
  simp only [Statement, encodeNat_addcx, assemble_cons, assemble_nil, putXo]
  omega

theorem addex (d a b : BitVec 5) (oe rc : Bool) : Statement (.addex d a b oe rc) := by
  have := put_le d 10
  have := put_le a 15
  have := put_le b 20
  have := putFlag_le oe 21
  have := putFlag_le rc 31
  simp only [Statement, encodeNat_addex, assemble_cons, assemble_nil, putXo]
  omega

theorem addmex (d a : BitVec 5) (oe rc : Bool) : Statement (.addmex d a oe rc) := by
  have := put_le d 10
  have := put_le a 15
  have := putFlag_le oe 21
  have := putFlag_le rc 31
  simp only [Statement, encodeNat_addmex, assemble_cons, assemble_nil, putXo]
  omega

theorem addzex (d a : BitVec 5) (oe rc : Bool) : Statement (.addzex d a oe rc) := by
  have := put_le d 10
  have := put_le a 15
  have := putFlag_le oe 21
  have := putFlag_le rc 31
  simp only [Statement, encodeNat_addzex, assemble_cons, assemble_nil, putXo]
  omega

theorem subfx (d a b : BitVec 5) (oe rc : Bool) : Statement (.subfx d a b oe rc) := by
  have := put_le d 10
  have := put_le a 15
  have := put_le b 20
  have := putFlag_le oe 21
  have := putFlag_le rc 31
  simp only [Statement, encodeNat_subfx, assemble_cons, assemble_nil, putXo]
  omega

theorem subfcx (d a b : BitVec 5) (oe rc : Bool) : Statement (.subfcx d a b oe rc) := by
  have := put_le d 10
  have := put_le a 15
  have := put_le b 20
  have := putFlag_le oe 21
  have := putFlag_le rc 31
  simp only [Statement, encodeNat_subfcx, assemble_cons, assemble_nil, putXo]
  omega

theorem subfex (d a b : BitVec 5) (oe rc : Bool) : Statement (.subfex d a b oe rc) := by
  have := put_le d 10
  have := put_le a 15
  have := put_le b 20
  have := putFlag_le oe 21
  have := putFlag_le rc 31
  simp only [Statement, encodeNat_subfex, assemble_cons, assemble_nil, putXo]
  omega

theorem subfmex (d a : BitVec 5) (oe rc : Bool) : Statement (.subfmex d a oe rc) := by
  have := put_le d 10
  have := put_le a 15
  have := putFlag_le oe 21
  have := putFlag_le rc 31
  simp only [Statement, encodeNat_subfmex, assemble_cons, assemble_nil, putXo]
  omega

theorem subfzex (d a : BitVec 5) (oe rc : Bool) : Statement (.subfzex d a oe rc) := by
  have := put_le d 10
  have := put_le a 15
  have := putFlag_le oe 21
  have := putFlag_le rc 31
  simp only [Statement, encodeNat_subfzex, assemble_cons, assemble_nil, putXo]
  omega

theorem negx (d a : BitVec 5) (oe rc : Bool) : Statement (.negx d a oe rc) := by
  have := put_le d 10
  have := put_le a 15
  have := putFlag_le oe 21
  have := putFlag_le rc 31
  simp only [Statement, encodeNat_negx, assemble_cons, assemble_nil, putXo]
  omega

theorem mullwx (d a b : BitVec 5) (oe rc : Bool) : Statement (.mullwx d a b oe rc) := by
  have := put_le d 10
  have := put_le a 15
  have := put_le b 20
  have := putFlag_le oe 21
  have := putFlag_le rc 31
  simp only [Statement, encodeNat_mullwx, assemble_cons, assemble_nil, putXo]
  omega

theorem divwx (d a b : BitVec 5) (oe rc : Bool) : Statement (.divwx d a b oe rc) := by
  have := put_le d 10
  have := put_le a 15
  have := put_le b 20
  have := putFlag_le oe 21
  have := putFlag_le rc 31
  simp only [Statement, encodeNat_divwx, assemble_cons, assemble_nil, putXo]
  omega

theorem divwux (d a b : BitVec 5) (oe rc : Bool) : Statement (.divwux d a b oe rc) := by
  have := put_le d 10
  have := put_le a 15
  have := put_le b 20
  have := putFlag_le oe 21
  have := putFlag_le rc 31
  simp only [Statement, encodeNat_divwux, assemble_cons, assemble_nil, putXo]
  omega

theorem mulhwx (d a b : BitVec 5) (rc : Bool) : Statement (.mulhwx d a b rc) := by
  have := put_le d 10
  have := put_le a 15
  have := put_le b 20
  have := putFlag_le rc 31
  simp only [Statement, encodeNat_mulhwx, assemble_cons, assemble_nil, putXo]
  omega

theorem mulhwux (d a b : BitVec 5) (rc : Bool) : Statement (.mulhwux d a b rc) := by
  have := put_le d 10
  have := put_le a 15
  have := put_le b 20
  have := putFlag_le rc 31
  simp only [Statement, encodeNat_mulhwux, assemble_cons, assemble_nil, putXo]
  omega

theorem cmpi (crfD : BitVec 3) (a : BitVec 5) (simm : BitVec 16) : Statement (.cmpi crfD a simm) := by
  have := put_le crfD 8
  have := put_le a 15
  have := put_le simm 31
  simp only [Statement, encodeNat_cmpi, assemble_cons, assemble_nil]
  omega

theorem cmp (crfD : BitVec 3) (a b : BitVec 5) : Statement (.cmp crfD a b) := by
  have := put_le crfD 8
  have := put_le a 15
  have := put_le b 20
  simp only [Statement, encodeNat_cmp, assemble_cons, assemble_nil]
  omega

theorem cmpli (crfD : BitVec 3) (a : BitVec 5) (uimm : BitVec 16) : Statement (.cmpli crfD a uimm) := by
  have := put_le crfD 8
  have := put_le a 15
  have := put_le uimm 31
  simp only [Statement, encodeNat_cmpli, assemble_cons, assemble_nil]
  omega

theorem cmpl (crfD : BitVec 3) (a b : BitVec 5) : Statement (.cmpl crfD a b) := by
  have := put_le crfD 8
  have := put_le a 15
  have := put_le b 20
  simp only [Statement, encodeNat_cmpl, assemble_cons, assemble_nil, putXo]
  omega

theorem andi_rc (src a : BitVec 5) (uimm : BitVec 16) : Statement (.andi_rc src a uimm) := by
  have := put_le src 10
  have := put_le a 15
  have := put_le uimm 31
  simp only [Statement, encodeNat_andi_rc, assemble_cons, assemble_nil]
  omega

theorem andis_rc (src a : BitVec 5) (uimm : BitVec 16) : Statement (.andis_rc src a uimm) := by
  have := put_le src 10
  have := put_le a 15
  have := put_le uimm 31
  simp only [Statement, encodeNat_andis_rc, assemble_cons, assemble_nil]
  omega

theorem ori (src a : BitVec 5) (uimm : BitVec 16) : Statement (.ori src a uimm) := by
  have := put_le src 10
  have := put_le a 15
  have := put_le uimm 31
  simp only [Statement, encodeNat_ori, assemble_cons, assemble_nil]
  omega

theorem oris (src a : BitVec 5) (uimm : BitVec 16) : Statement (.oris src a uimm) := by
  have := put_le src 10
  have := put_le a 15
  have := put_le uimm 31
  simp only [Statement, encodeNat_oris, assemble_cons, assemble_nil]
  omega

theorem xori (src a : BitVec 5) (uimm : BitVec 16) : Statement (.xori src a uimm) := by
  have := put_le src 10
  have := put_le a 15
  have := put_le uimm 31
  simp only [Statement, encodeNat_xori, assemble_cons, assemble_nil]
  omega

theorem xoris (src a : BitVec 5) (uimm : BitVec 16) : Statement (.xoris src a uimm) := by
  have := put_le src 10
  have := put_le a 15
  have := put_le uimm 31
  simp only [Statement, encodeNat_xoris, assemble_cons, assemble_nil]
  omega

theorem andx (src a b : BitVec 5) (rc : Bool) : Statement (.andx src a b rc) := by
  have := put_le src 10
  have := put_le a 15
  have := put_le b 20
  have := putFlag_le rc 31
  simp only [Statement, encodeNat_andx, assemble_cons, assemble_nil, putXo]
  omega

theorem andcx (src a b : BitVec 5) (rc : Bool) : Statement (.andcx src a b rc) := by
  have := put_le src 10
  have := put_le a 15
  have := put_le b 20
  have := putFlag_le rc 31
  simp only [Statement, encodeNat_andcx, assemble_cons, assemble_nil, putXo]
  omega

theorem orx (src a b : BitVec 5) (rc : Bool) : Statement (.orx src a b rc) := by
  have := put_le src 10
  have := put_le a 15
  have := put_le b 20
  have := putFlag_le rc 31
  simp only [Statement, encodeNat_orx, assemble_cons, assemble_nil, putXo]
  omega

theorem orcx (src a b : BitVec 5) (rc : Bool) : Statement (.orcx src a b rc) := by
  have := put_le src 10
  have := put_le a 15
  have := put_le b 20
  have := putFlag_le rc 31
  simp only [Statement, encodeNat_orcx, assemble_cons, assemble_nil, putXo]
  omega

theorem xorx (src a b : BitVec 5) (rc : Bool) : Statement (.xorx src a b rc) := by
  have := put_le src 10
  have := put_le a 15
  have := put_le b 20
  have := putFlag_le rc 31
  simp only [Statement, encodeNat_xorx, assemble_cons, assemble_nil, putXo]
  omega

theorem nandx (src a b : BitVec 5) (rc : Bool) : Statement (.nandx src a b rc) := by
  have := put_le src 10
  have := put_le a 15
  have := put_le b 20
  have := putFlag_le rc 31
  simp only [Statement, encodeNat_nandx, assemble_cons, assemble_nil, putXo]
  omega

theorem norx (src a b : BitVec 5) (rc : Bool) : Statement (.norx src a b rc) := by
  have := put_le src 10
  have := put_le a 15
  have := put_le b 20
  have := putFlag_le rc 31
  simp only [Statement, encodeNat_norx, assemble_cons, assemble_nil, putXo]
  omega

theorem eqvx (src a b : BitVec 5) (rc : Bool) : Statement (.eqvx src a b rc) := by
  have := put_le src 10
  have := put_le a 15
  have := put_le b 20
  have := putFlag_le rc 31
  simp only [Statement, encodeNat_eqvx, assemble_cons, assemble_nil, putXo]
  omega

theorem extsbx (src a : BitVec 5) (rc : Bool) : Statement (.extsbx src a rc) := by
  have := put_le src 10
  have := put_le a 15
  have := putFlag_le rc 31
  simp only [Statement, encodeNat_extsbx, assemble_cons, assemble_nil, putXo]
  omega

theorem extshx (src a : BitVec 5) (rc : Bool) : Statement (.extshx src a rc) := by
  have := put_le src 10
  have := put_le a 15
  have := putFlag_le rc 31
  simp only [Statement, encodeNat_extshx, assemble_cons, assemble_nil, putXo]
  omega

theorem cntlzwx (src a : BitVec 5) (rc : Bool) : Statement (.cntlzwx src a rc) := by
  have := put_le src 10
  have := put_le a 15
  have := putFlag_le rc 31
  simp only [Statement, encodeNat_cntlzwx, assemble_cons, assemble_nil, putXo]
  omega

theorem rlwinmx (src a sh mb me : BitVec 5) (rc : Bool) : Statement (.rlwinmx src a sh mb me rc) := by
  have := put_le src 10
  have := put_le a 15
  have := put_le sh 20
  have := put_le mb 25
  have := put_le me 30
  have := putFlag_le rc 31
  simp only [Statement, encodeNat_rlwinmx, assemble_cons, assemble_nil]
  omega

theorem rlwimix (src a sh mb me : BitVec 5) (rc : Bool) : Statement (.rlwimix src a sh mb me rc) := by
  have := put_le src 10
  have := put_le a 15
  have := put_le sh 20
  have := put_le mb 25
  have := put_le me 30
  have := putFlag_le rc 31
  simp only [Statement, encodeNat_rlwimix, assemble_cons, assemble_nil]
  omega

theorem rlwnmx (src a b mb me : BitVec 5) (rc : Bool) : Statement (.rlwnmx src a b mb me rc) := by
  have := put_le src 10
  have := put_le a 15
  have := put_le b 20
  have := put_le mb 25
  have := put_le me 30
  have := putFlag_le rc 31
  simp only [Statement, encodeNat_rlwnmx, assemble_cons, assemble_nil]
  omega

theorem slwx (src a b : BitVec 5) (rc : Bool) : Statement (.slwx src a b rc) := by
  have := put_le src 10
  have := put_le a 15
  have := put_le b 20
  have := putFlag_le rc 31
  simp only [Statement, encodeNat_slwx, assemble_cons, assemble_nil, putXo]
  omega

theorem srwx (src a b : BitVec 5) (rc : Bool) : Statement (.srwx src a b rc) := by
  have := put_le src 10
  have := put_le a 15
  have := put_le b 20
  have := putFlag_le rc 31
  simp only [Statement, encodeNat_srwx, assemble_cons, assemble_nil, putXo]
  omega

theorem srawx (src a b : BitVec 5) (rc : Bool) : Statement (.srawx src a b rc) := by
  have := put_le src 10
  have := put_le a 15
  have := put_le b 20
  have := putFlag_le rc 31
  simp only [Statement, encodeNat_srawx, assemble_cons, assemble_nil, putXo]
  omega

theorem srawix (src a sh : BitVec 5) (rc : Bool) : Statement (.srawix src a sh rc) := by
  have := put_le src 10
  have := put_le a 15
  have := put_le sh 20
  have := putFlag_le rc 31
  simp only [Statement, encodeNat_srawix, assemble_cons, assemble_nil, putXo]
  omega

theorem faddx (d a b : BitVec 5) (rc : Bool) : Statement (.faddx d a b rc) := by
  have := put_le d 10
  have := put_le a 15
  have := put_le b 20
  have := putFlag_le rc 31
  simp only [Statement, encodeNat_faddx, assemble_cons, assemble_nil, putXo]
  omega

theorem faddsx (d a b : BitVec 5) (rc : Bool) : Statement (.faddsx d a b rc) := by
  have := put_le d 10
  have := put_le a 15
  have := put_le b 20
  have := putFlag_le rc 31
  simp only [Statement, encodeNat_faddsx, assemble_cons, assemble_nil, putXo]
  omega

theorem fsubx (d a b : BitVec 5) (rc : Bool) : Statement (.fsubx d a b rc) := by
  have := put_le d 10
  have := put_le a 15
  have := put_le b 20
  have := putFlag_le rc 31
  simp only [Statement, encodeNat_fsubx, assemble_cons, assemble_nil, putXo]
  omega

theorem fsubsx (d a b : BitVec 5) (rc : Bool) : Statement (.fsubsx d a b rc) := by
  have := put_le d 10
  have := put_le a 15
  have := put_le b 20
  have := putFlag_le rc 31
  simp only [Statement, encodeNat_fsubsx, assemble_cons, assemble_nil, putXo]
  omega

theorem fdivx (d a b : BitVec 5) (rc : Bool) : Statement (.fdivx d a b rc) := by
  have := put_le d 10
  have := put_le a 15
  have := put_le b 20
  have := putFlag_le rc 31
  simp only [Statement, encodeNat_fdivx, assemble_cons, assemble_nil, putXo]
  omega

theorem fdivsx (d a b : BitVec 5) (rc : Bool) : Statement (.fdivsx d a b rc) := by
  have := put_le d 10
  have := put_le a 15
  have := put_le b 20
  have := putFlag_le rc 31
  simp only [Statement, encodeNat_fdivsx, assemble_cons, assemble_nil, putXo]
  omega

theorem fmulx (d a c : BitVec 5) (rc : Bool) : Statement (.fmulx d a c rc) := by
  have := put_le d 10
  have := put_le a 15
  have := put_le c 25
  have := putFlag_le rc 31
  simp only [Statement, encodeNat_fmulx, assemble_cons, assemble_nil, putXo]
  omega

theorem fmulsx (d a c : BitVec 5) (rc : Bool) : Statement (.fmulsx d a c rc) := by
  have := put_le d 10
  have := put_le a 15
  have := put_le c 25
  have := putFlag_le rc 31
  simp only [Statement, encodeNat_fmulsx, assemble_cons, assemble_nil, putXo]
  omega

theorem fresx (d b : BitVec 5) (rc : Bool) : Statement (.fresx d b rc) := by
  have := put_le d 10
  have := put_le b 20
  have := putFlag_le rc 31
  simp only [Statement, encodeNat_fresx, assemble_cons, assemble_nil, putXo]
  omega

theorem frsqrtex (d b : BitVec 5) (rc : Bool) : Statement (.frsqrtex d b rc) := by
  have := put_le d 10
  have := put_le b 20
  have := putFlag_le rc 31
  simp only [Statement, encodeNat_frsqrtex, assemble_cons, assemble_nil, putXo]
  omega

theorem fselx (d a b c : BitVec 5) (rc : Bool) : Statement (.fselx d a b c rc) := by
  have := put_le d 10
  have := put_le a 15
  have := put_le b 20
  have := put_le c 25
  have := putFlag_le rc 31
  simp only [Statement, encodeNat_fselx, assemble_cons, assemble_nil, putXo]
  omega

theorem fmaddx (d a b c : BitVec 5) (rc : Bool) : Statement (.fmaddx d a b c rc) := by
  have := put_le d 10
  have := put_le a 15
  have := put_le b 20
  have := put_le c 25
  have := putFlag_le rc 31
  simp only [Statement, encodeNat_fmaddx, assemble_cons, assemble_nil, putXo]
  omega

theorem fmaddsx (d a b c : BitVec 5) (rc : Bool) : Statement (.fmaddsx d a b c rc) := by
  have := put_le d 10
  have := put_le a 15
  have := put_le b 20
  have := put_le c 25
  have := putFlag_le rc 31
  simp only [Statement, encodeNat_fmaddsx, assemble_cons, assemble_nil, putXo]
  omega

theorem fmsubx (d a b c : BitVec 5) (rc : Bool) : Statement (.fmsubx d a b c rc) := by
  have := put_le d 10
  have := put_le a 15
  have := put_le b 20
  have := put_le c 25
  have := putFlag_le rc 31
  simp only [Statement, encodeNat_fmsubx, assemble_cons, assemble_nil, putXo]
  omega

theorem fmsubsx (d a b c : BitVec 5) (rc : Bool) : Statement (.fmsubsx d a b c rc) := by
  have := put_le d 10
  have := put_le a 15
  have := put_le b 20
  have := put_le c 25
  have := putFlag_le rc 31
  simp only [Statement, encodeNat_fmsubsx, assemble_cons, assemble_nil, putXo]
  omega

theorem fnmaddx (d a b c : BitVec 5) (rc : Bool) : Statement (.fnmaddx d a b c rc) := by
  have := put_le d 10
  have := put_le a 15
  have := put_le b 20
  have := put_le c 25
  have := putFlag_le rc 31
  simp only [Statement, encodeNat_fnmaddx, assemble_cons, assemble_nil, putXo]
  omega

theorem fnmaddsx (d a b c : BitVec 5) (rc : Bool) : Statement (.fnmaddsx d a b c rc) := by
  have := put_le d 10
  have := put_le a 15
  have := put_le b 20
  have := put_le c 25
  have := putFlag_le rc 31
  simp only [Statement, encodeNat_fnmaddsx, assemble_cons, assemble_nil, putXo]
  omega

theorem fnmsubx (d a b c : BitVec 5) (rc : Bool) : Statement (.fnmsubx d a b c rc) := by
  have := put_le d 10
  have := put_le a 15
  have := put_le b 20
  have := put_le c 25
  have := putFlag_le rc 31
  simp only [Statement, encodeNat_fnmsubx, assemble_cons, assemble_nil, putXo]
  omega

theorem fnmsubsx (d a b c : BitVec 5) (rc : Bool) : Statement (.fnmsubsx d a b c rc) := by
  have := put_le d 10
  have := put_le a 15
  have := put_le b 20
  have := put_le c 25
  have := putFlag_le rc 31
  simp only [Statement, encodeNat_fnmsubsx, assemble_cons, assemble_nil, putXo]
  omega

theorem frspx (d b : BitVec 5) (rc : Bool) : Statement (.frspx d b rc) := by
  have := put_le d 10
  have := put_le b 20
  have := putFlag_le rc 31
  simp only [Statement, encodeNat_frspx, assemble_cons, assemble_nil, putXo]
  omega

theorem fctiwx (d b : BitVec 5) (rc : Bool) : Statement (.fctiwx d b rc) := by
  have := put_le d 10
  have := put_le b 20
  have := putFlag_le rc 31
  simp only [Statement, encodeNat_fctiwx, assemble_cons, assemble_nil, putXo]
  omega

theorem fctiwzx (d b : BitVec 5) (rc : Bool) : Statement (.fctiwzx d b rc) := by
  have := put_le d 10
  have := put_le b 20
  have := putFlag_le rc 31
  simp only [Statement, encodeNat_fctiwzx, assemble_cons, assemble_nil, putXo]
  omega

theorem fcmpu (crfD : BitVec 3) (a b : BitVec 5) : Statement (.fcmpu crfD a b) := by
  have := put_le crfD 8
  have := put_le a 15
  have := put_le b 20
  simp only [Statement, encodeNat_fcmpu, assemble_cons, assemble_nil]
  omega

theorem fcmpo (crfD : BitVec 3) (a b : BitVec 5) : Statement (.fcmpo crfD a b) := by
  have := put_le crfD 8
  have := put_le a 15
  have := put_le b 20
  simp only [Statement, encodeNat_fcmpo, assemble_cons, assemble_nil, putXo]
  omega

theorem mffsx (d : BitVec 5) (rc : Bool) : Statement (.mffsx d rc) := by
  have := put_le d 10
  have := putFlag_le rc 31
  simp only [Statement, encodeNat_mffsx, assemble_cons, assemble_nil, putXo]
  omega

theorem mcrfs (crfD crfS : BitVec 3) : Statement (.mcrfs crfD crfS) := by
  have := put_le crfD 8
  have := put_le crfS 13
  simp only [Statement, encodeNat_mcrfs, assemble_cons, assemble_nil, putXo]
  omega

theorem mtfsfix (crfD : BitVec 3) (imm : BitVec 4) (rc : Bool) : Statement (.mtfsfix crfD imm rc) := by
  have := put_le crfD 8
  have := put_le imm 19
  have := putFlag_le rc 31
  simp only [Statement, encodeNat_mtfsfix, assemble_cons, assemble_nil, putXo]
  omega

theorem mtfsfx (fm : BitVec 8) (b : BitVec 5) (rc : Bool) : Statement (.mtfsfx fm b rc) := by
  have := put_le fm 14
  have := put_le b 20
  have := putFlag_le rc 31
  simp only [Statement, encodeNat_mtfsfx, assemble_cons, assemble_nil, putXo]
  omega

theorem mtfsb0x (crbD : BitVec 5) (rc : Bool) : Statement (.mtfsb0x crbD rc) := by
  have := put_le crbD 10
  have := putFlag_le rc 31
  simp only [Statement, encodeNat_mtfsb0x, assemble_cons, assemble_nil, putXo]
  omega

theorem mtfsb1x (crbD : BitVec 5) (rc : Bool) : Statement (.mtfsb1x crbD rc) := by
  have := put_le crbD 10
  have := putFlag_le rc 31
  simp only [Statement, encodeNat_mtfsb1x, assemble_cons, assemble_nil, putXo]
  omega

theorem fmrx (d b : BitVec 5) (rc : Bool) : Statement (.fmrx d b rc) := by
  have := put_le d 10
  have := put_le b 20
  have := putFlag_le rc 31
  simp only [Statement, encodeNat_fmrx, assemble_cons, assemble_nil, putXo]
  omega

theorem fnegx (d b : BitVec 5) (rc : Bool) : Statement (.fnegx d b rc) := by
  have := put_le d 10
  have := put_le b 20
  have := putFlag_le rc 31
  simp only [Statement, encodeNat_fnegx, assemble_cons, assemble_nil, putXo]
  omega

theorem fabsx (d b : BitVec 5) (rc : Bool) : Statement (.fabsx d b rc) := by
  have := put_le d 10
  have := put_le b 20
  have := putFlag_le rc 31
  simp only [Statement, encodeNat_fabsx, assemble_cons, assemble_nil, putXo]
  omega

theorem fnabsx (d b : BitVec 5) (rc : Bool) : Statement (.fnabsx d b rc) := by
  have := put_le d 10
  have := put_le b 20
  have := putFlag_le rc 31
  simp only [Statement, encodeNat_fnabsx, assemble_cons, assemble_nil, putXo]
  omega

theorem lbz (d a : BitVec 5) (disp : BitVec 16) : Statement (.lbz d a disp) := by
  have := put_le d 10
  have := put_le a 15
  have := put_le disp 31
  simp only [Statement, encodeNat_lbz, assemble_cons, assemble_nil]
  omega

theorem lbzu (d a : BitVec 5) (disp : BitVec 16) : Statement (.lbzu d a disp) := by
  have := put_le d 10
  have := put_le a 15
  have := put_le disp 31
  simp only [Statement, encodeNat_lbzu, assemble_cons, assemble_nil]
  omega

theorem lbzx (d a b : BitVec 5) : Statement (.lbzx d a b) := by
  have := put_le d 10
  have := put_le a 15
  have := put_le b 20
  simp only [Statement, encodeNat_lbzx, assemble_cons, assemble_nil, putXo]
  omega

theorem lbzux (d a b : BitVec 5) : Statement (.lbzux d a b) := by
  have := put_le d 10
  have := put_le a 15
  have := put_le b 20
  simp only [Statement, encodeNat_lbzux, assemble_cons, assemble_nil, putXo]
  omega

theorem lhz (d a : BitVec 5) (disp : BitVec 16) : Statement (.lhz d a disp) := by
  have := put_le d 10
  have := put_le a 15
  have := put_le disp 31
  simp only [Statement, encodeNat_lhz, assemble_cons, assemble_nil]
  omega

theorem lhzu (d a : BitVec 5) (disp : BitVec 16) : Statement (.lhzu d a disp) := by
  have := put_le d 10
  have := put_le a 15
  have := put_le disp 31
  simp only [Statement, encodeNat_lhzu, assemble_cons, assemble_nil]
  omega

theorem lhzx (d a b : BitVec 5) : Statement (.lhzx d a b) := by
  have := put_le d 10
  have := put_le a 15
  have := put_le b 20
  simp only [Statement, encodeNat_lhzx, assemble_cons, assemble_nil, putXo]
  omega

theorem lhzux (d a b : BitVec 5) : Statement (.lhzux d a b) := by
  have := put_le d 10
  have := put_le a 15
  have := put_le b 20
  simp only [Statement, encodeNat_lhzux, assemble_cons, assemble_nil, putXo]
  omega

theorem lha (d a : BitVec 5) (disp : BitVec 16) : Statement (.lha d a disp) := by
  have := put_le d 10
  have := put_le a 15
  have := put_le disp 31
  simp only [Statement, encodeNat_lha, assemble_cons, assemble_nil]
  omega

theorem lhau (d a : BitVec 5) (disp : BitVec 16) : Statement (.lhau d a disp) := by
  have := put_le d 10
  have := put_le a 15
  have := put_le disp 31
  simp only [Statement, encodeNat_lhau, assemble_cons, assemble_nil]
  omega

theorem lhax (d a b : BitVec 5) : Statement (.lhax d a b) := by
  have := put_le d 10
  have := put_le a 15
  have := put_le b 20
  simp only [Statement, encodeNat_lhax, assemble_cons, assemble_nil, putXo]
  omega

theorem lhaux (d a b : BitVec 5) : Statement (.lhaux d a b) := by
  have := put_le d 10
  have := put_le a 15
  have := put_le b 20
  simp only [Statement, encodeNat_lhaux, assemble_cons, assemble_nil, putXo]
  omega

theorem lwz (d a : BitVec 5) (disp : BitVec 16) : Statement (.lwz d a disp) := by
  have := put_le d 10
  have := put_le a 15
  have := put_le disp 31
  simp only [Statement, encodeNat_lwz, assemble_cons, assemble_nil]
  omega

theorem lwzu (d a : BitVec 5) (disp : BitVec 16) : Statement (.lwzu d a disp) := by
  have := put_le d 10
  have := put_le a 15
  have := put_le disp 31
  simp only [Statement, encodeNat_lwzu, assemble_cons, assemble_nil]
  omega

theorem lwzx (d a b : BitVec 5) : Statement (.lwzx d a b) := by
  have := put_le d 10
  have := put_le a 15
  have := put_le b 20
  simp only [Statement, encodeNat_lwzx, assemble_cons, assemble_nil, putXo]
  omega

theorem lwzux (d a b : BitVec 5) : Statement (.lwzux d a b) := by
  have := put_le d 10
  have := put_le a 15
  have := put_le b 20
  simp only [Statement, encodeNat_lwzux, assemble_cons, assemble_nil, putXo]
  omega

theorem stb (src a : BitVec 5) (disp : BitVec 16) : Statement (.stb src a disp) := by
  have := put_le src 10
  have := put_le a 15
  have := put_le disp 31
  simp only [Statement, encodeNat_stb, assemble_cons, assemble_nil]
  omega

theorem stbu (src a : BitVec 5) (disp : BitVec 16) : Statement (.stbu src a disp) := by
  have := put_le src 10
  have := put_le a 15
  have := put_le disp 31
  simp only [Statement, encodeNat_stbu, assemble_cons, assemble_nil]
  omega

theorem stbx (src a b : BitVec 5) : Statement (.stbx src a b) := by
  have := put_le src 10
  have := put_le a 15
  have := put_le b 20
  simp only [Statement, encodeNat_stbx, assemble_cons, assemble_nil, putXo]
  omega

theorem stbux (src a b : BitVec 5) : Statement (.stbux src a b) := by
  have := put_le src 10
  have := put_le a 15
  have := put_le b 20
  simp only [Statement, encodeNat_stbux, assemble_cons, assemble_nil, putXo]
  omega

theorem sth (src a : BitVec 5) (disp : BitVec 16) : Statement (.sth src a disp) := by
  have := put_le src 10
  have := put_le a 15
  have := put_le disp 31
  simp only [Statement, encodeNat_sth, assemble_cons, assemble_nil]
  omega

theorem sthu (src a : BitVec 5) (disp : BitVec 16) : Statement (.sthu src a disp) := by
  have := put_le src 10
  have := put_le a 15
  have := put_le disp 31
  simp only [Statement, encodeNat_sthu, assemble_cons, assemble_nil]
  omega

theorem sthx (src a b : BitVec 5) : Statement (.sthx src a b) := by
  have := put_le src 10
  have := put_le a 15
  have := put_le b 20
  simp only [Statement, encodeNat_sthx, assemble_cons, assemble_nil, putXo]
  omega

theorem sthux (src a b : BitVec 5) : Statement (.sthux src a b) := by
  have := put_le src 10
  have := put_le a 15
  have := put_le b 20
  simp only [Statement, encodeNat_sthux, assemble_cons, assemble_nil, putXo]
  omega

theorem stw (src a : BitVec 5) (disp : BitVec 16) : Statement (.stw src a disp) := by
  have := put_le src 10
  have := put_le a 15
  have := put_le disp 31
  simp only [Statement, encodeNat_stw, assemble_cons, assemble_nil]
  omega

theorem stwu (src a : BitVec 5) (disp : BitVec 16) : Statement (.stwu src a disp) := by
  have := put_le src 10
  have := put_le a 15
  have := put_le disp 31
  simp only [Statement, encodeNat_stwu, assemble_cons, assemble_nil]
  omega

theorem stwx (src a b : BitVec 5) : Statement (.stwx src a b) := by
  have := put_le src 10
  have := put_le a 15
  have := put_le b 20
  simp only [Statement, encodeNat_stwx, assemble_cons, assemble_nil, putXo]
  omega

theorem stwux (src a b : BitVec 5) : Statement (.stwux src a b) := by
  have := put_le src 10
  have := put_le a 15
  have := put_le b 20
  simp only [Statement, encodeNat_stwux, assemble_cons, assemble_nil, putXo]
  omega

theorem lhbrx (d a b : BitVec 5) : Statement (.lhbrx d a b) := by
  have := put_le d 10
  have := put_le a 15
  have := put_le b 20
  simp only [Statement, encodeNat_lhbrx, assemble_cons, assemble_nil, putXo]
  omega

theorem lwbrx (d a b : BitVec 5) : Statement (.lwbrx d a b) := by
  have := put_le d 10
  have := put_le a 15
  have := put_le b 20
  simp only [Statement, encodeNat_lwbrx, assemble_cons, assemble_nil, putXo]
  omega

theorem sthbrx (src a b : BitVec 5) : Statement (.sthbrx src a b) := by
  have := put_le src 10
  have := put_le a 15
  have := put_le b 20
  simp only [Statement, encodeNat_sthbrx, assemble_cons, assemble_nil, putXo]
  omega

theorem stwbrx (src a b : BitVec 5) : Statement (.stwbrx src a b) := by
  have := put_le src 10
  have := put_le a 15
  have := put_le b 20
  simp only [Statement, encodeNat_stwbrx, assemble_cons, assemble_nil, putXo]
  omega

theorem lmw (d a : BitVec 5) (disp : BitVec 16) : Statement (.lmw d a disp) := by
  have := put_le d 10
  have := put_le a 15
  have := put_le disp 31
  simp only [Statement, encodeNat_lmw, assemble_cons, assemble_nil]
  omega

theorem stmw (src a : BitVec 5) (disp : BitVec 16) : Statement (.stmw src a disp) := by
  have := put_le src 10
  have := put_le a 15
  have := put_le disp 31
  simp only [Statement, encodeNat_stmw, assemble_cons, assemble_nil]
  omega

theorem lswi (d a nb : BitVec 5) : Statement (.lswi d a nb) := by
  have := put_le d 10
  have := put_le a 15
  have := put_le nb 20
  simp only [Statement, encodeNat_lswi, assemble_cons, assemble_nil, putXo]
  omega

theorem lswx (d a b : BitVec 5) : Statement (.lswx d a b) := by
  have := put_le d 10
  have := put_le a 15
  have := put_le b 20
  simp only [Statement, encodeNat_lswx, assemble_cons, assemble_nil, putXo]
  omega

theorem stswi (src a nb : BitVec 5) : Statement (.stswi src a nb) := by
  have := put_le src 10
  have := put_le a 15
  have := put_le nb 20
  simp only [Statement, encodeNat_stswi, assemble_cons, assemble_nil, putXo]
  omega

theorem stswx (src a b : BitVec 5) : Statement (.stswx src a b) := by
  have := put_le src 10
  have := put_le a 15
  have := put_le b 20
  simp only [Statement, encodeNat_stswx, assemble_cons, assemble_nil, putXo]
  omega

theorem lwarx (d a b : BitVec 5) : Statement (.lwarx d a b) := by
  have := put_le d 10
  have := put_le a 15
  have := put_le b 20
  simp only [Statement, encodeNat_lwarx, assemble_cons, assemble_nil, putXo]
  omega

theorem stwcx_rc (src a b : BitVec 5) : Statement (.stwcx_rc src a b) := by
  have := put_le src 10
  have := put_le a 15
  have := put_le b 20
  simp only [Statement, encodeNat_stwcx_rc, assemble_cons, assemble_nil, putXo]
  omega

theorem sync : Statement (.sync) := by
  simp only [Statement, encodeNat_sync, assemble_cons, assemble_nil, putXo]
  omega

theorem eieio : Statement (.eieio) := by
  simp only [Statement, encodeNat_eieio, assemble_cons, assemble_nil, putXo]
  omega

theorem isync : Statement (.isync) := by
  simp only [Statement, encodeNat_isync, assemble_cons, assemble_nil, putXo]
  omega

theorem lfs (d a : BitVec 5) (disp : BitVec 16) : Statement (.lfs d a disp) := by
  have := put_le d 10
  have := put_le a 15
  have := put_le disp 31
  simp only [Statement, encodeNat_lfs, assemble_cons, assemble_nil]
  omega

theorem lfsu (d a : BitVec 5) (disp : BitVec 16) : Statement (.lfsu d a disp) := by
  have := put_le d 10
  have := put_le a 15
  have := put_le disp 31
  simp only [Statement, encodeNat_lfsu, assemble_cons, assemble_nil]
  omega

theorem lfsx (d a b : BitVec 5) : Statement (.lfsx d a b) := by
  have := put_le d 10
  have := put_le a 15
  have := put_le b 20
  simp only [Statement, encodeNat_lfsx, assemble_cons, assemble_nil, putXo]
  omega

theorem lfsux (d a b : BitVec 5) : Statement (.lfsux d a b) := by
  have := put_le d 10
  have := put_le a 15
  have := put_le b 20
  simp only [Statement, encodeNat_lfsux, assemble_cons, assemble_nil, putXo]
  omega

theorem lfd (d a : BitVec 5) (disp : BitVec 16) : Statement (.lfd d a disp) := by
  have := put_le d 10
  have := put_le a 15
  have := put_le disp 31
  simp only [Statement, encodeNat_lfd, assemble_cons, assemble_nil]
  omega

theorem lfdu (d a : BitVec 5) (disp : BitVec 16) : Statement (.lfdu d a disp) := by
  have := put_le d 10
  have := put_le a 15
  have := put_le disp 31
  simp only [Statement, encodeNat_lfdu, assemble_cons, assemble_nil]
  omega

theorem lfdx (d a b : BitVec 5) : Statement (.lfdx d a b) := by
  have := put_le d 10
  have := put_le a 15
  have := put_le b 20
  simp only [Statement, encodeNat_lfdx, assemble_cons, assemble_nil, putXo]
  omega

theorem lfdux (d a b : BitVec 5) : Statement (.lfdux d a b) := by
  have := put_le d 10
  have := put_le a 15
  have := put_le b 20
  simp only [Statement, encodeNat_lfdux, assemble_cons, assemble_nil, putXo]
  omega

theorem stfs (src a : BitVec 5) (disp : BitVec 16) : Statement (.stfs src a disp) := by
  have := put_le src 10
  have := put_le a 15
  have := put_le disp 31
  simp only [Statement, encodeNat_stfs, assemble_cons, assemble_nil]
  omega

theorem stfsu (src a : BitVec 5) (disp : BitVec 16) : Statement (.stfsu src a disp) := by
  have := put_le src 10
  have := put_le a 15
  have := put_le disp 31
  simp only [Statement, encodeNat_stfsu, assemble_cons, assemble_nil]
  omega

theorem stfsx (src a b : BitVec 5) : Statement (.stfsx src a b) := by
  have := put_le src 10
  have := put_le a 15
  have := put_le b 20
  simp only [Statement, encodeNat_stfsx, assemble_cons, assemble_nil, putXo]
  omega

theorem stfsux (src a b : BitVec 5) : Statement (.stfsux src a b) := by
  have := put_le src 10
  have := put_le a 15
  have := put_le b 20
  simp only [Statement, encodeNat_stfsux, assemble_cons, assemble_nil, putXo]
  omega

theorem stfd (src a : BitVec 5) (disp : BitVec 16) : Statement (.stfd src a disp) := by
  have := put_le src 10
  have := put_le a 15
  have := put_le disp 31
  simp only [Statement, encodeNat_stfd, assemble_cons, assemble_nil]
  omega

theorem stfdu (src a : BitVec 5) (disp : BitVec 16) : Statement (.stfdu src a disp) := by
  have := put_le src 10
  have := put_le a 15
  have := put_le disp 31
  simp only [Statement, encodeNat_stfdu, assemble_cons, assemble_nil]
  omega

theorem stfdx (src a b : BitVec 5) : Statement (.stfdx src a b) := by
  have := put_le src 10
  have := put_le a 15
  have := put_le b 20
  simp only [Statement, encodeNat_stfdx, assemble_cons, assemble_nil, putXo]
  omega

theorem stfdux (src a b : BitVec 5) : Statement (.stfdux src a b) := by
  have := put_le src 10
  have := put_le a 15
  have := put_le b 20
  simp only [Statement, encodeNat_stfdux, assemble_cons, assemble_nil, putXo]
  omega

theorem stfiwx (src a b : BitVec 5) : Statement (.stfiwx src a b) := by
  have := put_le src 10
  have := put_le a 15
  have := put_le b 20
  simp only [Statement, encodeNat_stfiwx, assemble_cons, assemble_nil, putXo]
  omega

theorem bx (li : BitVec 24) (aa lk : Bool) : Statement (.bx li aa lk) := by
  have := put_le li 29
  have := putFlag_le aa 30
  have := putFlag_le lk 31
  simp only [Statement, encodeNat_bx, assemble_cons, assemble_nil]
  omega

theorem bcx (bo bi : BitVec 5) (bd : BitVec 14) (aa lk : Bool) : Statement (.bcx bo bi bd aa lk) := by
  have := put_le bo 10
  have := put_le bi 15
  have := put_le bd 29
  have := putFlag_le aa 30
  have := putFlag_le lk 31
  simp only [Statement, encodeNat_bcx, assemble_cons, assemble_nil]
  omega

theorem bclrx (bo bi : BitVec 5) (lk : Bool) : Statement (.bclrx bo bi lk) := by
  have := put_le bo 10
  have := put_le bi 15
  have := putFlag_le lk 31
  simp only [Statement, encodeNat_bclrx, assemble_cons, assemble_nil, putXo]
  omega

theorem bcctrx (bo bi : BitVec 5) (lk : Bool) : Statement (.bcctrx bo bi lk) := by
  have := put_le bo 10
  have := put_le bi 15
  have := putFlag_le lk 31
  simp only [Statement, encodeNat_bcctrx, assemble_cons, assemble_nil, putXo]
  omega

theorem crand (crbD crbA crbB : BitVec 5) : Statement (.crand crbD crbA crbB) := by
  have := put_le crbD 10
  have := put_le crbA 15
  have := put_le crbB 20
  simp only [Statement, encodeNat_crand, assemble_cons, assemble_nil, putXo]
  omega

theorem crandc (crbD crbA crbB : BitVec 5) : Statement (.crandc crbD crbA crbB) := by
  have := put_le crbD 10
  have := put_le crbA 15
  have := put_le crbB 20
  simp only [Statement, encodeNat_crandc, assemble_cons, assemble_nil, putXo]
  omega

theorem creqv (crbD crbA crbB : BitVec 5) : Statement (.creqv crbD crbA crbB) := by
  have := put_le crbD 10
  have := put_le crbA 15
  have := put_le crbB 20
  simp only [Statement, encodeNat_creqv, assemble_cons, assemble_nil, putXo]
  omega

theorem crnand (crbD crbA crbB : BitVec 5) : Statement (.crnand crbD crbA crbB) := by
  have := put_le crbD 10
  have := put_le crbA 15
  have := put_le crbB 20
  simp only [Statement, encodeNat_crnand, assemble_cons, assemble_nil, putXo]
  omega

theorem crnor (crbD crbA crbB : BitVec 5) : Statement (.crnor crbD crbA crbB) := by
  have := put_le crbD 10
  have := put_le crbA 15
  have := put_le crbB 20
  simp only [Statement, encodeNat_crnor, assemble_cons, assemble_nil, putXo]
  omega

theorem cror (crbD crbA crbB : BitVec 5) : Statement (.cror crbD crbA crbB) := by
  have := put_le crbD 10
  have := put_le crbA 15
  have := put_le crbB 20
  simp only [Statement, encodeNat_cror, assemble_cons, assemble_nil, putXo]
  omega

theorem crorc (crbD crbA crbB : BitVec 5) : Statement (.crorc crbD crbA crbB) := by
  have := put_le crbD 10
  have := put_le crbA 15
  have := put_le crbB 20
  simp only [Statement, encodeNat_crorc, assemble_cons, assemble_nil, putXo]
  omega

theorem crxor (crbD crbA crbB : BitVec 5) : Statement (.crxor crbD crbA crbB) := by
  have := put_le crbD 10
  have := put_le crbA 15
  have := put_le crbB 20
  simp only [Statement, encodeNat_crxor, assemble_cons, assemble_nil, putXo]
  omega

theorem mcrf (crfD crfS : BitVec 3) : Statement (.mcrf crfD crfS) := by
  have := put_le crfD 8
  have := put_le crfS 13
  simp only [Statement, encodeNat_mcrf, assemble_cons, assemble_nil]
  omega

theorem sc : Statement (.sc) := by
  simp only [Statement, encodeNat_sc, assemble_cons, assemble_nil]
  omega

theorem rfi : Statement (.rfi) := by
  simp only [Statement, encodeNat_rfi, assemble_cons, assemble_nil, putXo]
  omega

theorem tw (trapOn a b : BitVec 5) : Statement (.tw trapOn a b) := by
  have := put_le trapOn 10
  have := put_le a 15
  have := put_le b 20
  simp only [Statement, encodeNat_tw, assemble_cons, assemble_nil, putXo]
  omega

theorem twi (trapOn a : BitVec 5) (simm : BitVec 16) : Statement (.twi trapOn a simm) := by
  have := put_le trapOn 10
  have := put_le a 15
  have := put_le simm 31
  simp only [Statement, encodeNat_twi, assemble_cons, assemble_nil]
  omega

theorem mcrxr (crfD : BitVec 3) : Statement (.mcrxr crfD) := by
  have := put_le crfD 8
  simp only [Statement, encodeNat_mcrxr, assemble_cons, assemble_nil, putXo]
  omega

theorem mfcr (d : BitVec 5) : Statement (.mfcr d) := by
  have := put_le d 10
  simp only [Statement, encodeNat_mfcr, assemble_cons, assemble_nil, putXo]
  omega

theorem mtcrf (src : BitVec 5) (crm : BitVec 8) : Statement (.mtcrf src crm) := by
  have := put_le src 10
  have := put_le crm 19
  simp only [Statement, encodeNat_mtcrf, assemble_cons, assemble_nil, putXo]
  omega

theorem mfmsr (d : BitVec 5) : Statement (.mfmsr d) := by
  have := put_le d 10
  simp only [Statement, encodeNat_mfmsr, assemble_cons, assemble_nil, putXo]
  omega

theorem mtmsr (src : BitVec 5) : Statement (.mtmsr src) := by
  have := put_le src 10
  simp only [Statement, encodeNat_mtmsr, assemble_cons, assemble_nil, putXo]
  omega

theorem mfspr (d : BitVec 5) (spr : BitVec 10) : Statement (.mfspr d spr) := by
  have := put_le d 10
  have := putSplit_le spr
  simp only [Statement, encodeNat_mfspr, assemble_cons, assemble_nil, putXo]
  omega

theorem mtspr (src : BitVec 5) (spr : BitVec 10) : Statement (.mtspr src spr) := by
  have := put_le src 10
  have := putSplit_le spr
  simp only [Statement, encodeNat_mtspr, assemble_cons, assemble_nil, putXo]
  omega

theorem mftb (d : BitVec 5) (tbr : BitVec 10) : Statement (.mftb d tbr) := by
  have := put_le d 10
  have := putSplit_le tbr
  simp only [Statement, encodeNat_mftb, assemble_cons, assemble_nil, putXo]
  omega

theorem dcbf (a b : BitVec 5) : Statement (.dcbf a b) := by
  have := put_le a 15
  have := put_le b 20
  simp only [Statement, encodeNat_dcbf, assemble_cons, assemble_nil, putXo]
  omega

theorem dcbi (a b : BitVec 5) : Statement (.dcbi a b) := by
  have := put_le a 15
  have := put_le b 20
  simp only [Statement, encodeNat_dcbi, assemble_cons, assemble_nil, putXo]
  omega

theorem dcbst (a b : BitVec 5) : Statement (.dcbst a b) := by
  have := put_le a 15
  have := put_le b 20
  simp only [Statement, encodeNat_dcbst, assemble_cons, assemble_nil, putXo]
  omega

theorem dcbt (a b : BitVec 5) : Statement (.dcbt a b) := by
  have := put_le a 15
  have := put_le b 20
  simp only [Statement, encodeNat_dcbt, assemble_cons, assemble_nil, putXo]
  omega

theorem dcbtst (a b : BitVec 5) : Statement (.dcbtst a b) := by
  have := put_le a 15
  have := put_le b 20
  simp only [Statement, encodeNat_dcbtst, assemble_cons, assemble_nil, putXo]
  omega

theorem dcbz (a b : BitVec 5) : Statement (.dcbz a b) := by
  have := put_le a 15
  have := put_le b 20
  simp only [Statement, encodeNat_dcbz, assemble_cons, assemble_nil, putXo]
  omega

theorem icbi (a b : BitVec 5) : Statement (.icbi a b) := by
  have := put_le a 15
  have := put_le b 20
  simp only [Statement, encodeNat_icbi, assemble_cons, assemble_nil, putXo]
  omega

theorem mfsr (d : BitVec 5) (sr : BitVec 4) : Statement (.mfsr d sr) := by
  have := put_le d 10
  have := put_le sr 15
  simp only [Statement, encodeNat_mfsr, assemble_cons, assemble_nil, putXo]
  omega

theorem mfsrin (d b : BitVec 5) : Statement (.mfsrin d b) := by
  have := put_le d 10
  have := put_le b 20
  simp only [Statement, encodeNat_mfsrin, assemble_cons, assemble_nil, putXo]
  omega

theorem mtsr (src : BitVec 5) (sr : BitVec 4) : Statement (.mtsr src sr) := by
  have := put_le src 10
  have := put_le sr 15
  simp only [Statement, encodeNat_mtsr, assemble_cons, assemble_nil, putXo]
  omega

theorem mtsrin (src b : BitVec 5) : Statement (.mtsrin src b) := by
  have := put_le src 10
  have := put_le b 20
  simp only [Statement, encodeNat_mtsrin, assemble_cons, assemble_nil, putXo]
  omega

theorem tlbie (b : BitVec 5) : Statement (.tlbie b) := by
  have := put_le b 20
  simp only [Statement, encodeNat_tlbie, assemble_cons, assemble_nil, putXo]
  omega

theorem tlbsync : Statement (.tlbsync) := by
  simp only [Statement, encodeNat_tlbsync, assemble_cons, assemble_nil, putXo]
  omega

theorem tlbsync_b31 : Statement (.tlbsync_b31) := by
  simp only [Statement, encodeNat_tlbsync_b31, assemble_cons, assemble_nil, putXo]
  omega

theorem eciwx (d a b : BitVec 5) : Statement (.eciwx d a b) := by
  have := put_le d 10
  have := put_le a 15
  have := put_le b 20
  simp only [Statement, encodeNat_eciwx, assemble_cons, assemble_nil, putXo]
  omega

theorem ecowx (src a b : BitVec 5) : Statement (.ecowx src a b) := by
  have := put_le src 10
  have := put_le a 15
  have := put_le b 20
  simp only [Statement, encodeNat_ecowx, assemble_cons, assemble_nil, putXo]
  omega

end EncodeFits

end Sys2Proof.Laws
end

