-- ==== Sys2Proof/Tests/Slice0.lean ====
section
/-! SUPPORT. The model's own tests: ill-formed terms, words of every constructor, single steps from the spec's vectors, and a witness for the hypotheses of every statement that has some. -/

namespace Sys2Proof.Tests

open Sys2Proof.Machine

/-! ## Well-formedness: each check refuses an ill-formed term -/

theorem test_update_load_needs_base : (Instr.lwzu 3 0 4).wellFormed = false := by decide

theorem test_update_load_base_differs : (Instr.lhaux 3 3 4).wellFormed = false := by decide

theorem test_update_store_needs_base : (Instr.stwu 3 0 4).wellFormed = false := by decide

theorem test_update_store_base_may_be_source : (Instr.stwu 3 3 4).wellFormed = true := by decide

theorem test_float_update_needs_base : (Instr.lfdux 1 0 4).wellFormed = false := by decide

theorem test_multiple_load_base_below : (Instr.lmw 30 31 0).wellFormed = false ∧ (Instr.lmw 30 29 0).wellFormed = true := by
  decide

theorem test_string_load_base_outside :
    (Instr.lswi 31 0 8).wellFormed = false ∧ (Instr.lswi 31 1 8).wellFormed = true ∧ (Instr.lswi 5 12 0).wellFormed = false := by
  decide

theorem test_indexed_string_registers_differ :
    (Instr.lswx 5 5 6).wellFormed = false ∧ (Instr.lswx 5 4 5).wellFormed = false := by
  decide

theorem test_count_branch_keeps_counter : (Instr.bcctrx 16 0 false).wellFormed = false := by decide

/-! ## Decoding -/

/-- Words of spec/95_test_vectors.md (V1, V3, V5, V7, V8, V11, V12, V15, V16, V18, V20, V21, V22, V24, V25, V26, V27, V29, V34, V36, V31, V33), their fields read from the encoding by hand. -/
theorem test_decode_integer_arithmetic :
    decodeWord 0x3860FFFF = .ok (.addi 3 0 0xffff) ∧
    decodeWord 0x3C608000 = .ok (.addis 3 0 0x8000) ∧
    decodeWord 0x30640001 = .ok (.addic 3 4 1) ∧
    decodeWord 0x3464FFFF = .ok (.addic_rc 3 4 0xffff) ∧
    decodeWord 0x20640000 = .ok (.subfic 3 4 0) ∧
    decodeWord 0x1C64FFFD = .ok (.mulli 3 4 0xfffd) ∧
    decodeWord 0x7C642A14 = .ok (.addx 3 4 5 false false) ∧
    decodeWord 0x7C642814 = .ok (.addcx 3 4 5 false false) ∧
    decodeWord 0x7C642914 = .ok (.addex 3 4 5 false false) ∧
    decodeWord 0x7C6401D4 = .ok (.addmex 3 4 false false) ∧
    decodeWord 0x7C640594 = .ok (.addzex 3 4 true false) ∧
    decodeWord 0x7C642850 = .ok (.subfx 3 4 5 false false) ∧
    decodeWord 0x7C642810 = .ok (.subfcx 3 4 5 false false) ∧
    decodeWord 0x7C642910 = .ok (.subfex 3 4 5 false false) ∧
    decodeWord 0x7C6401D0 = .ok (.subfmex 3 4 false false) ∧
    decodeWord 0x7C640190 = .ok (.subfzex 3 4 false false) ∧
    decodeWord 0x7C6404D1 = .ok (.negx 3 4 true true) ∧
    decodeWord 0x7C642DD6 = .ok (.mullwx 3 4 5 true false) ∧
    decodeWord 0x7C642BD6 = .ok (.divwx 3 4 5 false false) ∧
    decodeWord 0x7C642B96 = .ok (.divwux 3 4 5 false false) ∧
    decodeWord 0x7C642896 = .ok (.mulhwx 3 4 5 false) ∧
    decodeWord 0x7C642816 = .ok (.mulhwux 3 4 5 false) := by
  decide

/-- Words of spec/95_test_vectors.md (V37, V40, V39, V41, V42, V43, V45, V47, V48, V49, V50, V51, V52, V53, V54, V55, V56, V57, V58, V59, V60), their fields read from the encoding by hand. -/
theorem test_decode_compare_logical :
    decodeWord 0x2F84FFFF = .ok (.cmpi 7 4 0xffff) ∧
    decodeWord 0x7D042800 = .ok (.cmp 2 4 5) ∧
    decodeWord 0x2884FFFF = .ok (.cmpli 1 4 0xffff) ∧
    decodeWord 0x7D042840 = .ok (.cmpl 2 4 5) ∧
    decodeWord 0x70838000 = .ok (.andi_rc 4 3 0x8000) ∧
    decodeWord 0x74838000 = .ok (.andis_rc 4 3 0x8000) ∧
    decodeWord 0x60000000 = .ok (.ori 0 0 0) ∧
    decodeWord 0x64838000 = .ok (.oris 4 3 0x8000) ∧
    decodeWord 0x6883FFFF = .ok (.xori 4 3 0xffff) ∧
    decodeWord 0x6C83FFFF = .ok (.xoris 4 3 0xffff) ∧
    decodeWord 0x7C832839 = .ok (.andx 4 3 5 true) ∧
    decodeWord 0x7C832878 = .ok (.andcx 4 3 5 false) ∧
    decodeWord 0x7C832378 = .ok (.orx 4 3 4 false) ∧
    decodeWord 0x7C832B38 = .ok (.orcx 4 3 5 false) ∧
    decodeWord 0x7C832278 = .ok (.xorx 4 3 4 false) ∧
    decodeWord 0x7C832BB8 = .ok (.nandx 4 3 5 false) ∧
    decodeWord 0x7C8320F8 = .ok (.norx 4 3 4 false) ∧
    decodeWord 0x7C832A38 = .ok (.eqvx 4 3 5 false) ∧
    decodeWord 0x7C830775 = .ok (.extsbx 4 3 true) ∧
    decodeWord 0x7C830734 = .ok (.extshx 4 3 false) ∧
    decodeWord 0x7C830034 = .ok (.cntlzwx 4 3 false) := by
  decide

/-- Words of spec/95_test_vectors.md (V63, V67, V68, V69, V72, V74, V77), their fields read from the encoding by hand. -/
theorem test_decode_rotate_shift :
    decodeWord 0x5483402E = .ok (.rlwinmx 4 3 8 0 23 false) ∧
    decodeWord 0x5083801E = .ok (.rlwimix 4 3 16 0 15 false) ∧
    decodeWord 0x5C83283E = .ok (.rlwnmx 4 3 5 0 31 false) ∧
    decodeWord 0x7C832830 = .ok (.slwx 4 3 5 false) ∧
    decodeWord 0x7C832C30 = .ok (.srwx 4 3 5 false) ∧
    decodeWord 0x7C832E30 = .ok (.srawx 4 3 5 false) ∧
    decodeWord 0x7C830E70 = .ok (.srawix 4 3 1 false) := by
  decide

/-- Words of spec/95_test_vectors.md (V152, V164, V167, V169, V179, V186, V170, V176, V388, V392, V231, V187, V194, V188, V385, V189, V386, V190, V387, V195, V202, V212, V217, V223), their fields read from the encoding by hand. -/
theorem test_decode_floating_point_1 :
    decodeWord 0xFC22182A = .ok (.faddx 1 2 3 false) ∧
    decodeWord 0xEC22182A = .ok (.faddsx 1 2 3 false) ∧
    decodeWord 0xFC221828 = .ok (.fsubx 1 2 3 false) ∧
    decodeWord 0xEC221828 = .ok (.fsubsx 1 2 3 false) ∧
    decodeWord 0xFC221824 = .ok (.fdivx 1 2 3 false) ∧
    decodeWord 0xEC221824 = .ok (.fdivsx 1 2 3 false) ∧
    decodeWord 0xFC2200F2 = .ok (.fmulx 1 2 3 false) ∧
    decodeWord 0xEC2200F2 = .ok (.fmulsx 1 2 3 false) ∧
    decodeWord 0xEC201030 = .ok (.fresx 1 2 false) ∧
    decodeWord 0xFC201034 = .ok (.frsqrtex 1 2 false) ∧
    decodeWord 0xFC2220EE = .ok (.fselx 1 2 4 3 false) ∧
    decodeWord 0xFC2220FA = .ok (.fmaddx 1 2 4 3 false) ∧
    decodeWord 0xEC2220FA = .ok (.fmaddsx 1 2 4 3 false) ∧
    decodeWord 0xFC2220F8 = .ok (.fmsubx 1 2 4 3 false) ∧
    decodeWord 0xEC2220F8 = .ok (.fmsubsx 1 2 4 3 false) ∧
    decodeWord 0xFC2220FE = .ok (.fnmaddx 1 2 4 3 false) ∧
    decodeWord 0xEC2220FE = .ok (.fnmaddsx 1 2 4 3 false) ∧
    decodeWord 0xFC2220FC = .ok (.fnmsubx 1 2 4 3 false) ∧
    decodeWord 0xEC2220FC = .ok (.fnmsubsx 1 2 4 3 false) ∧
    decodeWord 0xFC201018 = .ok (.frspx 1 2 false) ∧
    decodeWord 0xFC20101C = .ok (.fctiwx 1 2 false) ∧
    decodeWord 0xFC20101E = .ok (.fctiwzx 1 2 false) ∧
    decodeWord 0xFC821800 = .ok (.fcmpu 1 2 3) ∧
    decodeWord 0xFC021840 = .ok (.fcmpo 0 2 3) := by
  decide

/-- Words of spec/95_test_vectors.md (V235, V236, V239, V243, V246, V249, V226, V227, V228, V229), their fields read from the encoding by hand. -/
theorem test_decode_floating_point_2 :
    decodeWord 0xFC20048E = .ok (.mffsx 1 false) ∧
    decodeWord 0xFD000080 = .ok (.mcrfs 2 0) ∧
    decodeWord 0xFF80110C = .ok (.mtfsfix 7 1 false) ∧
    decodeWord 0xFDFE158E = .ok (.mtfsfx 255 2 false) ∧
    decodeWord 0xFF00008C = .ok (.mtfsb0x 24 false) ∧
    decodeWord 0xFFE0004C = .ok (.mtfsb1x 31 false) ∧
    decodeWord 0xFC201090 = .ok (.fmrx 1 2 false) ∧
    decodeWord 0xFC201050 = .ok (.fnegx 1 2 false) ∧
    decodeWord 0xFC201210 = .ok (.fabsx 1 2 false) ∧
    decodeWord 0xFC201110 = .ok (.fnabsx 1 2 false) := by
  decide

/-- Words of spec/95_test_vectors.md (V81, program P2, V367, V88, V83, V368, V369, V370, V84, V371, V89, V372, V86, V87, V90, V373, V93, program P2, V374, V375, V94, V376, V377, V378), their fields read from the encoding by hand. -/
theorem test_decode_integer_load_store_1 :
    decodeWord 0x88640003 = .ok (.lbz 3 4 3) ∧
    decodeWord 0x8CC30001 = .ok (.lbzu 6 3 1) ∧
    decodeWord 0x7C6428AE = .ok (.lbzx 3 4 5) ∧
    decodeWord 0x7C6428EE = .ok (.lbzux 3 4 5) ∧
    decodeWord 0xA0640000 = .ok (.lhz 3 4 0) ∧
    decodeWord 0xA4640002 = .ok (.lhzu 3 4 2) ∧
    decodeWord 0x7C642A2E = .ok (.lhzx 3 4 5) ∧
    decodeWord 0x7C642A6E = .ok (.lhzux 3 4 5) ∧
    decodeWord 0xA8640000 = .ok (.lha 3 4 0) ∧
    decodeWord 0xAC640002 = .ok (.lhau 3 4 2) ∧
    decodeWord 0x7C642AAE = .ok (.lhax 3 4 5) ∧
    decodeWord 0x7C642AEE = .ok (.lhaux 3 4 5) ∧
    decodeWord 0x8064FFFC = .ok (.lwz 3 4 0xfffc) ∧
    decodeWord 0x84640004 = .ok (.lwzu 3 4 4) ∧
    decodeWord 0x7C60282E = .ok (.lwzx 3 0 5) ∧
    decodeWord 0x7C64286E = .ok (.lwzux 3 4 5) ∧
    decodeWord 0x98640001 = .ok (.stb 3 4 1) ∧
    decodeWord 0x9CC40001 = .ok (.stbu 6 4 1) ∧
    decodeWord 0x7C6429AE = .ok (.stbx 3 4 5) ∧
    decodeWord 0x7C6429EE = .ok (.stbux 3 4 5) ∧
    decodeWord 0xB0640002 = .ok (.sth 3 4 2) ∧
    decodeWord 0xB4640006 = .ok (.sthu 3 4 6) ∧
    decodeWord 0x7C642B2E = .ok (.sthx 3 4 5) ∧
    decodeWord 0x7C642B6E = .ok (.sthux 3 4 5) := by
  decide

/-- Words of spec/95_test_vectors.md (V95, V96, V379, V97, V91, V92, V98, V99, V100, V101, V102, V380, V104, V383), their fields read from the encoding by hand. -/
theorem test_decode_integer_load_store_2 :
    decodeWord 0x90640004 = .ok (.stw 3 4 4) ∧
    decodeWord 0x9464FFF8 = .ok (.stwu 3 4 0xfff8) ∧
    decodeWord 0x7C60292E = .ok (.stwx 3 0 5) ∧
    decodeWord 0x7C84296E = .ok (.stwux 4 4 5) ∧
    decodeWord 0x7C642E2C = .ok (.lhbrx 3 4 5) ∧
    decodeWord 0x7C642C2C = .ok (.lwbrx 3 4 5) ∧
    decodeWord 0x7C642F2C = .ok (.sthbrx 3 4 5) ∧
    decodeWord 0x7C642D2C = .ok (.stwbrx 3 4 5) ∧
    decodeWord 0xBBC40000 = .ok (.lmw 30 4 0) ∧
    decodeWord 0xBFC40000 = .ok (.stmw 30 4 0) ∧
    decodeWord 0x7CA42CAA = .ok (.lswi 5 4 5) ∧
    decodeWord 0x7CA4342A = .ok (.lswx 5 4 6) ∧
    decodeWord 0x7CA41DAA = .ok (.stswi 5 4 3) ∧
    decodeWord 0x7CA4352A = .ok (.stswx 5 4 6) := by
  decide

/-- Words of spec/95_test_vectors.md (V105, V106, V108, V109, V110), their fields read from the encoding by hand. -/
theorem test_decode_synchronization :
    decodeWord 0x7C602028 = .ok (.lwarx 3 0 4) ∧
    decodeWord 0x7C60212D = .ok (.stwcx_rc 3 0 4) ∧
    decodeWord 0x7C0004AC = .ok .sync ∧
    decodeWord 0x7C0006AC = .ok .eieio ∧
    decodeWord 0x4C00012C = .ok .isync := by
  decide

/-- Words of spec/95_test_vectors.md (V254, V261, V262, V263, V264, V265, V266, V267, V268, V274, V275, V276, V277, V278, V279, V280, V281), their fields read from the encoding by hand. -/
theorem test_decode_float_load_store :
    decodeWord 0xC0240000 = .ok (.lfs 1 4 0) ∧
    decodeWord 0xC4240004 = .ok (.lfsu 1 4 4) ∧
    decodeWord 0x7C242C2E = .ok (.lfsx 1 4 5) ∧
    decodeWord 0x7C242C6E = .ok (.lfsux 1 4 5) ∧
    decodeWord 0xC8240008 = .ok (.lfd 1 4 8) ∧
    decodeWord 0xCC240008 = .ok (.lfdu 1 4 8) ∧
    decodeWord 0x7C202CAE = .ok (.lfdx 1 0 5) ∧
    decodeWord 0x7C242CEE = .ok (.lfdux 1 4 5) ∧
    decodeWord 0xD0240000 = .ok (.stfs 1 4 0) ∧
    decodeWord 0xD424FFFC = .ok (.stfsu 1 4 0xfffc) ∧
    decodeWord 0x7C242D2E = .ok (.stfsx 1 4 5) ∧
    decodeWord 0x7C242D6E = .ok (.stfsux 1 4 5) ∧
    decodeWord 0xD8240000 = .ok (.stfd 1 4 0) ∧
    decodeWord 0xDC240008 = .ok (.stfdu 1 4 8) ∧
    decodeWord 0x7C242DAE = .ok (.stfdx 1 4 5) ∧
    decodeWord 0x7C242DEE = .ok (.stfdux 1 4 5) ∧
    decodeWord 0x7C242FAE = .ok (.stfiwx 1 4 5) := by
  decide

/-- Words of spec/95_test_vectors.md (V111, V115, V126, V128, V132, V133, V134, V135, V136, V131, V137, V130, V138, V148, V150, V289, V283, V139, V140, V141, V151, V295, V145, V144), their fields read from the encoding by hand. -/
theorem test_decode_branch_system_1 :
    decodeWord 0x48000100 = .ok (.bx 64 false false) ∧
    decodeWord 0x41820020 = .ok (.bcx 12 2 8 false false) ∧
    decodeWord 0x4E800020 = .ok (.bclrx 20 0 false) ∧
    decodeWord 0x4E800420 = .ok (.bcctrx 20 0 false) ∧
    decodeWord 0x4FE00A02 = .ok (.crand 31 0 1) ∧
    decodeWord 0x4C800902 = .ok (.crandc 4 0 1) ∧
    decodeWord 0x4CA52A42 = .ok (.creqv 5 5 5) ∧
    decodeWord 0x4C0001C2 = .ok (.crnand 0 0 0) ∧
    decodeWord 0x4C011042 = .ok (.crnor 0 1 2) ∧
    decodeWord 0x4C011382 = .ok (.cror 0 1 2) ∧
    decodeWord 0x4C011342 = .ok (.crorc 0 1 2) ∧
    decodeWord 0x4CC63182 = .ok (.crxor 6 6 6) ∧
    decodeWord 0x4C1C0000 = .ok (.mcrf 0 7) ∧
    decodeWord 0x44000002 = .ok .sc ∧
    decodeWord 0x4C000064 = .ok .rfi ∧
    decodeWord 0x7FE00008 = .ok (.tw 31 0 0) ∧
    decodeWord 0x0E030000 = .ok (.twi 16 3 0) ∧
    decodeWord 0x7F800400 = .ok (.mcrxr 7) ∧
    decodeWord 0x7C600026 = .ok (.mfcr 3) ∧
    decodeWord 0x7C680120 = .ok (.mtcrf 3 128) ∧
    decodeWord 0x7C6000A6 = .ok (.mfmsr 3) ∧
    decodeWord 0x7C600124 = .ok (.mtmsr 3) ∧
    decodeWord 0x7C6902A6 = .ok (.mfspr 3 9) ∧
    decodeWord 0x7C6803A6 = .ok (.mtspr 3 8) := by
  decide

/-- Words of spec/95_test_vectors.md (V307), their fields read from the encoding by hand. -/
theorem test_decode_branch_system_2 :
    decodeWord 0x7C6C42E6 = .ok (.mftb 3 268) := by
  decide

/-- Words of spec/95_test_vectors.md (V313, V301, V314, V315, V316, V319, V317, V322, V324, V302, V323, V303, V326, V327, V328, V329), their fields read from the encoding by hand. -/
theorem test_decode_cache_segment_external :
    decodeWord 0x7C0428AC = .ok (.dcbf 4 5) ∧
    decodeWord 0x7C042BAC = .ok (.dcbi 4 5) ∧
    decodeWord 0x7C04286C = .ok (.dcbst 4 5) ∧
    decodeWord 0x7C042A2C = .ok (.dcbt 4 5) ∧
    decodeWord 0x7C0429EC = .ok (.dcbtst 4 5) ∧
    decodeWord 0x7C042FEC = .ok (.dcbz 4 5) ∧
    decodeWord 0x7C042FAC = .ok (.icbi 4 5) ∧
    decodeWord 0x7C6504A6 = .ok (.mfsr 3 5) ∧
    decodeWord 0x7C602526 = .ok (.mfsrin 3 4) ∧
    decodeWord 0x7C6501A4 = .ok (.mtsr 3 5) ∧
    decodeWord 0x7C6021E4 = .ok (.mtsrin 3 4) ∧
    decodeWord 0x7C002264 = .ok (.tlbie 4) ∧
    decodeWord 0x7C00046C = .ok .tlbsync ∧
    decodeWord 0x7C0004AD = .ok .tlbsync_b31 ∧
    decodeWord 0x7C642A6C = .ok (.eciwx 3 4 5) ∧
    decodeWord 0x7C642B6C = .ok (.ecowx 3 4 5) := by
  decide

theorem test_decode_refusals :
    decodeWord 0x00000000 = .error .illegal ∧ decodeWord 0xFC20102C = .error .illegal ∧
    decodeWord 0x7C2004AC = .error .reservedBits ∧ decodeWord 0x44000003 = .error .reservedBits ∧
    decodeWord 0x2C230000 = .error .invalidForm ∧ decodeWord 0x4E000420 = .error .invalidForm := by
  decide

theorem test_table_word : decodeTableWord 32 0x7C642A14 = some (.addx 3 4 5 false false) := by decide

theorem test_encode_word : encodeNat (.mfspr 3 952) = 0x7C78EAA6 ∧ encodeNat (.rlwinmx 4 3 8 0 23 false) = 0x5483402E := by
  decide

/-! ## Reset -/

theorem test_reset_memory_canonical : Memory.wf State.reset.mem = true := by decide

/-! ## Single steps: the vectors of spec/95_test_vectors.md -/

/-- One step runs the word at the pc of a state with these registers, and the state after it has the property. -/
def after (w : Nat) (gprs : List (BitVec 5 × Word)) (fprs : List (BitVec 5 × Dword)) (s : State) (p : State → Bool) :
    Bool :=
  let s := gprs.foldl (fun s r => s.setR r.1 r.2) s
  let s := fprs.foldl (fun s r => s.setF r.1 r.2) s
  match step (s.withFetchWord 32 w) with
  | .next t => p t
  | _ => false

/-- Vector V7. -/
theorem test_V7_addic_rc :
    after 0x3464FFFF [(4, 0x1)] []
      { State.reset with msr := 0x1002, pc := 0x1000 } (fun t =>
      t.r 3 == 0x00000000 && bit t.xer 2 == true && crField t.cr 0 == 0x2) = true := by
  decide

/-- Vector V13. -/
theorem test_V13_addx :
    after 0x7C642E15 [(4, 0x7FFFFFFF), (5, 0x1)] []
      { State.reset with xer := 0x0, msr := 0x1002, pc := 0x1000 } (fun t =>
      t.r 3 == 0x80000000 && t.xer == 0xC0000000 && crField t.cr 0 == 0x9) = true := by
  decide

/-- Vector V16. -/
theorem test_V16_addex :
    after 0x7C642914 [(4, 0xFFFFFFFF), (5, 0x0)] []
      { State.reset with msr := 0x1002, pc := 0x1000, xer := 0x20000000 } (fun t =>
      t.r 3 == 0x00000000 && bit t.xer 2 == true) = true := by
  decide

/-- Vector V20. -/
theorem test_V20_addzex :
    after 0x7C640594 [(4, 0x7FFFFFFF)] []
      { State.reset with xer := 0x20000000, msr := 0x1002, pc := 0x1000 } (fun t =>
      t.r 3 == 0x80000000 && t.xer == 0xC0000000) = true := by
  decide

/-- Vector V27. -/
theorem test_V27_negx :
    after 0x7C6404D1 [(4, 0x80000000)] []
      { State.reset with xer := 0x0, msr := 0x1002, pc := 0x1000 } (fun t =>
      t.r 3 == 0x80000000 && t.xer == 0xC0000000 && crField t.cr 0 == 0x9) = true := by
  decide

/-- Vector V29. -/
theorem test_V29_mullwx :
    after 0x7C642DD6 [(4, 0x10000), (5, 0x10000)] []
      { State.reset with xer := 0x0, msr := 0x1002, pc := 0x1000 } (fun t =>
      t.r 3 == 0x00000000 && t.xer == 0xC0000000) = true := by
  decide

/-- Vector V32. -/
theorem test_V32_mulhwx :
    after 0x7C642896 [(4, 0x80000000), (5, 0x2)] []
      { State.reset with msr := 0x1002, pc := 0x1000 } (fun t =>
      t.r 3 == 0xFFFFFFFF) = true := by
  decide

/-- Vector V35. -/
theorem test_V35_divwx :
    after 0x7C642BD7 [(4, 0x7), (5, 0xFFFFFFFE)] []
      { State.reset with msr := 0x1002, pc := 0x1000 } (fun t =>
      t.r 3 == 0xFFFFFFFD && crField t.cr 0 == 0x8) = true := by
  decide

/-- Vector V38. -/
theorem test_V38_cmpi :
    after 0x2C040001 [(4, 0x80000000)] []
      { State.reset with cr := 0x0, msr := 0x1002, pc := 0x1000, xer := 0x80000000 } (fun t =>
      t.cr == 0x90000000) = true := by
  decide

/-- Vector V41. -/
theorem test_V41_cmpl :
    after 0x7D042840 [(4, 0x80000000), (5, 0x1)] []
      { State.reset with cr := 0x0, msr := 0x1002, pc := 0x1000 } (fun t =>
      t.cr == 0x400000) = true := by
  decide

/-- Vector V44. -/
theorem test_V44_andi_rc :
    after 0x70830000 [(4, 0xFFFFFFFF)] []
      { State.reset with msr := 0x1002, pc := 0x1000, xer := 0x80000000 } (fun t =>
      t.r 3 == 0x00000000 && crField t.cr 0 == 0x3) = true := by
  decide

/-- Vector V56. -/
theorem test_V56_norx :
    after 0x7C8320F8 [(4, 0xFFFF)] []
      { State.reset with msr := 0x1002, pc := 0x1000 } (fun t =>
      t.r 3 == 0xFFFF0000) = true := by
  decide

/-- Vector V58. -/
theorem test_V58_extsbx :
    after 0x7C830775 [(4, 0x12345680)] []
      { State.reset with msr := 0x1002, pc := 0x1000 } (fun t =>
      t.r 3 == 0xFFFFFF80 && crField t.cr 0 == 0x8) = true := by
  decide

/-- Vector V61. -/
theorem test_V61_cntlzwx :
    after 0x7C830034 [(4, 0x10000)] []
      { State.reset with msr := 0x1002, pc := 0x1000 } (fun t =>
      t.r 3 == 0x0000000F) = true := by
  decide

/-- Vector V65. -/
theorem test_V65_rlwinmx :
    after 0x54830706 [(4, 0xFFFFFFFF)] []
      { State.reset with msr := 0x1002, pc := 0x1000 } (fun t =>
      t.r 3 == 0xF000000F) = true := by
  decide

/-- Vector V67. -/
theorem test_V67_rlwimix :
    after 0x5083801E [(3, 0xAAAABBBB), (4, 0x1111CCCC)] []
      { State.reset with msr := 0x1002, pc := 0x1000 } (fun t =>
      t.r 3 == 0xCCCCBBBB) = true := by
  decide

/-- Vector V71. -/
theorem test_V71_slwx :
    after 0x7C832830 [(4, 0xFFFFFFFF), (5, 0x40)] []
      { State.reset with msr := 0x1002, pc := 0x1000 } (fun t =>
      t.r 3 == 0xFFFFFFFF) = true := by
  decide

/-- Vector V75. -/
theorem test_V75_srawx :
    after 0x7C832E30 [(4, 0x80000000), (5, 0x28)] []
      { State.reset with msr := 0x1002, pc := 0x1000 } (fun t =>
      t.r 3 == 0xFFFFFFFF && bit t.xer 2 == true) = true := by
  decide

/-- Vector V79. -/
theorem test_V79_srawix :
    after 0x7C830671 [(4, 0x80000001)] []
      { State.reset with msr := 0x1002, pc := 0x1000, xer := 0x20000000 } (fun t =>
      t.r 3 == 0x80000001 && bit t.xer 2 == false && crField t.cr 0 == 0x8) = true := by
  decide

/-- Vector V84. -/
theorem test_V84_lha :
    after 0xA8640000 [(4, 0x2000)] []
      { State.reset with msr := 0x1002, pc := 0x1000, mem := [(0x2000, 0x80), (0x2001, 0x01), (0x2002, 0xFF), (0x2003, 0xFE), (0x2004, 0x12), (0x2005, 0x34), (0x2006, 0x56), (0x2007, 0x78)] } (fun t =>
      t.r 3 == 0xFFFF8001) = true := by
  decide

/-- Vector V87. -/
theorem test_V87_lwzu :
    after 0x84640004 [(4, 0x2000)] []
      { State.reset with msr := 0x1002, pc := 0x1000, mem := [(0x2000, 0x80), (0x2001, 0x01), (0x2002, 0xFF), (0x2003, 0xFE), (0x2004, 0x12), (0x2005, 0x34), (0x2006, 0x56), (0x2007, 0x78)] } (fun t =>
      t.r 3 == 0x12345678 && t.r 4 == 0x00002004) = true := by
  decide

/-- Vector V92. -/
theorem test_V92_lwbrx :
    after 0x7C642C2C [(4, 0x2000), (5, 0x4)] []
      { State.reset with msr := 0x1002, pc := 0x1000, mem := [(0x2000, 0x80), (0x2001, 0x01), (0x2002, 0xFF), (0x2003, 0xFE), (0x2004, 0x12), (0x2005, 0x34), (0x2006, 0x56), (0x2007, 0x78)] } (fun t =>
      t.r 3 == 0x78563412) = true := by
  decide

/-- Vector V97. -/
theorem test_V97_stwux :
    after 0x7C84296E [(4, 0x2000), (5, 0x4)] []
      { State.reset with msr := 0x1002, pc := 0x1000, mem := [(0x2000, 0x80), (0x2001, 0x01), (0x2002, 0xFF), (0x2003, 0xFE), (0x2004, 0x12), (0x2005, 0x34), (0x2006, 0x56), (0x2007, 0x78)] } (fun t =>
      t.bytesAt 0x2000 8 == [0x80, 0x01, 0xFF, 0xFE, 0x00, 0x00, 0x20, 0x00] && t.r 4 == 0x00002004) = true := by
  decide

/-- Vector V100. -/
theorem test_V100_lmw :
    after 0xBBC40000 [(4, 0x2000)] []
      { State.reset with msr := 0x1002, pc := 0x1000, mem := [(0x2000, 0x80), (0x2001, 0x01), (0x2002, 0xFF), (0x2003, 0xFE), (0x2004, 0x12), (0x2005, 0x34), (0x2006, 0x56), (0x2007, 0x78)] } (fun t =>
      t.r 30 == 0x8001FFFE && t.r 31 == 0x12345678) = true := by
  decide

/-- Vector V103. -/
theorem test_V103_lswi :
    after 0x7FE444AA [(4, 0x2000)] []
      { State.reset with msr := 0x1002, pc := 0x1000, mem := [(0x2000, 0x80), (0x2001, 0x01), (0x2002, 0xFF), (0x2003, 0xFE), (0x2004, 0x12), (0x2005, 0x34), (0x2006, 0x56), (0x2007, 0x78)] } (fun t =>
      t.r 31 == 0x8001FFFE && t.r 0 == 0x12345678) = true := by
  decide

/-- Vector V104. -/
theorem test_V104_stswi :
    after 0x7CA41DAA [(4, 0x2000), (5, 0xA1B2C3D4)] []
      { State.reset with msr := 0x1002, pc := 0x1000, mem := [(0x2000, 0x80), (0x2001, 0x01), (0x2002, 0xFF), (0x2003, 0xFE), (0x2004, 0x12), (0x2005, 0x34), (0x2006, 0x56), (0x2007, 0x78)] } (fun t =>
      t.bytesAt 0x2000 8 == [0xA1, 0xB2, 0xC3, 0xFE, 0x12, 0x34, 0x56, 0x78]) = true := by
  decide

/-- Vector V106. -/
theorem test_V106_stwcx_rc :
    after 0x7C60212D [(3, 0xAABBCCDD), (4, 0x2004)] []
      { State.reset with reserve := true, reserveAddr := 0x100, msr := 0x1002, pc := 0x1000, mem := [(0x2000, 0x80), (0x2001, 0x01), (0x2002, 0xFF), (0x2003, 0xFE), (0x2004, 0x12), (0x2005, 0x34), (0x2006, 0x56), (0x2007, 0x78)] } (fun t =>
      t.bytesAt 0x2000 8 == [0x80, 0x01, 0xFF, 0xFE, 0xAA, 0xBB, 0xCC, 0xDD] && crField t.cr 0 == 0x2 && t.reserve == false) = true := by
  decide

/-- Vector V107. -/
theorem test_V107_stwcx_rc :
    after 0x7C60212D [(3, 0xAABBCCDD), (4, 0x2004)] []
      { State.reset with reserve := false, reserveAddr := 0x100, msr := 0x1002, pc := 0x1000, xer := 0x80000000, mem := [(0x2000, 0x80), (0x2001, 0x01), (0x2002, 0xFF), (0x2003, 0xFE), (0x2004, 0x12), (0x2005, 0x34), (0x2006, 0x56), (0x2007, 0x78)] } (fun t =>
      t.bytesAt 0x2000 8 == [0x80, 0x01, 0xFF, 0xFE, 0x12, 0x34, 0x56, 0x78] && crField t.cr 0 == 0x1 && t.reserve == false) = true := by
  decide

/-- Vector V113. -/
theorem test_V113_bx :
    after 0x4BFFFFF2 [] []
      { State.reset with msr := 0x1002, pc := 0x1000 } (fun t =>
      t.pc == 0xFFFFFFF0) = true := by
  decide

/-- Vector V119. -/
theorem test_V119_bcx :
    after 0x4200FFF8 [] []
      { State.reset with ctr := 0x1, msr := 0x1002, pc := 0x1000 } (fun t =>
      t.pc == 0x1004 && t.ctr == 0x0) = true := by
  decide

/-- Vector V122. -/
theorem test_V122_bcx :
    after 0x41010008 [] []
      { State.reset with ctr := 0x5, cr := 0x0, msr := 0x1002, pc := 0x1000 } (fun t =>
      t.pc == 0x1004 && t.ctr == 0x4) = true := by
  decide

/-- Vector V127. -/
theorem test_V127_bclrx :
    after 0x4E800021 [] []
      { State.reset with lr := 0x3000, msr := 0x1002, pc := 0x1000 } (fun t =>
      t.pc == 0x3000 && t.lr == 0x1004) = true := by
  decide

/-- Vector V133. -/
theorem test_V133_crandc :
    after 0x4C800902 [] []
      { State.reset with cr := 0x80000000, msr := 0x1002, pc := 0x1000 } (fun t =>
      t.cr == 0x88000000) = true := by
  decide

/-- Vector V138. -/
theorem test_V138_mcrf :
    after 0x4C1C0000 [] []
      { State.reset with cr := 0x1234567A, msr := 0x1002, pc := 0x1000 } (fun t =>
      t.cr == 0xA234567A) = true := by
  decide

/-- Vector V139. -/
theorem test_V139_mcrxr :
    after 0x7F800400 [] []
      { State.reset with xer := 0xE000007F, cr := 0x0, msr := 0x1002, pc := 0x1000 } (fun t =>
      t.cr == 0xE && t.xer == 0x7F) = true := by
  decide

/-- Vector V141. -/
theorem test_V141_mtcrf :
    after 0x7C680120 [(3, 0xABCDEF01)] []
      { State.reset with cr := 0x11111111, msr := 0x1002, pc := 0x1000 } (fun t =>
      t.cr == 0xA1111111) = true := by
  decide

/-- Vector V146. -/
theorem test_V146_mtspr :
    after 0x7C6103A6 [(3, 0xFFFFFFFF)] []
      { State.reset with msr := 0x1002, pc := 0x1000 } (fun t =>
      t.xer == 0xE000007F) = true := by
  decide

/-- Vector V149. -/
theorem test_V149_sc :
    after 0x44000002 [] []
      { State.reset with msr := 0x1040, pc := 0xFFF01000 } (fun t =>
      t.pc == 0xFFF00C00 && t.srr0 == 0xFFF01004 && t.srr1 == 0x1040 && t.msr == 0x1040) = true := by
  decide

/-- Vector V150. -/
theorem test_V150_rfi :
    after 0x4C000064 [] []
      { State.reset with msr := 0x1000, srr0 := 0x1237, srr1 := 0xFFFF9002, pc := 0x1000 } (fun t =>
      t.pc == 0x1234 && t.msr == 0x9002) = true := by
  decide

/-- Vector V153. -/
theorem test_V153_faddx :
    after 0xFC22182B [] [(2, 0x3FB999999999999A), (3, 0x3FC999999999999A)]
      { State.reset with fpscr := 0x0, msr := 0x3002, pc := 0x1000 } (fun t =>
      t.f 1 == 0x3FD3333333333334 && t.fpscr == 0x82064000 && crField t.cr 1 == 0x8) = true := by
  decide

/-- Vector V156. -/
theorem test_V156_faddx :
    after 0xFC22182A [] [(2, 0x7FF0000000000000), (3, 0xFFF0000000000000)]
      { State.reset with fpscr := 0x80, msr := 0x3002, pc := 0x1000 } (fun t =>
      t.fpscr == 0xE0800080) = true := by
  decide

/-- Vector V165. -/
theorem test_V165_faddsx :
    after 0xEC22182A [] [(2, 0x4170000020000000), (3, 0x3FF0000000000000)]
      { State.reset with fpscr := 0x0, msr := 0x3002, pc := 0x1000 } (fun t =>
      t.f 1 == 0x4170000040000000 && t.fpscr == 0x82064000) = true := by
  decide

/-- Vector V169. -/
theorem test_V169_fsubsx :
    after 0xEC221828 [] [(2, 0x3FF0000000000000), (3, 0x3E60000000000000)]
      { State.reset with fpscr := 0x0, msr := 0x3002, pc := 0x1000 } (fun t =>
      t.f 1 == 0x3FF0000000000000 && t.fpscr == 0x82064000) = true := by
  decide

/-- Vector V175. -/
theorem test_V175_fmulx :
    after 0xFC2200F2 [] [(2, 0x0000000000000001), (3, 0x3FE0000000000000)]
      { State.reset with fpscr := 0x20, msr := 0x3002, pc := 0x1000 } (fun t =>
      t.f 1 == 0x5CC0000000000000 && t.fpscr == 0xC8004020) = true := by
  decide +kernel

/-- Vector V178. -/
theorem test_V178_fmulsx :
    after 0xEC2200F2 [] [(2, 0x4630000000000000), (3, 0x4630000000000000)]
      { State.reset with fpscr := 0x40, msr := 0x3002, pc := 0x1000 } (fun t =>
      t.f 1 == 0x4070000000000000 && t.fpscr == 0xD0004040) = true := by
  decide

/-- Vector V188. -/
theorem test_V188_fmsubx :
    after 0xFC2220F8 [] [(2, 0x3FF0000000000001), (3, 0x3FF0000000000001), (4, 0x3FF0000000000002)]
      { State.reset with fpscr := 0x0, msr := 0x3002, pc := 0x1000 } (fun t =>
      t.f 1 == 0x3970000000000000 && t.fpscr == 0x4000) = true := by
  decide

/-- Vector V193. -/
theorem test_V193_fmaddx :
    after 0xFC2220FA [] [(2, 0x7FF0000000000000), (3, 0x0000000000000000), (4, 0x7FF0000000000001)]
      { State.reset with fpscr := 0x0, msr := 0x3002, pc := 0x1000 } (fun t =>
      t.f 1 == 0x7FF8000000000001 && t.fpscr == 0xA1111000) = true := by
  decide

/-- Vector V199. -/
theorem test_V199_frspx :
    after 0xFC201018 [] [(2, 0x7FF00000F2345678)]
      { State.reset with fpscr := 0x0, msr := 0x3002, pc := 0x1000 } (fun t =>
      t.f 1 == 0x7FF80000E0000000 && t.fpscr == 0xA1011000) = true := by
  decide

/-- Vector V205. -/
theorem test_V205_fctiwx : fpToInteger 0x4004000000000000 2 false = ⟨some 3, true, true, fpXX⟩ := by decide

/-- Vector V210. -/
theorem test_V210_fctiwx :
    fpToInteger 0x7FF0000000000001 0 false = ⟨some 0x80000000, false, false, fpVXCVI ||| fpVXSNAN⟩ := by decide

/-- Vector V225. -/
theorem test_V225_fcmpo :
    after 0xFC021840 [] [(2, 0x7FF0000000000001), (3, 0x3FF0000000000000)]
      { State.reset with fpscr := 0x80, msr := 0x3002, pc := 0x1000 } (fun t =>
      crField t.cr 0 == 0x1 && t.fpscr == 0xE1001080) = true := by
  decide

/-- Vector V236. -/
theorem test_V236_mcrfs :
    after 0xFD000080 [] []
      { State.reset with fpscr := 0x92025000, cr := 0x0, msr := 0x3002, pc := 0x1000 } (fun t =>
      t.cr == 0x900000 && t.fpscr == 0x2025000) = true := by
  decide

/-- Vector V241. -/
theorem test_V241_mtfsfix :
    after 0xFC00010C [] []
      { State.reset with fpscr := 0xE0800080, msr := 0x3002, pc := 0x1000 } (fun t =>
      t.fpscr == 0x60800080) = true := by
  decide

/-- Vector V248. -/
theorem test_V248_mtfsb0x :
    after 0xFD00008C [] []
      { State.reset with fpscr := 0xA0800000, msr := 0x3002, pc := 0x1000 } (fun t =>
      t.fpscr == 0x80000000) = true := by
  decide

/-- Vector V252. -/
theorem test_V252_mtfsb1x :
    after 0xFEA0004C [] []
      { State.reset with fpscr := 0x0, msr := 0x3002, pc := 0x1000 } (fun t =>
      t.fpscr == 0xA0000400) = true := by
  decide

/-- Vector V257. -/
theorem test_V257_lfs :
    after 0xC0240000 [(4, 0x2000)] []
      { State.reset with msr := 0x3002, pc := 0x1000, mem := [(0x2000, 0x80), (0x2001, 0x7F), (0x2002, 0xFF), (0x2003, 0xFF)] } (fun t =>
      t.f 1 == 0xB80FFFFFC0000000) = true := by
  decide

/-- Vector V272. -/
theorem test_V272_stfs :
    after 0xD0240000 [(4, 0x2000)] [(1, 0x7FF0000020000001)]
      { State.reset with msr := 0x3002, pc := 0x1000 } (fun t =>
      t.bytesAt 0x2000 4 == [0x7F, 0x80, 0x00, 0x01]) = true := by
  decide

/-- Vector V280. -/
theorem test_V280_stfdux :
    after 0x7C242DEE [(4, 0x2000), (5, 0x8)] [(1, 0x123456789ABCDEF0)]
      { State.reset with msr := 0x3002, pc := 0x1000 } (fun t =>
      t.bytesAt 0x2008 8 == [0x12, 0x34, 0x56, 0x78, 0x9A, 0xBC, 0xDE, 0xF0] && t.r 4 == 0x00002008) = true := by
  decide

/-- Vector V282. -/
theorem test_V282_lfs :
    after 0xC0240000 [] []
      { State.reset with pc := 0x1000, msr := 0x1002 } (fun t =>
      t.srr0 == 0x1000 && t.srr1 == 0x1002 && t.msr == 0x1000 && t.pc == 0x800) = true := by
  decide

/-- Vector V286. -/
theorem test_V286_twi :
    after 0x0CA3000A [(3, 0x80000000)] []
      { State.reset with msr := 0x1002, pc := 0x1000 } (fun t =>
      t.srr0 == 0x1000 && t.srr1 == 0x21002 && t.msr == 0x1000 && t.pc == 0x700) = true := by
  decide

/-- Vector V294. -/
theorem test_V294_mfmsr :
    after 0x7C6000A6 [(3, 0x7)] []
      { State.reset with msr := 0x5002, pc := 0x1000 } (fun t =>
      t.srr0 == 0x1000 && t.srr1 == 0x45002 && t.msr == 0x1000 && t.pc == 0x700) = true := by
  decide

/-- Vector V305. -/
theorem test_V305_mtmsr :
    after 0x7C600124 [(3, 0x8000B08A)] []
      { State.reset with msr := 0x1002, pc := 0x1000 } (fun t =>
      t.msr == 0xB002 && t.pc == 0x1004) = true := by
  decide

/-- Vector V308. -/
theorem test_V308_mftb :
    after 0x7C6D42E6 [] []
      { State.reset with tb := 0x1FFFFFFF0, msr := 0x1002, pc := 0x1000 } (fun t =>
      t.r 3 == 0x00000001) = true := by
  decide

/-- Vector V310. -/
theorem test_V310_mtspr :
    after 0x7C7C43A6 [(3, 0x0)] []
      { State.reset with tb := 0x1FFFFFFF0, msr := 0x1002, pc := 0x1000 } (fun t =>
      t.tb == 0x100000000) = true := by
  decide

/-- Vector V319. -/
theorem test_V319_dcbz :
    after 0x7C042FEC [(4, 0x2000), (5, 0x2D)] []
      { State.reset with msr := 0x1002, pc := 0x1000, mem := [(0x201F, 0xAA)] ++ (List.range 32).map (fun k => (0x2020 + k, 0xFF)) ++ [(0x2040, 0xBB)] } (fun t =>
      t.bytesAt 0x201F 34 == 0xAA :: List.replicate 32 0 ++ [0xBB]) = true := by
  decide +kernel

/-- Vector V323. -/
theorem test_V323_mtsrin :
    after 0x7C6021E4 [(3, 0x60000456), (4, 0xA0001234)] []
      { State.reset with msr := 0x1002, pc := 0x1000 } (fun t =>
      t.sr[10] == 0x60000456) = true := by
  decide

/-- Vector V329. -/
theorem test_V329_ecowx :
    after 0x7C642B6C [(4, 0x2000), (5, 0x4)] []
      { State.reset with ear := 0x0, msr := 0x1002, pc := 0x1000 } (fun t =>
      t.dsisr == 0x2100000 && t.dar == 0x2004 && t.srr0 == 0x1000 && t.srr1 == 0x1002 && t.msr == 0x1000 && t.pc == 0x300) = true := by
  decide

/-- Vector V331. -/
theorem test_V331_illegal :
    after 0x00000000 [] []
      { State.reset with msr := 0x1002, pc := 0x1000 } (fun t =>
      t.srr1 == 0x00081002 && t.pc == 0x00000700) = true := by
  decide

/-- Vector V383. -/
theorem test_V383_stswx :
    after 0x7CA4352A [(4, 0x2000), (5, 0xA1B2C3D4), (6, 0x2)] []
      { State.reset with xer := 0x5, msr := 0x1002, pc := 0x1000, mem := [(0x2000, 0x80), (0x2001, 0x01), (0x2002, 0xFF), (0x2003, 0xFE), (0x2004, 0x12), (0x2005, 0x34), (0x2006, 0x56), (0x2007, 0x78)] } (fun t =>
      t.bytesAt 0x2000 8 == [0x80, 0x01, 0xA1, 0xB2, 0xC3, 0xD4, 0x00, 0x78]) = true := by
  decide

/-- Vector V392. -/
theorem test_V392_frsqrtex :
    after 0xFC201034 [] [(2, 0xBFF0000000000000)]
      { State.reset with fpscr := 0x0, msr := 0x3002, pc := 0x1000 } (fun t =>
      t.f 1 == 0x7FF8000000000000 && t.fpscr == 0xA0011200) = true := by
  decide

/-! ## Witnesses: concrete values that meet all hypotheses of a statement together -/

/-- A supervisor-mode state at 0x1000 with floating point on and r4 = 0x2000. -/
def ready : State := { State.reset with msr := 0x3002, pc := 0x1000 }.setR 4 0x2000

/-- `ready` in user mode. -/
def user : State := { ready with msr := 0x7002 }

/-- `ready` with a device at 0x2000 to 0x2FFF and nothing from 0x4000 on. -/
def mapped : State := { ready with memMap := [⟨0x2000, 0x1000, .device⟩, ⟨0, 0x4000, .ram⟩] }

theorem test_witness_DecodeInvertsEncode : (Instr.lwzu 3 4 4).wellFormed = true := by decide

theorem test_witness_StepRunsDecodedInstruction :
    let s := ready.withFetchWord 32 0x7C642A14
    (s.AtInstruction ∧ s.FetchesMemory ∧ s.decoded = .ok (.addx 3 4 5 false false)) ∧
      (∃ t, exec (.addx 3 4 5 false false) s.turn = .next t ∧ t.taken = none) ∧
      traced s.msr (.addx 3 4 5 false false) = false :=
  ⟨⟨⟨.inl rfl, rfl, rfl, by decide, by decide⟩, ⟨by decide, by decide⟩, by decide⟩, ⟨_, rfl, rfl⟩, by decide⟩

/-- A scheduled turn; a word whose store fetch may not see yet; a pc in a device region. -/
theorem test_witness_StepRunsDecodedInstruction_fetches :
    ({ ready with schedule := [.processor, .timerTick] } : State).AtInstruction ∧
      (let s := ready.storeBytes 0x1000 [0x7C, 0x64, 0x2A, 0x14]
      s.AtInstruction ∧ kindOf s.memMap s.pc 4 ≠ none ∧ s.stale = [⟨0x1000, 0, 0, .stored, true⟩]) ∧
      (let s : State := { mapped with pc := 0x2000 }
      s.AtInstruction ∧ kindOf s.memMap s.pc 4 = some .device) :=
  ⟨⟨.inr ⟨_, rfl⟩, rfl, rfl, by decide, by decide⟩,
    ⟨⟨.inl rfl, rfl, rfl, by decide, by decide⟩, by decide, by decide⟩,
    ⟨.inl rfl, rfl, rfl, by decide, by decide⟩, by decide⟩

/-- R456: after `dcbz` each byte of a word of the block may be seen old or zero, on its own; R91 promises no more of the words
of a doubleword. -/
theorem test_bytes_before_block_zero :
    (after 0x7C042FEC [(4, 0x2000), (5, 0x2D)] [] { ready with mem := [(0x2024, 0x11), (0x2025, 0x22), (0x2027, 0x44)] }
      fun t => (t.stale.filter fun e => e.addr == 0x2024) == [⟨0x2024, 0x11220044, 0, .stored, true⟩]) = true ∧
      StaleWord.seen ⟨0x2024, 0x11220044, 0, .stored, true⟩ 0b0111#4 = 0x11000000 ∧
      StaleWord.seen ⟨0x2024, 0x11220044, 0, .stored, true⟩ 0b1010#4 = 0x00220044 ∧
      (ready.storeBytes 0x2000 [1, 2, 3, 4, 5, 6, 7, 8]).stale.map (·.blend) = [0x05060708, 0x01020304] := by
  decide +kernel

/-- R91 and R112: an aligned word is one value for fetch, before or after; a store that is split changes it byte by byte. -/
theorem test_words_before_stores :
    (ready.storeBytes 0x2000 [1, 2, 3, 4]).stale = [⟨0x2000, 0, 0, .stored, true⟩] ∧
      (ready.storeBytes 0x2002 [1, 2]).stale = [⟨0x2000, 0, 0, .stored, true⟩] ∧
      (ready.storeBytes 0x2000 [1, 2, 3, 4, 5, 6, 7, 8]).stale.map (·.addr) = [0x2004, 0x2000] ∧
      (ready.storePieces true false 1 0x2001 [1, 2]).stale.map (·.word) = [0x00010000, 0] := by
  decide

/-- R552 (c): the monitor may sample the load that ran and the address it accessed; an `sc` has completed, a trap has not. -/
theorem test_completion_is_noted :
    (after 0x80640010 [] [] ready fun t => t.lastCompleted == some 0x1000 && t.accesses == [⟨0x1000, 0x2010⟩]) = true ∧
      (after 0x44000002 [] [] ready fun t => t.lastCompleted == some 0x1000 && t.accesses == []) = true ∧
      (after 0x7FE00008 [] [] ready fun t => t.lastCompleted == none) = true := by
  decide

theorem test_witness_UndecodedWordsTrapOrStop :
    (ready.AtInstruction ∧ ready.FetchesMemory ∧ ready.decoded = .error .illegal) ∧
      ((ready.withFetchWord 32 0x7C6F0026).AtInstruction ∧ (ready.withFetchWord 32 0x7C6F0026).FetchesMemory ∧
        (ready.withFetchWord 32 0x7C6F0026).decoded = .error .reservedBits) ∧
      ((ready.withFetchWord 32 0x84630004).AtInstruction ∧ (ready.withFetchWord 32 0x84630004).FetchesMemory ∧
        (ready.withFetchWord 32 0x84630004).decoded = .error .invalidForm) ∧
      ({ mapped with pc := 0x4000 } : State).AtInstruction ∧ kindOf mapped.memMap 0x4000 4 = none :=
  ⟨⟨⟨.inl rfl, rfl, rfl, by decide, by decide⟩, ⟨by decide, by decide⟩, by decide⟩,
    ⟨⟨.inl rfl, rfl, rfl, by decide, by decide⟩, ⟨by decide, by decide⟩, by decide⟩,
    ⟨⟨.inl rfl, rfl, rfl, by decide, by decide⟩, ⟨by decide, by decide⟩, by decide⟩,
    ⟨.inl rfl, rfl, rfl, by decide, by decide⟩, by decide⟩

theorem test_witness_TraceFollowsTracedInstruction :
    ready.taken = none ∧ traced 0x00001402 (.ori 0 0 0) = true ∧ traced 0x00001402 .rfi = false ∧
      traced 0x00001202 (.bx 0 false false) = true := by
  decide

theorem test_witness_StepKeepsInvariant :
    ready.Inv ∧ (match step ready with | .next _ => true | _ => false) = true :=
  ⟨⟨by decide, by decide, by decide, by decide, by decide, by decide⟩, by decide⟩

theorem test_witness_HardResetLeavesStatedValues :
    let s : State := { ready with hresetPin := true, checkstop := true, schedule := [.hresetPin false, .processor] }
    s.hresetPin = true ∧ s.schedule = .hresetPin false :: [.processor] := by
  decide

theorem test_witness_SystemCallReturns : user.Inv ∧ user.floatTraps = false :=
  ⟨⟨by decide, by decide, by decide, by decide, by decide, by decide⟩, by decide⟩

/-- The bits listed come from one word, the others from 0x3002, the MSR of `ready`. -/
def mixes (taken : List Nat) (new src : Word) : Prop :=
  ∀ k, k < 32 → bit new k = if k ∈ taken then bit src k else bit (0x3002 : Word) k

/-- MSR values of `mtmsr` for the mode that runs and for the three that are refused. -/
theorem test_witness_MsrLoadsSwitchMode_mtmsr :
    let bits := [13, 15, 16, 17, 18, 19, 20, 21, 22, 23, 25, 26, 27, 29, 30, 31]
    ready.userMode = false ∧ ready.msr = 0x3002 ∧ mixes bits 0xB002 0xB002 ∧ mixes bits 0xB003 0xB003 ∧
      mixes bits 0xB032 0xB032 ∧ mixes bits 0x4B002 0x4B002 := by
  refine ⟨rfl, rfl, ?_, ?_, ?_, ?_⟩ <;> simp only [mixes, bit] <;> decide

/-- MSR values of `rfi`, which does not take bit 13 from SRR1. -/
theorem test_witness_MsrLoadsSwitchMode_rfi :
    let bits := [16, 17, 18, 19, 20, 21, 22, 23, 25, 26, 27, 29, 30, 31]
    mixes bits 0xB002 0x4B002 ∧ mixes bits 0xB003 0xB003 ∧ mixes bits 0xB032 0xB032 := by
  refine ⟨?_, ?_, ?_⟩ <;> simp only [mixes, bit] <;> decide

theorem test_witness_ModeChecksTrap :
    (isPrivileged (.mtsr 5 3) = true ∧ isPrivileged (.mfspr 3 952) = true ∧ user.userMode = true) ∧
      needsFloat (.stfsux 1 4 5) = true ∧ needsFloat (.mcrfs 0 0) = true ∧ bit State.reset.msr 18 = false := by
  decide

theorem test_witness_UserModeKeepsSupervisorState :
    user.userMode = true ∧ user.taken = none ∧ ∃ t, exec (.mtspr 4 9) user = .next t ∧ t.taken = none :=
  ⟨by decide, rfl, _, rfl, rfl⟩

theorem test_witness_OnlyStoresChangeMemory :
    mayStore (.ecowx 3 4 5) = false ∧ ∃ t, exec (.ecowx 3 4 5) ready = .next t :=
  ⟨by decide, _, rfl⟩

theorem test_witness_PendingExceptionsByPriority :
    ({ ready with machineChecks := [.mcpPin] } : State).machineChecks = .mcpPin :: [] ∧ bit ready.msr 19 = true ∧
      ready.machineChecks = [] ∧ ({ ready with sresetPending := true } : State).sresetPending = true ∧
      ({ ready with iabr := 0x1002 } : State).breakpoint = true ∧ ready.breakpoint = false ∧
      bit ready.msr 16 = false ∧ bit ({ ready with msr := 0x9002 } : State).msr 16 = true ∧
      bit ({ ready with msr := 0x2002 } : State).msr 19 = false := by
  decide

/-- The processor's turn, first in an empty schedule and then scheduled, with an exception to take. -/
theorem test_witness_PendingExceptions_step :
    (let s : State := { ready with sresetPending := true }
    s.schedule = [] ∧ s.checkstop = false ∧ s.hresetPin = false ∧ msrRefusal s.msr = none ∧
      (pendingException s.turn).isSome = true) ∧
    (let s : State := { ready with sresetPending := true, schedule := [.processor, .timerTick] }
    s.schedule = .processor :: [.timerTick] ∧ s.checkstop = false ∧ s.hresetPin = false ∧
      (pendingException s.turn).isSome = true) := by
  decide

/-- R556 (e): an ENINT that software set again while the interrupt waited is 0 in its handler, where SIA and SDA are frozen
(R556 b); no new signal, so that the counters are not frozen (R549 a). -/
theorem test_performance_monitor_entry_clears_enint :
    (after 0x60000000 [] []
      { ready with msr := 0xB002, pmiPending := true, everSignaled := true, mmcr0 := 0x06008040 } fun t =>
      t.pc == 0xF00 && t.mmcr0 == 0x02008040 && !t.pmiPending && t.samplesFrozen && !t.frozen1) = true := by
  decide

theorem test_witness_DivisionResults :
    ((ready.setR 5 1).r 5 ≠ 0 ∧ ¬ ((ready.setR 5 1).r 4 = 0x80000000 ∧ (ready.setR 5 1).r 5 = 0xFFFFFFFF)) ∧
      ready.r 5 = 0 ∧ ((ready.setR 6 0x80000000).setR 5 0xFFFFFFFF).r 6 = 0x80000000 ∧
      ((ready.setR 6 0x80000000).setR 5 0xFFFFFFFF).r 5 = 0xFFFFFFFF := by
  decide

theorem test_witness_AlignedLoadsReadMemory :
    (effectiveAddress (.lwzu 3 4 0xFFFC) ready = some 0x1FFC ∧ (Instr.lwzu 3 4 0xFFFC).wellFormed = true ∧
        (loadShape (.lwzu 3 4 0xFFFC)).isSome = true ∧ AccessReady ready false 0x1FFC 4) ∧
      effectiveAddress (.lfd 1 0 0xFFF8) ready = some 0xFFFFFFF8 ∧ (Instr.lfd 1 0 0xFFF8).wellFormed = true ∧
        (floatLoadShape (.lfd 1 0 0xFFF8)).isSome = true ∧ bit ready.msr 18 = true ∧
        AccessReady ready false 0xFFFFFFF8 8 :=
  ⟨⟨by decide, by decide, by decide, by decide, by decide, by decide⟩, by decide, by decide, by decide, by decide,
    by decide, by decide, by decide⟩

theorem test_witness_AlignedStoresWriteMemory :
    (effectiveAddress (.sthu 4 4 2) ready = some 0x2002 ∧ (Instr.sthu 4 4 2).wellFormed = true ∧
        Memory.wf ready.mem = true ∧ (storeShape (.sthu 4 4 2)).isSome = true ∧ AccessReady ready true 0x2002 2) ∧
      effectiveAddress (.stfs 1 4 0) ready = some 0x2000 ∧ (Instr.stfs 1 4 0).wellFormed = true ∧
        (floatStoreShape (.stfs 1 4 0)).isSome = true ∧ bit ready.msr 18 = true ∧ AccessReady ready true 0x2000 4 :=
  ⟨⟨by decide, by decide, by decide, by decide, by decide, by decide, by decide⟩, by decide, by decide, by decide,
    by decide, by decide, by decide, by decide⟩

theorem test_witness_MisalignedAccessesTrapOrSplit :
    accessSize (.lwzu 3 4 1) = some (false, 4) ∧ effectiveAddress (.lwzu 3 4 1) ready = some 0x2001 ∧
      (Instr.lwzu 3 4 1).wellFormed = true ∧ needsFloat (.lwzu 3 4 1) = false ∧ Memory.wf ready.mem = true ∧
      aligned 0x2001 4 = false ∧ ready.watched false 0x2001 4 = false ∧ kindOf ready.memMap 0x2001 4 = some .ram := by
  decide

theorem test_witness_UnsplittableAccessesTrapMisaligned :
    effectiveAddress (.lmw 30 4 2) ready = some 0x2002 ∧ aligned 0x2002 4 = false ∧
      effectiveAddress (.eciwx 3 4 4) ready = some 0x4000 ∧ effectiveAddress (.eciwx 3 0 4) (ready.setR 4 3) = some 3 ∧
      aligned 3 4 = false := by
  decide

/-- D3, R518: a misaligned `eciwx` takes the alignment exception also with EAR[E] = 0. -/
theorem test_eciwx_misaligned_and_disabled :
    (after 0x7C642A6C [(5, 2)] [] ready fun t => t.pc == 0x600 && t.dar == 0x2002) = true := by
  decide

/-- For a split access whether the policy splits it is open: any word and address for which it does. -/
theorem test_witness_BlockedAccessesTrapOrStop :
    (accessSize (.stw 3 4 6) = some (true, 4) ∧ effectiveAddress (.stw 3 4 6) ready = some 0x2006 ∧
        aligned 0x2006 4 = false ∧ ({ ready with dabr := 0x200A } : State).watched true 0x2006 4 = true) ∧
    (accessSize (.stw 3 4 0) = some (true, 4) ∧ effectiveAddress (.stw 3 4 0) ready = some 0x2000 ∧
        needsFloat (.stw 3 4 0) = false ∧ aligned 0x2000 4 = true ∧
        ({ ready with dabr := 0x2002 } : State).watched true 0x2000 4 = true) ∧
      effectiveAddress (.stw 3 4 0x2000) mapped = some 0x4000 ∧ aligned 0x4000 4 = true ∧
        mapped.watched true 0x4000 4 = false ∧ kindOf mapped.memMap 0x4000 4 = none := by
  decide

/-- R303: `lmw` loads r30 and takes the DSI at the word that DABR watches. -/
theorem test_lmw_watched_second_word :
    (after 0xBBC40004 [] [] { ready with dabr := 0x2009, mem := [(0x2007, 7)] } fun t =>
      t.pc == 0x300 && t.dar == 0x2008 && t.dsisr == 0x00400000 && t.r 30 == 7 && t.srr0 == 0x1000) = true := by
  decide

theorem test_witness_BlockedAccesses_multiple :
    let s : State := { ready with dabr := 0x200B }
    (s.eaD 4 4 = 0x2004 ∧ aligned 0x2004 4 = true ∧ Memory.wf s.mem = true ∧ 1 < 32 - (30 : BitVec 5).toNat) ∧
      ∀ store ∈ [true, false], s.watched store 0x2004 4 = false ∧ s.watched store 0x2008 4 = true ∧
        s.watched store 0x2007 1 = false ∧ s.watched store 0x2008 1 = true ∧ kindOf s.memMap 0x2004 4 = some .ram ∧
        kindOf s.memMap 0x2007 1 = some .ram := by
  decide

theorem test_witness_BlockedAccesses_reservation_and_block :
    let s : State := { ready with dabr := 0x201B, reserve := true, reserveAddr := 0x100 }
    (aligned (s.eaX 0 4) 4 = true ∧ s.reserve = true ∧ s.reserveAddr = (s.eaX 0 4).extractLsb' 5 27) ∧
      (0x2000 : Word).toNat = (s.eaX 0 4).toNat / 32 * 32 ∧ s.watched true 0x2000 32 = true ∧
      kindOf s.memMap 0x2000 32 ≠ some .device ∧ ({ s with dabr := 0x2003 } : State).watched true (s.eaX 0 4) 4 = true ∧
      ({ s with dabr := 0x2003 } : State).watched false (s.eaX 0 4) 4 = true := by
  decide

theorem test_witness_DeviceAccessesReachTheDevice :
    (∀ i ∈ [Instr.lwz 3 4 0xFFC, .stw 3 4 0xFFC, .lfs 1 4 0xFFC, .stfs 1 4 0xFFC],
      (accessSize i).map (·.2) = some 4 ∧ effectiveAddress i mapped = some 0x2FFC ∧ i.wellFormed = true) ∧
      bit mapped.msr 18 = true ∧ aligned 0x2FFC 4 = true ∧ mapped.watched false 0x2FFC 4 = false ∧
      mapped.watched true 0x2FFC 4 = false ∧ kindOf mapped.memMap 0x2FFC 4 = some .device ∧
      Memory.wf mapped.mem = true ∧ kindOf [⟨0x2FFE, 2, .device⟩, ⟨0, 0x4000, .ram⟩] 0x2FFC 4 = some .device := by
  decide

/-- R93: of a word that lies half in a device region the device gets its half and `ram` the other. -/
theorem test_store_across_device_boundary :
    (after 0x90640FFC [(3, 0x11223344)] [] { ready with memMap := [⟨0x2FFE, 2, .device⟩, ⟨0, 0x4000, .ram⟩] } fun t =>
      t.bytesAt 0x2FFC 4 == [0x11, 0x22, 0, 0] && t.busLog == [.deviceWrite 0x2FFC [0x11, 0x22, 0x33, 0x44]]) = true := by
  decide

theorem test_witness_MultipleWordsMove :
    aligned (ready.eaD 4 0) 4 = true ∧ Memory.wf ready.mem = true ∧
      (∀ k, k < 32 - (0 : BitVec 5).toNat → ∀ st ∈ [true, false],
        ready.watched st (ready.eaD 4 0 + BitVec.ofNat 32 (4 * k)) 4 = false ∧
        kindOf ready.memMap (ready.eaD 4 0 + BitVec.ofNat 32 (4 * k)) 4 = some .ram) ∧
      ∀ k, k < 32 - (31 : BitVec 5).toNat → ready.watched false (ready.eaD 4 0 + BitVec.ofNat 32 (4 * k)) 4 = false := by
  decide

/-- Two words, the first a device's; and two, the second outside MEM_MAP. -/
theorem test_witness_MultipleWordsMove_devices :
    (aligned (mapped.eaD 4 0xFFC) 4 = true ∧ Memory.wf mapped.mem = true ∧
      ∀ k, k < 32 - (30 : BitVec 5).toNat → ∀ st ∈ [true, false],
        mapped.watched st (mapped.eaD 4 0xFFC + BitVec.ofNat 32 (4 * k)) 4 = false ∧
        kindOf mapped.memMap (mapped.eaD 4 0xFFC + BitVec.ofNat 32 (4 * k)) 4 =
          some (if k = 0 then .device else .ram)) ∧
      aligned (mapped.eaD 4 0x1FFC) 4 = true ∧
        (∀ st ∈ [true, false], mapped.watched st 0x3FFC 4 = false ∧ mapped.watched st 0x4000 4 = false) ∧
        kindOf mapped.memMap 0x3FFC 4 = some .ram ∧ mapped.eaD 4 0x1FFC = 0x3FFC ∧ kindOf mapped.memMap 0x4000 4 = none := by
  decide

/-- `stmw` with its first word a device's. -/
theorem test_stmw_to_device_and_ram :
    (after 0xBFC40FFC [(30, 0x11223344), (31, 0x55667788)] [] mapped fun t =>
      t.bytesAt 0x2FFC 8 == [0, 0, 0, 0, 0x55, 0x66, 0x77, 0x88] &&
        t.busLog == [.deviceWrite 0x2FFC [0x11, 0x22, 0x33, 0x44]]) = true := by
  decide

theorem test_witness_StringLoadsFillRegisters :
    (∀ k, k < 32 → ready.watched false (0x2000 + BitVec.ofNat 32 k) 1 = false ∧
        kindOf ready.memMap (0x2000 + BitVec.ofNat 32 k) 1 = some .ram) ∧
      (({ ready with xer := 0x7F } : State).xer.toNat % 128 = 127 ∧ inRegisterRange 5 4 ((7 + 3) / 4) = false ∧
        inRegisterRange 5 7 ((7 + 3) / 4) = false) ∧
      inRegisterRange 5 6 ((7 + 3) / 4) = true ∧ ready.xer.toNat % 128 = 0 := by
  decide

/-- Four bytes from 0x2FFE on, two of them a device's; and two from 0x3FFF on, the second outside MEM_MAP. -/
theorem test_witness_strings_of_devices :
    Memory.wf mapped.mem = true ∧
      (∀ k, k < 4 → ∀ st ∈ [true, false], mapped.watched st (0x2FFE + BitVec.ofNat 32 k) 1 = false ∧
        kindOf mapped.memMap (0x2FFE + BitVec.ofNat 32 k) 1 = some (if k < 2 then .device else .ram)) ∧
      (∀ st ∈ [true, false], mapped.watched st 0x3FFF 1 = false ∧ mapped.watched st 0x4000 1 = false) ∧
      kindOf mapped.memMap 0x3FFF 1 = some .ram ∧ kindOf mapped.memMap 0x4000 1 = none := by
  decide

theorem test_witness_StringStoresWriteBytes :
    Memory.wf ready.mem = true ∧ ∀ k, k < 32 → ready.watched true (0x2000 + BitVec.ofNat 32 k) 1 = false ∧
      kindOf ready.memMap (0x2000 + BitVec.ofNat 32 k) 1 = some .ram := by
  decide

theorem test_witness_LoadReserveTakesReservation :
    (aligned (ready.eaX 0 4) 4 = true ∧ ready.watched false (ready.eaX 0 4) 4 = false ∧
        kindOf ready.memMap (ready.eaX 0 4) 4 = some .ram) ∧
      (aligned (mapped.eaX 0 4) 4 = true ∧ mapped.watched false (mapped.eaX 0 4) 4 = false ∧
        kindOf mapped.memMap (mapped.eaX 0 4) 4 = some .device) ∧
      kindOf mapped.memMap (mapped.eaX 4 4) 4 = none := by
  decide

theorem test_witness_StoreConditionalNeedsReservation :
    aligned (ready.eaX 0 4) 4 = true ∧ Memory.wf ready.mem = true ∧ ready.watched true (ready.eaX 0 4) 4 = false ∧
      kindOf ready.memMap (ready.eaX 0 4) 4 = some .ram ∧ ready.reserve = false ∧
      ({ ready with reserve := true, reserveAddr := 0x100 } : State).reserveAddr = (ready.eaX 0 4).extractLsb' 5 27 ∧
      (let s : State := { mapped with reserve := true, reserveAddr := 0x200 }
      aligned (s.eaX 4 4) 4 = true ∧ s.watched true (s.eaX 4 4) 4 = false ∧ kindOf s.memMap (s.eaX 4 4) 4 = none ∧
        s.reserve = true ∧ s.reserveAddr = (s.eaX 4 4).extractLsb' 5 27) := by
  decide

theorem test_witness_BarriersAndCacheHintsKeepData :
    kindAt mapped.memMap (mapped.eaX 0 4).toNat ≠ none ∧ kindAt mapped.memMap (mapped.eaX 4 4).toNat = none ∧
      mapped.userMode = false := by
  decide

theorem test_witness_CodeModificationSequencePublishes :
    kindAt ready.memMap (ready.eaX 0 4).toNat ≠ none ∧
      ({ ready with schedule := [] } : State).stale = [] ∧ ((ready.otherStore 0x2000 [1]).stale.map (·.own)) = [false] ∧
      ((ready.storeBytes 0x2000 [1]).stale.map (·.own)) = [true] := by
  decide

/-- R112: this processor's complete sequence ends the words from before another master's store as well, and that master's
published store the ones from before this processor's; a later store of the other one stays open. -/
theorem test_isync_ends_older_words :
    let complete (l : List StaleWord) := l.map fun e => if e.own then { e with stage := .invalidatedSynced } else e
    let twice := (ready.otherStore 0x2000 [1]).storeBytes 0x2000 [2]
    let other := (ready.storeBytes 0x2000 [2]).otherStore 0x2000 [1]
    twice.stale.length = 2 ∧ afterIsync [] (complete twice.stale) = [] ∧
      (afterIsync [] (complete other.stale)).map (·.word) = [0x02000000] ∧
      afterIsync [] (other.stale.map fun b => StaleWord.published b 0x2000) = [] := by
  decide

theorem test_witness_BlockZeroClearsBlock :
    ((0x2020 : Word).toNat = ((ready.setR 5 0x3F).eaX 4 5).toNat / 32 * 32 ∧ Memory.wf ready.mem = true ∧
        kindOf ready.memMap 0x2020 32 = some .ram ∧ ready.watched true 0x2020 32 = false) ∧
      (0x2FE0 : Word).toNat = ((mapped.setR 5 0xFFF).eaX 4 5).toNat / 32 * 32 ∧
        kindOf mapped.memMap 0x2FE0 32 = some .device ∧
      (0x4000 : Word).toNat = (mapped.eaX 4 4).toNat / 32 * 32 ∧ kindOf mapped.memMap 0x4000 32 = none ∧
        mapped.watched true 0x4000 32 = false := by
  decide

theorem test_witness_ExternalControlReachesPlatform :
    bit ready.ear 0 = false ∧ bit ({ ready with ear := 0x80000007 } : State).ear 0 = true ∧
      aligned (ready.eaX 0 4) 4 = true ∧ aligned ((ready.setR 4 0x2002).eaX 0 4) 4 = false := by
  decide

/-- A taken and an untaken conditional branch: the CTR that reaches 0, and the one that wraps. -/
theorem test_witness_BranchResults :
    (let s : State := { ready with ctr := 1 };
      (0 : Word) = (if bit (16 : BitVec 5) 2 then s.ctr else s.ctr - 1) ∧
        false = ((bit (16 : BitVec 5) 2 || (decide ((0 : Word) ≠ 0) != bit (16 : BitVec 5) 3)) &&
          (bit (16 : BitVec 5) 0 || bit s.cr 0 == bit (16 : BitVec 5) 1))) ∧
      (0xFFFFFFFF : Word) = (if bit (16 : BitVec 5) 2 then ready.ctr else ready.ctr - 1) ∧
        true = ((bit (16 : BitVec 5) 2 || (decide ((0xFFFFFFFF : Word) ≠ 0) != bit (16 : BitVec 5) 3)) &&
          (bit (16 : BitVec 5) 0 || bit ready.cr 0 == bit (16 : BitVec 5) 1)) ∧
        bit (20 : BitVec 5) 2 = true := by
  decide

theorem test_witness_RegisterMoveResults :
    ready.userMode = false ∧ (270 : BitVec 10) ≠ 268 ∧ (270 : BitVec 10) ≠ 269 := by
  decide

theorem test_witness_SpecialRegisterReads :
    (ready.userMode = false ∧ ((1023 : BitVec 10).toNat, State.pir) ∈ sprTable) ∧
      (user.userMode = true ∧ (0 : BitVec 10).getLsbD 4 = false ∧ (0 : BitVec 10).toNat ∉ sprTable.map (·.1)) :=
  ⟨⟨by decide, by simp [sprTable]⟩, by decide, by decide, by simp [sprTable]⟩

theorem test_witness_SpecialRegisterWrites :
    (user.userMode = true ∧ (1 : BitVec 10).getLsbD 4 = false ∧
        ((1 : BitVec 10).toNat, State.xer) ∈ sprTable ++ timeBaseTable ∧ (1 : BitVec 10) ≠ 287) ∧
      ready.userMode = false ∧ (0 : BitVec 10).toNat ∉ (sprTable ++ timeBaseTable).map (·.1) :=
  ⟨⟨by decide, by decide, by simp [sprTable], by decide⟩, by decide, by simp [sprTable, timeBaseTable]⟩

/-- 95_test_vectors.md E4: a negative value in PMC1 with ENINT and PMC1INTCONTROL signals, at the step (U15), also where the
count of the next cycle would wrap. -/
theorem test_negative_written_counter_signals :
    (after 0x7C79EBA6 [(3, 0x80000000)] [] { ready with mmcr0 := 0x04008080 } fun t =>
      t.pmc1 == 0x80000000 && t.mmcr0 == 0x00008080 && t.pmiPending && t.pmSignaled && t.samplesFrozen) = true ∧
    (after 0x7C79EBA6 [(3, 0x7FFFFFFD)] [] { ready with mmcr0 := 0x04008080 } fun t =>
      t.pmc1 == 0x7FFFFFFD && t.mmcr0 == 0x04008080 && !t.pmiPending) = true := by
  decide

/-- R544: writing ENINT = 1 over a counter that is still negative signals again at once, with SIA the last instruction
completed; scenario S4: over one that is not, it ends the freeze. -/
theorem test_rearming_over_negative_counter_signals :
    (after 0x7C78EBA6 [(3, 0x04008080)] [] { ready with pmc1 := 0x80000001, lastCompleted := some 0xFFC } fun t =>
      t.mmcr0 == 0x00008080 && t.pmiPending && t.sia == 0xFFC) = true ∧
    (after 0x7C78EBA6 [(3, 0x06008041)] [] { ready with pmSignaled := true, mmcr0 := 0x02008041 } fun t =>
      t.mmcr0 == 0x06008041 && !t.pmSignaled) = true := by
  decide

theorem test_witness_FloatArithmeticCompletes :
    arithmeticShape (.fmaddsx 1 2 3 4 true) = some (1, [2, 3, 4], true) ∧ ready.FloatQuiet :=
  ⟨by decide, by decide, by decide, by decide⟩

/-- An enabled invalid operation: FEX is 0 before `mtfsfi 6,8` sets VE beside VX, and the exception resumes after it. -/
theorem test_witness_EnabledFloatExceptionsTrapAfterwards :
    (after 0xFF00810C [] [] { ready with msr := 0x3902, fpscr := 0xA0800000 } fun t =>
      t.pc == 0x700 && t.srr0 == 0x1004 && bit t.srr1 11 && bit t.fpscr 1) = true ∧
    (arithmeticShape (.fdivx 1 2 3 false)).isSome = true ∧ bit ({ ready with msr := 0x3902 } : State).msr 18 = true := by
  decide

theorem test_witness_NaNOperandsPropagate :
    let s := (ready.setF 2 0x7FF0000000000001).setF 3 0xFFF8000000001234
    s.FloatQuiet ∧ bit s.fpscr 29 = false ∧ ([1, 2, 3].map s.f).find? fpIsNaN = some 0x7FF0000000000001 :=
  ⟨⟨by decide, by decide, by decide⟩, by decide, by decide⟩

/-- Infinity times zero plus a quiet NaN: VE = 0 delivers the NaN, VE = 1 leaves the target (log 45); VXIMZ is set. -/
theorem test_fmadd_quiet_nan_and_infinity_times_zero :
    let fprs : List (BitVec 5 × Dword) := [(1, 5), (2, 0x7FF0000000000000), (3, 0), (4, 0x7FF8000000000001)]
    (after 0xFC2220FA [] fprs ready fun t => t.f 1 == 0x7FF8000000000001 && bit t.fpscr 11) = true ∧
      (after 0xFC2220FA [] fprs { ready with fpscr := 0x80 } fun t =>
        t.f 1 == 5 && bit t.fpscr 11 && bit t.fpscr 1) = true := by
  decide

theorem test_witness_single_operands :
    let s := (ready.setF 2 0x7FF4000000000000).setF 3 0x7FF0000000000000
    ([1, 2, 3].map s.f).all isSingle = true ∧ ([1, 2, 3].map s.f).find? fpIsNaN = some 0x7FF4000000000000 ∧
      isSingle 0x0000000000000000 = true := by
  decide

theorem test_witness_InvalidOperationsAndZeroDivide :
    let s := ((ready.setF 2 0x7FF0000000000000).setF 3 0xFFF0000000000000).setF 4 0xBFF0000000000000
    s.FloatQuiet ∧ bit s.fpscr 29 = false ∧ fpIsInf (s.f 2) = true ∧ fpIsInf (s.f 3) = true ∧
      fpSign (s.f 2) ≠ fpSign (s.f 3) ∧ fpSign (s.f 2) = fpSign (s.f 2) ∧ fpIsZero (s.f 1) = true ∧
      fpIsNaN (s.f 4) = false ∧ fpIsInf (s.f 4) = false ∧ fpIsZero (s.f 4) = false :=
  ⟨⟨by decide, by decide, by decide⟩, by decide, by decide, by decide, by decide, by decide, by decide, by decide,
    by decide, by decide⟩

/-- Infinity times zero, and infinity times a number with an infinity of the other sign added. -/
theorem test_witness_InvalidOperations_multiply_add :
    let s := ((ready.setF 2 0x7FF0000000000000).setF 3 0xFFF0000000000000).setF 4 0xBFF0000000000000
    (fpIsNaN (s.f 4) = false ∧ fpIsInf (s.f 2) = true ∧ fpIsZero (s.f 1) = true ∧ isSingle (s.f 1) = true) ∧
      (∀ r ∈ [(2 : BitVec 5), 4], fpIsNaN (s.f r) = false ∧ fpIsZero (s.f r) = false) ∧ fpIsInf (s.f 3) = true ∧
      (fpSign (s.f 2) ^^ fpSign (s.f 4) ^^ fpSign (s.f 3)) ≠ true ∧ fpIsInf (s.f 2) = true ∧
      (fpSign (s.f 2) ^^ fpSign (s.f 4) ^^ fpSign (s.f 2)) ≠ false ∧ isSingle (s.f 4) = true := by
  decide

/-- R259: of `2^-128` the largest single-precision number is an estimate, `2^128` is none; of `2^-149` neither is. -/
theorem test_fres_largest_estimate :
    fresBoundOk 0x37F0000000000000 (2 ^ 24 - 1) 104 = true ∧ fresBoundOk 0x37F0000000000000 1 128 = false ∧
      fresBoundOk 0x36A0000000000000 (2 ^ 24 - 1) 104 = false := by
  decide

theorem realOf_one : realOf 0x3FF0000000000000 = 1 := by
  have h : exactOf 0x3FF0000000000000 = ⟨false, 2 ^ 52, 2 ^ 52⟩ := by decide
  norm_num [realOf, h, Exact.signed]

theorem realOf_two : realOf 0x4000000000000000 = 2 := by
  have h : exactOf 0x4000000000000000 = ⟨false, 2 ^ 52, 2 ^ 51⟩ := by decide
  norm_num [realOf, h, Exact.signed]

/-- 1 + 1 = 2. -/
theorem test_witness_RepresentableResultsAreExact :
    let s := ready.setF 1 0x3FF0000000000000
    (s.FloatQuiet ∧ bit s.fpscr 26 = false ∧ bit s.fpscr 29 = false) ∧ s.f 1 = 0x3FF0000000000000 ∧
      fpIsNaN (s.f 1) = false ∧ fpIsInf (s.f 1) = false ∧ fpIsNaN 0x4000000000000000 = false ∧
      fpIsInf 0x4000000000000000 = false ∧
      realOf 0x4000000000000000 = realOf 0x3FF0000000000000 + realOf 0x3FF0000000000000 ∧
      realOf 0x3FF0000000000000 + realOf 0x3FF0000000000000 ≠ 0 :=
  ⟨⟨⟨by decide, by decide, by decide⟩, by decide, by decide⟩, by decide, by decide, by decide, by decide, by decide,
    by rw [realOf_one, realOf_two]; norm_num, by rw [realOf_one]; norm_num⟩

/-- Exact zeros 1 - 1 and 1 * 1 - 1, an infinite addend, an infinite product, and the operands of the products, quotients
and of `frsp`. -/
theorem test_witness_RepresentableResults_zeros_and_infinities :
    let s := ((ready.setF 1 0x3FF0000000000000).setF 2 0x7FF0000000000000).setF 3 0x8000000000000000
    (s.FloatQuiet ∧ bit s.fpscr 29 = false) ∧
      (∀ r ∈ [(1 : BitVec 5), 2, 3], fpIsNaN (s.f r) = false ∧ isSingle (s.f r) = true) ∧
      (realOf (s.f 1) - realOf (s.f 1) = 0 ∧ realOf (s.f 1) * realOf (s.f 1) - realOf (s.f 1) = 0) ∧
      (fpIsInf (s.f 1) = false ∧ fpIsZero (s.f 1) = false ∧ fpIsInf (s.f 2) = true ∧ fpIsZero (s.f 2) = false ∧
        fpIsInf (s.f 3) = false ∧ fpIsZero (s.f 3) = true ∧ fpSign (s.f 2) = fpSign (s.f 2)) := by
  have h : (((ready.setF 1 0x3FF0000000000000).setF 2 0x7FF0000000000000).setF 3 0x8000000000000000).f 1 =
    0x3FF0000000000000 := by decide
  refine ⟨⟨⟨by decide, by decide, by decide⟩, by decide⟩, by decide, ?_, by decide⟩
  rw [h, realOf_one]
  norm_num

/-- R242 (d): 1 - 1 is -0 toward minus infinity; R266: a product of infinity and -1 minus infinity, negated. -/
theorem test_exact_zero_and_negated_infinity :
    (after 0xFC221828 [] [(2, 0x3FF0000000000000), (3, 0x3FF0000000000000)] { ready with fpscr := 3 } fun t =>
      t.f 1 == 0x8000000000000000 && t.fpscr == 0x12003) = true ∧
    (after 0xFC2220FC [] [(2, 0x7FF0000000000000), (3, 0xBFF0000000000000), (4, 0x7FF0000000000000)] ready fun t =>
      t.f 1 == 0x7FF0000000000000 && t.fpscr == 0x5000) = true := by
  decide

theorem test_witness_RoundingPicksTheRightNeighbour : 0 < (⟨true, 5, 2⟩ : Exact).den := by decide

/-- 1 + 1 = 2 with `2^1 ≤ 2 < 2^2`, in double and in single precision. -/
theorem test_witness_ArithmeticRoundsOnce :
    let s := ready.setF 1 0x3FF0000000000000
    let x := realOf (s.f 1) + realOf (s.f 1)
    (s.FloatQuiet ∧ bit s.fpscr 29 = false) ∧ fpIsNaN (s.f 1) = false ∧ fpIsInf (s.f 1) = false ∧
      isSingle (s.f 1) = true ∧ x ≠ 0 ∧ powerOfTwo 1 ≤ magnitude x ∧ magnitude x < powerOfTwo (1 + 1) := by
  have h : (ready.setF 1 0x3FF0000000000000).f 1 = 0x3FF0000000000000 := by decide
  refine ⟨⟨⟨by decide, by decide, by decide⟩, by decide⟩, by decide, by decide, by decide, ?_, ?_, ?_⟩ <;>
    rw [h, realOf_one] <;> norm_num [powerOfTwo, magnitude, show Int.toNat 2 = 2 from rfl]

theorem test_witness_EstimatesKeepTheirBounds :
    (ready.FloatQuiet ∧ bit ready.fpscr 29 = false ∧ bit ready.fpscr 26 = false) ∧
      (fpIsNaN 0x3FF0000000000000 = false ∧ fpIsInf 0x3FF0000000000000 = false ∧ isSingle 0x3FF0000000000000 = true) ∧
      (255 ≤ 256 * ((2 ^ 24 - 1) * powerOfTwo 104 * magnitude (realOf 0x3FF0000000000000)) ∧
        0 < realOf 0x3FF0000000000000) ∧
      fpIsInf 0x7FF0000000000000 = true ∧ fpSign 0x7FF0000000000000 = false := by
  refine ⟨⟨⟨by decide, by decide, by decide⟩, by decide, by decide⟩, ⟨by decide, by decide, by decide⟩, ?_, by decide,
    by decide⟩
  rw [realOf_one]
  norm_num [powerOfTwo, magnitude, show Int.toNat 104 = 104 from rfl]

theorem test_witness_FormatsRoundTrip :
    fpIsNaN 0x000FFFFFFFFFFFFF = false ∧ fpIsInf 0x000FFFFFFFFFFFFF = false ∧ fpIsNaN 0x7FEFFFFFFFFFFFFF = false ∧
      fpIsInf 0x7FEFFFFFFFFFFFFF = false := by
  decide

theorem test_witness_FloatMoveResults : bit ready.msr 18 = true := by decide

theorem test_witness_FloatCompareResults : ready.FloatQuiet := ⟨by decide, by decide, by decide⟩

/-- The last value in range and the first one out of it, at either end, and a NaN. -/
theorem test_witness_FloatConvertResults :
    ready.FloatQuiet ∧ (0 : BitVec 2) = field ready.fpscr 30 31 ∧
      ((exactOf 0x41DFFFFFFFC00000).roundTo 0 0).significand = 2 ^ 31 - 1 ∧
      ((exactOf 0x41E0000000000000).roundTo 0 0).significand = 2 ^ 31 ∧
      ((exactOf 0xC1E0000000000000).roundTo 0 0).significand = 2 ^ 31 ∧
      ((exactOf 0xC1E0000000200000).roundTo 0 0).significand = 2 ^ 31 + 1 ∧ fpIsNaN 0x7FF0000000000001 = true :=
  ⟨⟨by decide, by decide, by decide⟩, by decide, by decide, by decide, by decide, by decide, by decide⟩

theorem test_witness_FpscrInstructionResults : ready.FloatQuiet ∧ ready.fpscr = 0 :=
  ⟨⟨by decide, by decide, by decide⟩, rfl⟩

theorem test_witness_TimerTickCounts :
    let s : State := { ready with tbenPin := true, schedule := [.timerTick] }
    s.schedule = .timerTick :: [] ∧ s.tbenPin = true ∧ s.checkstop = false := by
  decide

theorem test_witness_CheckstopAndPinEvents :
    ({ ready with checkstop := true } : State).schedule = [] ∧ ready.checkstop = false ∧
      ({ ready with hresetPin := true } : State).hresetPin = true ∧
      ({ ready with schedule := [.machineCheck .mcpPin, .processor] } : State).schedule =
        .machineCheck .mcpPin :: [.processor] := by
  decide

/-- R550 (a): with THRESHOLD = 2 a miss that takes two cycles is not counted, one that takes three is, and its load is in
SIA and SDA when it makes PMC1 negative (R552 a). -/
theorem test_threshold_counts_longer_misses :
    let idle : MonitorCycle := ⟨0, 0, none, false, 0, 0⟩
    let s : State := { ready with mmcr0 := 0x04028240, pmc1 := 0x7FFFFFFF, accesses := [⟨0x1000, 0x2010⟩] }
    let arrived := s.monitorCycle { idle with missArrives := some 0 }
    let two := ((arrived.monitorCycle idle).monitorCycle { idle with missEnds := true }).monitorCycle idle
    let three := ((arrived.monitorCycle idle).monitorCycle idle).monitorCycle idle
    field s.mmcr0 10 15 = 2 ∧ field s.mmcr0 19 25 = 9 ∧ two.pmc1 = 0x7FFFFFFF ∧ three.pmc1 = 0x80000000 ∧
      three.pmiPending = true ∧ three.sia = 0x1000 ∧ three.sda = 0x2010 := by
  decide

/-- A blocked, a counting and a signaling monitor. -/
theorem test_witness_MonitorCountsAndSignals :
    bit (0x80000040 : Word) 0 = true ∧
      (let s : State := { ready with mmcr0 := 0x04008040, pmc1 := 0x7FFFFFFF }
      field s.mmcr0 19 25 = 1 ∧ bit (s.monitorCycle ⟨0, 0, none, false, 0, 0⟩).pmc1 0 = true ∧
        bit s.mmcr0 5 = true ∧ bit s.mmcr0 16 = true) ∧
      (let s : State := { ready with mmcr0 := 0x04008240, pmc1 := 0x7FFFFFFF, marked := some ⟨0x1000, 0x2010⟩ }
      let o : MonitorCycle := ⟨0, 0, none, false, 0, 0⟩
      s.pmSignaled = false ∧ (field s.mmcr0 19 25).toNat ∈ [9, 10, 23, 24] ∧ s.thresholdShadow = 0 ∧
        bit s.pmc1 0 = false ∧ (s.monitorCycle o).pmc1Cause = .threshold ⟨0x1000, 0x2010⟩ ∧
        (bit s.mmcr0 17 && bit (s.monitorCycle o).pmc2 0 && (s.monitorCycle o).pmc2Cause == .written) = false) ∧
      ({ ready with accesses := [⟨0x1000, 0x2010⟩] } : State).accesses[0]? = some ⟨0x1000, 0x2010⟩ ∧
      ({ ready with lastCompleted := some 0x1000 } : State).lastCompleted = some 0x1000 := by
  decide

/-- A scheduled cycle; PMC2 counting, waiting for its trigger, and frozen with DISCOUNT; PMC1 frozen. -/
theorem test_witness_MonitorCycles :
    let o : MonitorCycle := ⟨0, 0, none, false, 0, 0⟩
    ({ ready with schedule := [.monitorCycle o] } : State).schedule = .monitorCycle o :: [] ∧
      (({ ready with mmcr0 := 1 } : State).monitorCycle o).pmc2 = 1 ∧
      (({ ready with mmcr0 := 0x2001 } : State).monitorCycle o).pmc2 = 0 ∧
      (({ ready with mmcr0 := 0x2001, pmc1 := 0x80000000 } : State).monitorCycle o).pmc2 = 1 ∧
      (({ ready with mmcr0 := 0x02000041, pmSignaled := true } : State).monitorCycle o).pmc2 = 0 ∧
      (({ ready with mmcr0 := 0x02000041, pmSignaled := true } : State).monitorCycle o).pmc1 = 0 := by
  decide

theorem test_witness_OtherStoresTakeTheReservation :
    let s : State := { ready with reserve := true, reserveAddr := 0x100, schedule := [.otherStore 0x201F [0x22, 0x33]] }
    s.checkstop = false ∧ Memory.wf s.mem = true ∧
      s.schedule = .otherStore 0x201F [0x22, 0x33] :: [] ∧ (0x201F : Word).extractLsb' 5 27 = s.reserveAddr ∧
      (0x2020 : Word).extractLsb' 5 27 ≠ s.reserveAddr ∧
      ({ s with schedule := [.otherKill 0x2010] } : State).schedule = .otherKill 0x2010 :: [] := by
  decide

end Sys2Proof.Tests
end

section
namespace Sys2Proof.Machine

/-! ## The invariant: what it asks of each register, bit by bit -/

/-- Word alignment, as a remainder (10_state.md R30). -/
theorem and_three_eq_zero_iff (a : Word) : a &&& 3 = 0 ↔ a.toNat % 4 = 0 := by
  have h : (a &&& 3).toNat = a.toNat % 4 := by
    rw [BitVec.toNat_and]
    exact Nat.and_two_pow_sub_one_eq_mod a.toNat 2
  rw [← h, ← BitVec.toNat_inj]
  rfl

theorem wordAligned_and_three (a : Word) : wordAligned a &&& 3 = 0 := by
  rw [wordAligned, BitVec.and_assoc, show ~~~(3 : Word) &&& 3 = 0 by decide]
  exact BitVec.and_zero

theorem add_four_and_three {a : Word} (h : a &&& 3 = 0) : (a + 4) &&& 3 = 0 := by
  rw [and_three_eq_zero_iff] at h ⊢
  rw [BitVec.toNat_add, show (4 : Word).toNat = 4 from rfl]
  omega

theorem vectorAddress_and_three (msr : Word) (k : ExceptionKind) : vectorAddress msr k &&& 3 = 0 := by
  unfold vectorAddress
  split <;> cases k <;> decide

/-- A word has no bit outside a mask. -/
theorem and_not_eq_zero_iff (w mask : Word) :
    w &&& ~~~mask = 0 ↔ ∀ i, i < 32 → bit mask i = false → bit w i = false := by
  constructor
  · intro h i hi hm
    have hb : bit (w &&& ~~~mask) i = bit (0 : Word) i := by rw [h]
    rw [bit_and, bit_not _ hi, hm, Bool.not_false, Bool.and_true] at hb
    rw [hb]
    simp [bit]
  · intro h
    refine eq_of_bit fun i hi => ?_
    rw [bit_and, bit_not _ hi, show bit (0 : Word) i = false by simp [bit]]
    cases hm : bit mask i
    · rw [h i hi hm]
      rfl
    · simp

/-- The modes that the model refuses, by their bits (D1, D5, D22). -/
theorem msrRefusal_eq_none_iff (msr : Word) :
    msrRefusal msr = none ↔ bit msr 31 = false ∧ bit msr 15 = false ∧ bit msr 26 = false ∧ bit msr 27 = false ∧
      bit msr 13 = false := by
  unfold msrRefusal
  cases bit msr 31 <;> cases bit msr 15 <;> cases bit msr 26 <;> cases bit msr 27 <;> cases bit msr 13 <;> simp

/-- MSR after exception entry, bit by bit (60_exceptions.md R510 (3)). -/
theorem bit_entryMsr (msr : Word) (k : ExceptionKind) {i : Nat} (hi : i < 32) :
    bit (entryMsr msr k) i =
      if i = 31 then bit msr 15
      else if k = .machineCheck ∧ i = 19 then false
      else bit msr i && !bit clearedMsrBits i := by
  unfold entryMsr
  rw [bit_writeBit _ (by omega) hi]
  by_cases hk : k = .machineCheck
  · simp only [hk, if_true, true_and, bit_writeBit _ (show 19 < 32 by omega) hi, bit_and, bit_not _ hi]
  · simp only [hk, if_false, false_and, bit_and, bit_not _ hi]

/-- FPSCR with its summary bits recomputed, bit by bit (10_state.md R32, R33). -/
theorem bit_fpDerive (f : Word) {i : Nat} (hi : i < 32) :
    bit (fpDerive f) i = if i = 1 then fpFex f else if i = 2 then fpVx f else if i = 20 then false else bit f i := by
  unfold fpDerive
  rw [bit_writeBit _ (by omega) hi, bit_writeBit _ (by omega) hi, bit_writeBit _ (by omega) hi]

theorem bit_fpDerive_other (f : Word) {i : Nat} (hi : i < 32) (h : i ∉ [1, 2, 20]) :
    bit (fpDerive f) i = bit f i := by
  simp only [List.mem_cons, List.not_mem_nil, or_false, not_or] at h
  rw [bit_fpDerive f hi, if_neg h.1, if_neg h.2.1, if_neg h.2.2]

/-- VX depends on none of the bits that are recomputed. -/
theorem fpVx_fpDerive (f : Word) : fpVx (fpDerive f) = fpVx f := by
  have h : fpDerive f &&& fpInvalidBits = f &&& fpInvalidBits := eq_of_bit fun i hi => by
    rw [bit_and, bit_and]
    by_cases hs : i ∈ [1, 2, 20]
    · have hm : ∀ j ∈ [1, 2, 20], bit fpInvalidBits j = false := by decide
      rw [hm i hs, Bool.and_false, Bool.and_false]
    · rw [bit_fpDerive_other f hi hs]
  rw [fpVx, h, fpVx]

theorem fpFex_fpDerive (f : Word) : fpFex (fpDerive f) = fpFex f := by
  have same : ∀ i, i < 32 ∧ i ∉ [1, 2, 20] → bit (fpDerive f) i = bit f i := fun i h => bit_fpDerive_other f h.1 h.2
  rw [fpFex, fpVx_fpDerive, same 24 (by decide), same 3 (by decide), same 25 (by decide), same 4 (by decide),
    same 26 (by decide), same 5 (by decide), same 27 (by decide), same 6 (by decide), same 28 (by decide), fpFex]

/-- The summary bits are right once they are recomputed. -/
theorem fpDerive_fpDerive (f : Word) : fpDerive (fpDerive f) = fpDerive f := by
  refine eq_of_bit fun i hi => ?_
  rw [bit_fpDerive _ hi, fpFex_fpDerive, fpVx_fpDerive, bit_fpDerive f hi]
  by_cases h1 : i = 1 <;> by_cases h2 : i = 2 <;> by_cases h20 : i = 20 <;> simp [h1, h2, h20]

/-! ## The invariant and the updates of the state -/

/-- The invariant speaks of five fields only. -/
theorem State.Inv.frame {s t : State} (h : s.Inv) (hpc : t.pc = s.pc := by rfl) (hmsr : t.msr = s.msr := by rfl)
    (hxer : t.xer = s.xer := by rfl) (hfpscr : t.fpscr = s.fpscr := by rfl) (hmem : t.mem = s.mem := by rfl) : t.Inv := by
  unfold State.Inv at h ⊢
  rwa [hpc, hmsr, hxer, hfpscr, hmem]

theorem State.Inv.withPc {s : State} (h : s.Inv) {pc : Word} (hpc : pc &&& 3 = 0) : State.Inv { s with pc := pc } :=
  ⟨hpc, h.2⟩

theorem State.Inv.withMsr {s : State} (h : s.Inv) {msr : Word} (hdef : msr &&& ~~~definedMsrBits = 0)
    (hmode : msrRefusal msr = none) : State.Inv { s with msr := msr } :=
  let ⟨hpc, _, _, hrest⟩ := h
  ⟨hpc, hdef, hmode, hrest⟩

theorem State.Inv.withXer {s : State} (h : s.Inv) {xer : Word} (hxer : xer &&& ~~~xerBits = 0) :
    State.Inv { s with xer := xer } :=
  let ⟨hpc, hdef, hmode, _, hrest⟩ := h
  ⟨hpc, hdef, hmode, hxer, hrest⟩

theorem State.Inv.withFpscr {s : State} (h : s.Inv) (f : Word) : State.Inv { s with fpscr := fpDerive f } :=
  let ⟨hpc, hdef, hmode, hxer, _, hmem⟩ := h
  ⟨hpc, hdef, hmode, hxer, fpDerive_fpDerive f, hmem⟩

theorem State.Inv.withMem {s t : State} (h : s.Inv) (hmem : Memory.wf t.mem = true) (hpc : t.pc = s.pc := by rfl)
    (hmsr : t.msr = s.msr := by rfl) (hxer : t.xer = s.xer := by rfl) (hfpscr : t.fpscr = s.fpscr := by rfl) : t.Inv := by
  unfold State.Inv at h ⊢
  rw [hpc, hmsr, hxer, hfpscr]
  exact let ⟨h1, h2, h3, h4, h5, _⟩ := h; ⟨h1, h2, h3, h4, h5, hmem⟩

theorem State.Inv.pc_aligned {s : State} (h : s.Inv) : s.pc &&& 3 = 0 := h.1
theorem State.Inv.msr_defined {s : State} (h : s.Inv) : s.msr &&& ~~~definedMsrBits = 0 := let ⟨_, hd, _⟩ := h; hd
theorem State.Inv.msr_mode {s : State} (h : s.Inv) : msrRefusal s.msr = none := let ⟨_, _, hm, _⟩ := h; hm
theorem State.Inv.xer_bits {s : State} (h : s.Inv) : s.xer &&& ~~~xerBits = 0 := let ⟨_, _, _, hx, _⟩ := h; hx
theorem State.Inv.mem_wf {s : State} (h : s.Inv) : Memory.wf s.mem = true := let ⟨_, _, _, _, _, hm⟩ := h; hm

theorem State.Inv.advance {s : State} (h : s.Inv) : s.advance.Inv := h.withPc (add_four_and_three h.pc_aligned)

theorem State.Inv.goto {s : State} (h : s.Inv) (a : Word) : (s.goto a).Inv := h.withPc (wordAligned_and_three a)

theorem State.Inv.setR {s : State} (h : s.Inv) (i : BitVec 5) (v : Word) : (s.setR i v).Inv := h.frame

theorem State.Inv.setF {s : State} (h : s.Inv) (i : BitVec 5) (v : Dword) : (s.setF i v).Inv := h.frame

theorem State.Inv.setCrField {s : State} (h : s.Inv) (n : BitVec 3) (v : BitVec 4) : (s.setCrField n v).Inv := h.frame

theorem State.Inv.drawn {s : State} (h : s.Inv) (k : Nat) : (s.drawn k).Inv := h.frame

theorem State.Inv.update {s : State} (h : s.Inv) (base : Option (BitVec 5)) (ea : Word) : (s.update base ea).Inv := by
  cases base with
  | none => exact h
  | some a => exact h.setR a ea

theorem State.Inv.recordCr1 {s : State} (h : s.Inv) (rc : Bool) : (s.recordCr1 rc).Inv := by
  cases rc
  · exact h
  · exact h.frame

/-- Exception entry keeps the invariant: the handler's MSR has no bit that was not defined, and no refused mode because ILE
was 0 (60_exceptions.md R510). -/
theorem State.Inv.takeException {s : State} (h : s.Inv) (k : ExceptionKind) (resume info : Word) :
    (takeException k resume info s).Inv := by
  have hmsr : entryMsr s.msr k &&& ~~~definedMsrBits = 0 := by
    rw [and_not_eq_zero_iff]
    intro i hi hd
    have hne : i ≠ 31 := by
      rintro rfl
      exact absurd hd (by decide)
    rw [bit_entryMsr _ _ hi, if_neg hne, (and_not_eq_zero_iff _ _).mp h.msr_defined i hi hd]
    split <;> rfl
  have hmode : msrRefusal (entryMsr s.msr k) = none := by
    obtain ⟨_, h15, _⟩ := (msrRefusal_eq_none_iff _).mp h.msr_mode
    rw [msrRefusal_eq_none_iff, bit_entryMsr _ _ (by omega), bit_entryMsr _ _ (by omega), bit_entryMsr _ _ (by omega),
      bit_entryMsr _ _ (by omega), bit_entryMsr _ _ (by omega), h15, show bit clearedMsrBits 26 = true by decide,
      show bit clearedMsrBits 27 = true by decide, show bit clearedMsrBits 13 = true by decide]
    simp
  exact ((h.withMsr hmsr hmode).withPc (vectorAddress_and_three s.msr k)).frame

/-- XER keeps its reserved bits at 0 where CA and OV are written. -/
theorem State.Inv.writeArith {s : State} (h : s.Inv) (d : BitVec 5) (res : Word) (ca ov : Option Bool) (rc : Bool) :
    (s.writeArith d res ca ov rc).Inv := by
  have hx : (s.writeArith d res ca ov rc).xer &&& ~~~xerBits = 0 := by
    rw [and_not_eq_zero_iff]
    intro i hi hr
    obtain ⟨_, _, _, _, _, _, kept, _⟩ := s.writeArith_effect d res ca ov rc
    have h3 : 3 ≤ i := by
      have low : ∀ j, j < 3 → bit xerBits j = true := by decide
      by_contra hlt
      rw [low i (by omega)] at hr
      cases hr
    exact (kept i h3 (by omega)).trans ((and_not_eq_zero_iff _ _).mp h.xer_bits i hi hr)
  cases rc <;> exact (h.withXer hx).frame

theorem State.Inv.signalNow {s : State} (h : s.Inv) : s.signalNow.Inv :=
  h.frame (by simp) (by simp) (by simp) (by simp) (by simp)

/-- Writing a special-purpose register keeps the invariant: XER takes only the bits that exist. -/
theorem State.Inv.writeSpr {s t : State} (h : s.Inv) {v : Word} {reg : Spr} (ht : s.writeSpr v reg = some t) : t.Inv := by
  cases reg <;> simp only [State.writeSpr, Option.some.injEq, reduceCtorEq] at ht <;> subst ht
  case xer =>
    refine h.withXer ?_
    rw [BitVec.and_assoc, BitVec.and_not_self]
    exact BitVec.and_zero
  case mmcr0 => exact State.Inv.signalNow h.frame
  case pmc1 => exact State.Inv.signalNow h.frame
  case pmc2 => exact State.Inv.signalNow h.frame
  all_goals exact h.frame

/-! ## Outcomes that keep the invariant -/

/-- Every next state of the outcome meets the invariant. -/
def KeepsInv (r : Result) : Prop := ∀ t, r = .next t → t.Inv

theorem KeepsInv.next {t : State} (h : t.Inv) : KeepsInv (.next t) := by
  rintro _ ⟨⟩
  exact h

theorem KeepsInv.refused (why : Refusal) : KeepsInv (.refused why) := by
  rintro _ ⟨⟩

theorem KeepsInv.fault (why : Fault) : KeepsInv (.fault why) := by
  rintro _ ⟨⟩

/-- An instruction goes on after an access that is done; one that stops is its whole outcome. -/
def Access.andThen {α : Type} (a : Access α) (k : α → State → Result) : Result :=
  match a with
  | .stop r => r
  | .done v s => k v s

/-- A further access follows one that is done. -/
def Access.bind {α β : Type} (a : Access α) (k : α → State → Access β) : Access β :=
  match a with
  | .stop r => .stop r
  | .done v s => k v s

/-- The state after an access meets the invariant, and so does that of an exception it takes. -/
inductive Access.KeepsInv {α : Type} : Access α → Prop where
  | done (v : α) {t : State} (h : t.Inv) : Access.KeepsInv (.done v t)
  | stop {r : Result} (h : Sys2Proof.Machine.KeepsInv r) : Access.KeepsInv (.stop r)

theorem Access.KeepsInv.andThen {α : Type} {a : Access α} (ha : a.KeepsInv) {k : α → State → Result}
    (hk : ∀ v t, t.Inv → Sys2Proof.Machine.KeepsInv (k v t)) : Sys2Proof.Machine.KeepsInv (a.andThen k) := by
  cases ha with
  | done v ht => exact hk v _ ht
  | stop hr => exact hr

theorem Access.KeepsInv.bind {α β : Type} {a : Access α} (ha : a.KeepsInv) {k : α → State → Access β}
    (hk : ∀ v t, t.Inv → (k v t).KeepsInv) : (a.bind k).KeepsInv := by
  cases ha with
  | done v ht => exact hk v _ ht
  | stop hr => exact .stop hr

/-! ### The shared operations as sequences of accesses -/

theorem readSplit_succ (ea : Word) (n : Nat) (s : State) :
    readSplit ea (n + 1) s =
      (readSpan ea 1 s).bind fun b t => (readSplit (ea + 1) n t).bind fun bs u => .done (b ++ bs) u := by
  rw [readSplit]
  cases readSpan ea 1 s with
  | stop r => rfl
  | done b t =>
    dsimp only [Access.bind]
    cases readSplit (ea + 1) n t <;> rfl

theorem writeSplit_cons (ea : Word) (b : Byte) (rest : List Byte) (s : State) :
    writeSplit ea (b :: rest) s = (writeSpan ea [b] s).bind fun _ t => writeSplit (ea + 1) rest t := by
  rw [writeSplit]
  cases writeSpan ea [b] s <;> rfl

theorem loadInto_eq (insn : Word) (update : Option (BitVec 5)) (d : BitVec 5) (ea : Word) (n : Nat)
    (value : List Byte → Word) (s : State) :
    loadInto insn update d ea n value s =
      (loadData insn update.isSome ea n s).andThen fun bytes t => .next ((t.setR d (value bytes)).update update ea).advance := by
  unfold loadInto
  cases loadData insn update.isSome ea n s <;> rfl

theorem storeFrom_eq (insn : Word) (update : Option (BitVec 5)) (ea : Word) (data : List Byte) (s : State) :
    storeFrom insn update ea data s =
      (storeData insn update.isSome ea data s).andThen fun _ t => .next (t.update update ea).advance := by
  unfold storeFrom
  cases storeData insn update.isSome ea data s <;> rfl

theorem floatLoad_eq (insn : Word) (update : Option (BitVec 5)) (d : BitVec 5) (ea : Word) (n : Nat)
    (value : List Byte → Dword) (s : State) :
    floatLoad insn update d ea n value s = floatOnly s fun s =>
      (loadData insn update.isSome ea n s).andThen fun bytes t => .next ((t.setF d (value bytes)).update update ea).advance := by
  refine congrArg (floatOnly s) (funext fun u => ?_)
  cases loadData insn update.isSome ea n u <;> rfl

theorem floatStore_eq (insn : Word) (update : Option (BitVec 5)) (ea : Word) (data : List Byte) (s : State) :
    floatStore insn update ea data s = floatOnly s fun s =>
      (storeData insn update.isSome ea data s).andThen fun _ t => .next (t.update update ea).advance := by
  refine congrArg (floatOnly s) (funext fun u => ?_)
  cases storeData insn update.isSome ea data u <;> rfl

theorem finishAccess_eq (a : Access Unit) : finishAccess a = a.andThen fun _ t => .next t.advance := by
  cases a <;> rfl

theorem loadRegisters_succ (k : Nat) (d : BitVec 5) (ea : Word) (s : State) :
    loadRegisters (k + 1) d ea s =
      (readSpan ea 4 s).bind fun bytes t => loadRegisters k (nextRegister d) (ea + 4) (t.setR d (wordOf bytes)) := by
  rw [loadRegisters]
  cases readSpan ea 4 s <;> rfl

theorem storeRegisters_succ (k : Nat) (src : BitVec 5) (ea : Word) (s : State) :
    storeRegisters (k + 1) src ea s =
      (writeSpan ea (lowBytes 4 (s.r src)) s).bind fun _ t => storeRegisters k (nextRegister src) (ea + 4) t := by
  rw [storeRegisters]
  cases writeSpan ea (lowBytes 4 (s.r src)) s <;> rfl

theorem loadString_succ (d : BitVec 5) (left k : Nat) (ea : Word) (s : State) :
    loadString d (left + 1) k ea s =
      (readSpan ea 1 s).bind fun bytes t =>
        loadString d left (k + 1) (ea + 1)
          (t.setR (d + BitVec.ofNat 5 (k / 4))
            (putByte (if k % 4 = 0 then 0 else t.r (d + BitVec.ofNat 5 (k / 4))) (k % 4) (bytes.headD 0))) := by
  rw [loadString]
  cases readSpan ea 1 s <;> rfl

theorem storeString_succ (src : BitVec 5) (left k : Nat) (ea : Word) (s : State) :
    storeString src (left + 1) k ea s =
      (writeSpan ea [getByte (s.r (src + BitVec.ofNat 5 (k / 4))) (k % 4)] s).bind fun _ t =>
        storeString src left (k + 1) (ea + 1) t := by
  rw [storeString]
  cases writeSpan ea [getByte (s.r (src + BitVec.ofNat 5 (k / 4))) (k % 4)] s <;> rfl

theorem execLwarx_eq (d a b : BitVec 5) (s : State) :
    execLwarx d a b s = neverSplit (encode (.lwarx d a b)) false (s.eaX a b) s fun s' =>
      (readSpan (s.eaX a b) 4 s').andThen fun bytes t =>
        if kindOf s'.memMap (s.eaX a b) 4 = some .ram then
          .next (State.setR { t with reserve := true, reserveAddr := granule (s.eaX a b) } d (wordOf bytes)).advance
        else .refused .lwarxNotRam := by
  unfold execLwarx
  refine congrArg (neverSplit _ false _ s) (funext fun u => ?_)
  cases readSpan (s.eaX a b) 4 u <;> rfl

theorem storeConditional_eq (src : BitVec 5) (ea : Word) (s : State) :
    storeConditional src ea s =
      (writeSpan ea (lowBytes 4 (s.r src)) s).andThen fun _ t =>
        .next (State.conditionalResult { t with reserve := false } true).advance := by
  unfold storeConditional
  cases writeSpan ea (lowBytes 4 (s.r src)) s <;> rfl

section
variable {s : State} (h : s.Inv)
include h

theorem raise_keepsInv (k : ExceptionKind) (info : Word) : KeepsInv (raise k info s) :=
  .next (h.takeException k s.pc info)

theorem raiseDsi_keepsInv (cause ea : Word) : KeepsInv (raiseDsi cause ea s) :=
  raise_keepsInv (s := { s with dsisr := cause, dar := ea }) h.frame .dsi 0

theorem raiseAlignment_keepsInv (insn : Word) (base : Bool) (ea : Word) : KeepsInv (raiseAlignment insn base ea s) := by
  cases base <;> exact raise_keepsInv (State.Inv.frame h) .alignment 0

theorem supervisorOnly_keepsInv {go : State → Result} (hgo : KeepsInv (go s)) : KeepsInv (supervisorOnly s go) := by
  intro t ht
  rcases supervisorOnly_next ht with ⟨_, rfl⟩ | ⟨_, hn⟩
  · exact h.takeException _ _ _
  · exact hgo t hn

theorem floatOnly_keepsInv {go : State → Result} (hgo : KeepsInv (go s)) : KeepsInv (floatOnly s go) := by
  intro t ht
  rcases floatOnly_next ht with ⟨_, rfl⟩ | ⟨_, hn⟩
  · exact h.takeException _ _ _
  · exact hgo t hn

theorem neverSplit_keepsInv {go : State → Result} (hgo : KeepsInv (go s)) (insn : Word) (base : Bool) (ea : Word) :
    KeepsInv (neverSplit insn base ea s go) := by
  unfold neverSplit
  split
  · exact hgo
  · exact raiseAlignment_keepsInv h insn base ea

/-- An MSR change keeps the invariant where the new value has only defined bits; refused modes have no next state. -/
theorem enterMsr_keepsInv {msr next : Word} (hdef : msr &&& ~~~definedMsrBits = 0) (hpc : next &&& 3 = 0) :
    KeepsInv (enterMsr msr next s) := by
  intro t ht
  obtain ⟨hmode, rfl | rfl⟩ := enterMsr_next ht
  · exact (h.withMsr hdef hmode).withPc hpc
  · exact State.Inv.takeException ((h.withMsr hdef hmode).withPc hpc) _ _ _

/-- The bits that `mtmsr` and `rfi` merge into MSR leave it with defined bits only. -/
theorem merge_msr_defined {mask : Word} (hm : mask &&& ~~~definedMsrBits = 0) (new : Word) :
    merge mask s.msr new &&& ~~~definedMsrBits = 0 := by
  rw [and_not_eq_zero_iff] at hm ⊢
  intro i hi hd
  rw [bit_merge _ _ _ hi, hm i hi hd]
  exact (and_not_eq_zero_iff _ _).mp h.msr_defined i hi hd

theorem finishFloat_keepsInv : KeepsInv (finishFloat s) := by
  rw [finishFloat_eq]
  split
  · exact .next (h.takeException _ _ _)
  · exact .next h.advance

theorem finishFpscrWrite_keepsInv (before : Word) : KeepsInv (finishFpscrWrite before s) := by
  unfold finishFpscrWrite
  split
  · split
    · exact raise_keepsInv h _ _
    · exact .next (h.takeException _ _ _)
  · exact .next h.advance

/-! ### Data accesses -/

theorem readSpan_keepsInv (ea : Word) (n : Nat) : (readSpan ea n s).KeepsInv := by
  cases hr : readSpan ea n s with
  | done bytes t =>
    obtain ⟨_, ⟨_, _, rfl⟩ | ⟨_, _, rfl⟩⟩ := readSpan_done hr
    · exact .done _ h
    · exact .done _ h.frame
  | stop r =>
    obtain ⟨_, rfl⟩ | ⟨_, rfl⟩ := readSpan_stop hr
    · exact .stop (raiseDsi_keepsInv h _ _)
    · exact .stop (.refused _)

theorem State.Inv.storeBytes (a : Word) (data : List Byte) : (s.storeBytes a data).Inv := by
  rw [s.storeBytes_eq a data]
  exact h.withMem (s.storeBytes_wf h.mem_wf a data)

theorem State.Inv.storeRamBytes (a : Word) (data : List Byte) : (s.storeRamBytes a data).Inv := by
  rw [s.storeRamBytes_eq a data]
  exact h.withMem (s.storeRamBytes_wf h.mem_wf a data)

theorem writeSpan_keepsInv (ea : Word) (data : List Byte) : (writeSpan ea data s).KeepsInv := by
  cases hr : writeSpan ea data s with
  | done u t =>
    obtain ⟨_, ⟨_, rfl⟩ | ⟨_, rfl⟩⟩ := writeSpan_done hr
    · exact .done _ (State.Inv.storeBytes h ea data)
    · exact .done _ (State.Inv.storeRamBytes h ea data).frame
  | stop r =>
    obtain ⟨_, rfl⟩ | ⟨_, rfl⟩ := writeSpan_stop hr
    · exact .stop (raiseDsi_keepsInv h _ _)
    · exact .stop (.refused _)

theorem unwatched_keepsInv {α : Type} {go : Access α} (hgo : go.KeepsInv) (store : Bool) (ea : Word) (n : Nat) :
    (unwatched store ea n s go).KeepsInv := by
  unfold unwatched
  split
  · exact .stop (raiseDsi_keepsInv h _ _)
  · exact hgo

theorem readSplit_keepsInv (ea : Word) (n : Nat) : (readSplit ea n s).KeepsInv := by
  induction n generalizing ea s with
  | zero => exact .done _ h
  | succ n ih =>
    rw [readSplit_succ]
    exact (readSpan_keepsInv h ea 1).bind fun b t ht => (ih ht (ea + 1)).bind fun bs u hu => .done _ hu

theorem writeSplit_keepsInv (ea : Word) (data : List Byte) : (writeSplit ea data s).KeepsInv := by
  induction data generalizing ea s with
  | nil => exact .done _ h
  | cons b rest ih =>
    rw [writeSplit_cons]
    exact (writeSpan_keepsInv h ea [b]).bind fun _ t ht => ih ht (ea + 1)

theorem loadData_keepsInv (insn : Word) (base : Bool) (ea : Word) (n : Nat) : (loadData insn base ea n s).KeepsInv := by
  unfold loadData
  split
  · exact readSpan_keepsInv h ea n
  · split
    · exact .stop (raiseAlignment_keepsInv h insn base ea)
    · exact unwatched_keepsInv h (readSplit_keepsInv h ea n) _ _ _

theorem storeData_keepsInv (insn : Word) (base : Bool) (ea : Word) (data : List Byte) :
    (storeData insn base ea data s).KeepsInv := by
  unfold storeData
  split
  · exact writeSpan_keepsInv h ea data
  · split
    · exact .stop (raiseAlignment_keepsInv h insn base ea)
    · exact unwatched_keepsInv h (writeSplit_keepsInv h ea data) _ _ _

theorem loadInto_keepsInv (insn : Word) (update : Option (BitVec 5)) (d : BitVec 5) (ea : Word) (n : Nat)
    (value : List Byte → Word) : KeepsInv (loadInto insn update d ea n value s) := by
  rw [loadInto_eq]
  exact (loadData_keepsInv h _ _ _ _).andThen fun bytes t ht => .next ((ht.setR _ _).update _ _).advance

theorem storeFrom_keepsInv (insn : Word) (update : Option (BitVec 5)) (ea : Word) (data : List Byte) :
    KeepsInv (storeFrom insn update ea data s) := by
  rw [storeFrom_eq]
  exact (storeData_keepsInv h _ _ _ _).andThen fun _ t ht => .next (ht.update _ _).advance

theorem floatLoad_keepsInv (insn : Word) (update : Option (BitVec 5)) (d : BitVec 5) (ea : Word) (n : Nat)
    (value : List Byte → Dword) : KeepsInv (floatLoad insn update d ea n value s) := by
  rw [floatLoad_eq]
  exact floatOnly_keepsInv h
    ((loadData_keepsInv h _ _ _ _).andThen fun bytes t ht => .next ((ht.setF _ _).update _ _).advance)

theorem floatStore_keepsInv (insn : Word) (update : Option (BitVec 5)) (ea : Word) (data : List Byte) :
    KeepsInv (floatStore insn update ea data s) := by
  rw [floatStore_eq]
  exact floatOnly_keepsInv h ((storeData_keepsInv h _ _ _ _).andThen fun _ t ht => .next (ht.update _ _).advance)

theorem State.Inv.drawnForSingle (v : Dword) : (drawnForSingle s v).Inv := by
  unfold Machine.drawnForSingle
  split
  · exact h
  · exact h.drawn 1

theorem storeSingle_keepsInv (insn : Word) (update : Option (BitVec 5)) (ea : Word) (v : Dword) :
    KeepsInv (storeSingle insn update ea v s) :=
  floatOnly_keepsInv h (floatStore_keepsInv (State.Inv.drawnForSingle h v) _ _ _ _)

omit h in
theorem finishAccess_keepsInv {a : Access Unit} (ha : a.KeepsInv) : KeepsInv (finishAccess a) := by
  rw [finishAccess_eq]
  exact ha.andThen fun _ t ht => .next ht.advance

theorem loadRegisters_keepsInv (count : Nat) (d : BitVec 5) (ea : Word) : (loadRegisters count d ea s).KeepsInv := by
  induction count generalizing d ea s with
  | zero => exact .done _ h
  | succ k ih =>
    rw [loadRegisters_succ]
    exact (readSpan_keepsInv h ea 4).bind fun bytes t ht => ih (ht.setR _ _) _ _

theorem storeRegisters_keepsInv (count : Nat) (src : BitVec 5) (ea : Word) :
    (storeRegisters count src ea s).KeepsInv := by
  induction count generalizing src ea s with
  | zero => exact .done _ h
  | succ k ih =>
    rw [storeRegisters_succ]
    exact (writeSpan_keepsInv h ea _).bind fun _ t ht => ih ht _ _

theorem loadString_keepsInv (d : BitVec 5) (left k : Nat) (ea : Word) : (loadString d left k ea s).KeepsInv := by
  induction left generalizing k ea s with
  | zero => exact .done _ h
  | succ left ih =>
    rw [loadString_succ]
    exact (readSpan_keepsInv h ea 1).bind fun bytes t ht => ih (ht.setR _ _) _ _

theorem storeString_keepsInv (src : BitVec 5) (left k : Nat) (ea : Word) : (storeString src left k ea s).KeepsInv := by
  induction left generalizing k ea s with
  | zero => exact .done _ h
  | succ left ih =>
    rw [storeString_succ]
    exact (writeSpan_keepsInv h ea _).bind fun _ t ht => ih ht _ _

/-! ### Instructions -/

theorem arith_keepsInv (d : BitVec 5) (res : Word) (ca ov : Option Bool) (rc : Bool) : KeepsInv (arith s d res ca ov rc) :=
  .next (h.writeArith d res ca ov rc).advance

theorem undefinedQuotient_keepsInv (d : BitVec 5) (oe rc : Bool) : KeepsInv (undefinedQuotient s d oe rc) := by
  have ht := (h.drawn 2).writeArith d (s.fresh 32) none (if oe then some true else none) false
  unfold undefinedQuotient
  refine .next (State.Inv.advance ?_)
  split
  · exact ht.setCrField _ _
  · exact ht

theorem execDivwx_keepsInv (d a b : BitVec 5) (oe rc : Bool) : KeepsInv (execDivwx d a b oe rc s) := by
  unfold execDivwx
  split
  · exact undefinedQuotient_keepsInv h d oe rc
  · exact arith_keepsInv h _ _ _ _ _

theorem execDivwux_keepsInv (d a b : BitVec 5) (oe rc : Bool) : KeepsInv (execDivwux d a b oe rc s) := by
  unfold execDivwux
  split
  · exact undefinedQuotient_keepsInv h d oe rc
  · exact arith_keepsInv h _ _ _ _ _

theorem branchTo_keepsInv (lk taken : Bool) (target : Word) : KeepsInv (branchTo s lk taken target) := by
  have hl : (s.link lk).Inv := by
    cases lk
    · exact h
    · exact h.frame
  cases taken
  · exact .next hl.advance
  · exact .next (hl.goto target)

theorem trapIf_keepsInv (holds : Bool) : KeepsInv (trapIf s holds) := by
  cases holds
  · exact .next h.advance
  · exact raise_keepsInv h _ _

/-- An instruction that ends with the next one after changing none of the five fields the invariant speaks of. -/
theorem advance_keepsInv {t : State} (hpc : t.pc = s.pc := by rfl) (hmsr : t.msr = s.msr := by rfl)
    (hxer : t.xer = s.xer := by rfl) (hfpscr : t.fpscr = s.fpscr := by rfl) (hmem : t.mem = s.mem := by rfl) :
    KeepsInv (.next t.advance) :=
  .next (h.frame hpc hmsr hxer hfpscr hmem).advance

omit h in
theorem insideMap_keepsInv {go : State → Result} (hgo : KeepsInv (go s)) (ea : Word) : KeepsInv (insideMap ea s go) := by
  unfold insideMap
  split
  · exact hgo
  · exact .refused _

theorem externalControl_keepsInv {go : State → Result} (hgo : KeepsInv (go s)) (insn : Word) (store : Bool) (ea : Word) :
    KeepsInv (externalControl insn store ea s go) := by
  refine neverSplit_keepsInv h ?_ _ _ _
  split
  · exact hgo
  · exact raiseDsi_keepsInv h _ _

theorem State.Inv.applyFloat (d : BitVec 5) (o : FpOutcome) (rc : Bool) : (s.applyFloat d o rc).Inv := by
  have hv : ∀ t : State, t.Inv → (State.recordCr1 { t with fpscr := fpUpdate t.fpscr o } rc).Inv := fun t ht =>
    State.Inv.recordCr1 (ht.withFpscr _) rc
  unfold State.applyFloat
  cases o.value with
  | none => exact hv s h
  | some v => exact hv (s.setF d v) (h.setF d v)

theorem floatArith_keepsInv (single : Bool) (d : BitVec 5) (operands : List Dword) (rc : Bool)
    (compute : FpControl → FpOutcome) : KeepsInv (floatArith s single d operands rc compute) :=
  floatOnly_keepsInv h (finishFloat_keepsInv ((State.Inv.applyFloat h _ _ _).drawn _))

theorem floatConvert_keepsInv (d b : BitVec 5) (rn : Word → BitVec 2) (rc : Bool) : KeepsInv (floatConvert s d b rn rc) :=
  floatOnly_keepsInv h (finishFloat_keepsInv ((State.Inv.applyFloat h _ _ _).drawn _))

theorem floatCompare_keepsInv (crfD : BitVec 3) (a b : BitVec 5) (raised : Word → Word) :
    KeepsInv (floatCompare s crfD a b raised) :=
  floatOnly_keepsInv h (finishFloat_keepsInv (State.Inv.frame (h.withFpscr _)))

theorem floatMove_keepsInv (d : BitVec 5) (v : Dword) (rc : Bool) : KeepsInv (floatMove s d v rc) :=
  floatOnly_keepsInv h (.next ((h.setF d v).recordCr1 rc).advance)

theorem execLwarx_keepsInv (d a b : BitVec 5) : KeepsInv (execLwarx d a b s) := by
  rw [execLwarx_eq]
  refine neverSplit_keepsInv h ((readSpan_keepsInv h _ _).andThen fun bytes t ht => ?_) _ _ _
  split
  · exact .next (State.Inv.advance (State.Inv.frame ht))
  · exact .refused _

theorem storeConditional_keepsInv (src : BitVec 5) (ea : Word) : KeepsInv (storeConditional src ea s) := by
  rw [storeConditional_eq]
  exact (writeSpan_keepsInv h _ _).andThen fun _ t ht => .next (State.Inv.advance (State.Inv.frame ht))

theorem failConditional_keepsInv : KeepsInv (failConditional s) := .next (State.Inv.advance (State.Inv.frame h))

theorem execStwcxRc_keepsInv (src a b : BitVec 5) : KeepsInv (execStwcxRc src a b s) := by
  unfold execStwcxRc
  refine neverSplit_keepsInv h ?_ _ _ _
  split
  · exact failConditional_keepsInv h
  · split
    · exact storeConditional_keepsInv h _ _
    · split
      · exact storeConditional_keepsInv (h.drawn 1) _ _
      · exact failConditional_keepsInv (h.drawn 1)

theorem execDcbz_keepsInv (a b : BitVec 5) : KeepsInv (execDcbz a b s) := by
  unfold execDcbz
  dsimp only
  split
  · exact raiseAlignment_keepsInv h _ _ _
  · split
    · exact raiseDsi_keepsInv h _ _
    · split
      · exact .refused _
      · exact .next (State.Inv.storeBytes h _ _).advance

theorem execLswx_keepsInv (d a b : BitVec 5) : KeepsInv (execLswx d a b s) := by
  unfold execLswx
  dsimp only
  split
  · exact .refused _
  · split
    · exact advance_keepsInv h
    · exact finishAccess_keepsInv (loadString_keepsInv h _ _ _ _)

theorem sprAccess_keepsInv {go : State → Result} (hgo : KeepsInv (go s)) (n : BitVec 10) : KeepsInv (sprAccess n s go) := by
  unfold sprAccess
  split
  · exact raise_keepsInv h _ _
  · exact hgo

theorem sprMissing_keepsInv : KeepsInv (sprMissing s) := by
  unfold sprMissing
  split
  · exact raise_keepsInv h _ _
  · exact .refused _

theorem execMfspr_keepsInv (d : BitVec 5) (n : BitVec 10) : KeepsInv (execMfspr d n s) := by
  refine sprAccess_keepsInv h ?_ n
  split
  · exact advance_keepsInv h
  · exact sprMissing_keepsInv h

theorem execMtspr_keepsInv (src : BitVec 5) (n : BitVec 10) : KeepsInv (execMtspr src n s) := by
  refine sprAccess_keepsInv h ?_ n
  split
  · exact sprMissing_keepsInv h
  · split
    · rename_i t ht
      exact .next (h.writeSpr ht).advance
    · exact .refused _

theorem execMftb_keepsInv (d : BitVec 5) (tbr : BitVec 10) : KeepsInv (execMftb d tbr s) := by
  unfold execMftb
  split
  · exact advance_keepsInv h
  · split
    · exact advance_keepsInv h
    · exact raise_keepsInv h _ _

theorem execMcrxr_keepsInv (crfD : BitVec 3) : KeepsInv (execMcrxr crfD s) := by
  have hx : s.xer &&& ~~~(fieldMask 3 4) &&& ~~~xerBits = 0 := by
    rw [BitVec.and_assoc, BitVec.and_comm (~~~(fieldMask 3 4)), ← BitVec.and_assoc, h.xer_bits]
    exact BitVec.zero_and
  exact .next (State.Inv.advance (State.Inv.frame (h.withXer hx)))

/-- No instruction leaves the invariant, whatever it does: each ends in one of the shared operations above. -/
theorem exec_keepsInv (i : Instr) : KeepsInv (exec i s) := by
  cases i with
  | addi | addis | addic | addic_rc | subfic | mulli | addx | addcx | addex | addmex | addzex | subfx | subfcx | subfex
  | subfmex | subfzex | negx | mullwx | mulhwx | mulhwux => exact arith_keepsInv h _ _ _ _ _
  | divwx => exact execDivwx_keepsInv h _ _ _ _ _
  | divwux => exact execDivwux_keepsInv h _ _ _ _ _
  | cmpi | cmp | cmpli | cmpl => exact advance_keepsInv h
  | andi_rc | andis_rc | ori | oris | xori | xoris | andx | andcx | orx | orcx | xorx | nandx | norx | eqvx | extsbx
  | extshx | cntlzwx | rlwinmx | rlwimix | rlwnmx | slwx | srwx | srawx | srawix =>
    exact .next (h.writeArith _ _ _ _ _).advance
  | faddx | faddsx | fsubx | fsubsx | fdivx | fdivsx | fmulx | fmulsx | fresx | frsqrtex | fmaddx | fmaddsx | fmsubx
  | fmsubsx | fnmaddx | fnmaddsx | fnmsubx | fnmsubsx | frspx => exact floatArith_keepsInv h _ _ _ _ _
  | fctiwx => exact floatConvert_keepsInv h _ _ _ _
  | fctiwzx d b rc => exact floatConvert_keepsInv h d b (fun _ => 1) rc
  | fcmpu crfD a b => exact floatCompare_keepsInv h crfD a b fun _ => unorderedCause (s.f a) (s.f b)
  | fcmpo => exact floatCompare_keepsInv h _ _ _ _
  | fselx | fmrx | fnegx | fabsx | fnabsx => exact floatMove_keepsInv h _ _ _
  | mffsx =>
    apply floatOnly_keepsInv h
    exact .next (((h.setF _ _).recordCr1 _).drawn 1).advance
  | mcrfs =>
    apply floatOnly_keepsInv h
    refine finishFloat_keepsInv ?_
    exact (h.setCrField _ _).withFpscr _
  | mtfsfix | mtfsfx =>
    apply floatOnly_keepsInv h
    refine finishFpscrWrite_keepsInv ?_ _
    exact State.Inv.recordCr1 (h.withFpscr _) _
  | mtfsb0x | mtfsb1x =>
    apply floatOnly_keepsInv h
    refine finishFloat_keepsInv ?_
    exact State.Inv.recordCr1 (h.withFpscr _) _
  | lbz | lbzu | lbzx | lbzux | lhz | lhzu | lhzx | lhzux | lha | lhau | lhax | lhaux | lwz | lwzu | lwzx | lwzux | lhbrx
  | lwbrx => exact loadInto_keepsInv h _ _ _ _ _ _
  | stb | stbu | stbx | stbux | sth | sthu | sthx | sthux | stw | stwu | stwx | stwux | sthbrx | stwbrx =>
    exact storeFrom_keepsInv h _ _ _ _
  | lmw =>
    apply neverSplit_keepsInv h
    exact finishAccess_keepsInv (loadRegisters_keepsInv h _ _ _)
  | stmw =>
    apply neverSplit_keepsInv h
    exact finishAccess_keepsInv (storeRegisters_keepsInv h _ _ _)
  | lswi => exact finishAccess_keepsInv (loadString_keepsInv h _ _ _ _)
  | lswx => exact execLswx_keepsInv h _ _ _
  | stswi | stswx => exact finishAccess_keepsInv (storeString_keepsInv h _ _ _ _)
  | lwarx => exact execLwarx_keepsInv h _ _ _
  | stwcx_rc => exact execStwcxRc_keepsInv h _ _ _
  | sync | eieio | isync | dcbt | dcbtst => exact advance_keepsInv h
  | lfs | lfsu | lfsx | lfsux | lfd | lfdu | lfdx | lfdux => exact floatLoad_keepsInv h _ _ _ _ _ _
  | stfs | stfsu | stfsx | stfsux => exact storeSingle_keepsInv h _ _ _ _
  | stfd | stfdu | stfdx | stfdux | stfiwx => exact floatStore_keepsInv h _ _ _ _
  | bx | bcctrx => exact branchTo_keepsInv h _ _ _
  | bcx | bclrx => exact branchTo_keepsInv (State.Inv.frame h) _ _ _
  | crand | crandc | creqv | crnand | crnor | cror | crorc | crxor | mcrf => exact advance_keepsInv h
  | sc => exact .next (h.takeException _ _ _)
  | rfi =>
    apply supervisorOnly_keepsInv h
    exact enterMsr_keepsInv h (merge_msr_defined h (by decide) _) (wordAligned_and_three _)
  | tw | twi => exact trapIf_keepsInv h _
  | mcrxr => exact execMcrxr_keepsInv h _
  | mfcr | mtcrf => exact advance_keepsInv h
  | mtmsr =>
    apply supervisorOnly_keepsInv h
    exact enterMsr_keepsInv h (merge_msr_defined h (by decide) _) (add_four_and_three h.pc_aligned)
  | mfspr => exact execMfspr_keepsInv h _ _
  | mtspr => exact execMtspr_keepsInv h _ _
  | mftb => exact execMftb_keepsInv h _ _
  | dcbf | dcbst | icbi =>
    apply insideMap_keepsInv
    exact advance_keepsInv h
  | dcbi =>
    apply supervisorOnly_keepsInv h
    apply insideMap_keepsInv
    exact advance_keepsInv h
  | dcbz => exact execDcbz_keepsInv h _ _
  | mfmsr | mfsr | mfsrin | mtsr | mtsrin | tlbie | tlbsync | tlbsync_b31 =>
    apply supervisorOnly_keepsInv h
    exact advance_keepsInv h
  | eciwx | ecowx =>
    apply externalControl_keepsInv h
    exact advance_keepsInv h

end

/-! ## The step keeps the invariant -/

/-- Fetch uses draws and nothing else. -/
theorem fetch_state (s : State) : ∃ n, s.fetch.2 = { s with draws := n } := by
  obtain ⟨_, n, hn⟩ := s.fetchMemory_sees s.pc
  simp only [State.fetch, State.fetchWord, hn]
  split
  · exact ⟨n, rfl⟩
  · exact ⟨n + 1, rfl⟩

theorem noteCompletion_keepsInv (i : Instr) (s : State) {r : Result} (hr : KeepsInv r) :
    KeepsInv (noteCompletion i s r) := by
  cases r with
  | next t =>
    rw [noteCompletion_next]
    exact .next (State.Inv.frame (hr t rfl))
  | fault why => exact .fault why
  | refused why => exact .refused why

theorem traceAfter_keepsInv (msr : Word) (i : Instr) {r : Result} (hr : KeepsInv r) : KeepsInv (traceAfter msr i r) := by
  cases r with
  | next t =>
    unfold traceAfter
    dsimp only
    split
    · exact .next (((hr t rfl).drawn 1).takeException _ _ _)
    · exact hr
  | fault why => exact .fault why
  | refused why => exact .refused why

theorem runFetched_keepsInv {f : Except DecodeError Instr × State} (h : f.2.Inv) : KeepsInv (runFetched f) := by
  obtain ⟨fetched, s⟩ := f
  cases fetched with
  | ok i => exact traceAfter_keepsInv _ i (noteCompletion_keepsInv i s (exec_keepsInv h i))
  | error e =>
    cases e with
    | illegal => exact raise_keepsInv h _ _
    | reservedBits => exact .refused _
    | invalidForm => exact .refused _

theorem fetch_keepsInv {s : State} (h : s.Inv) : s.fetch.2.Inv := by
  obtain ⟨n, hn⟩ := fetch_state s
  rw [hn]
  exact h.frame

theorem runInstruction_keepsInv {s : State} (h : s.Inv) : KeepsInv (runInstruction s) := by
  unfold runInstruction
  split
  · exact .refused _
  · exact runFetched_keepsInv (fetch_keepsInv h.frame)
  · exact runFetched_keepsInv (fetch_keepsInv h)

/-- Whatever waits at an instruction boundary keeps the invariant when it is taken. -/
theorem pendingException_keepsInv {s u : State} (h : s.Inv) (hu : pendingException s = some u) : u.Inv := by
  have entered : ∀ (k : ExceptionKind) (info : Word) (v : State), v.Inv → some (takeException k s.pc info v) = some u →
      u.Inv := fun k info v hv e => Option.some.inj e ▸ hv.takeException k s.pc info
  unfold pendingException at hu
  split at hu
  · split at hu
    · exact entered _ _ _ (State.Inv.frame h) hu
    · exact Option.some.inj hu ▸ h.frame
  · split at hu
    · exact entered _ _ _ (State.Inv.frame h) hu
    split at hu
    · exact entered _ _ _ h hu
    split at hu
    · cases hu
    split at hu
    · exact entered _ _ _ h hu
    split at hu
    · exact entered _ _ _ h hu
    split at hu
    · exact entered _ _ _ (State.Inv.frame h) hu
    split at hu
    · exact entered _ _ _ (State.Inv.frame h) hu
    · cases hu

theorem processorStep_keepsInv {s : State} (h : s.Inv) : KeepsInv (processorStep s) := by
  unfold processorStep
  split
  · exact .refused _
  · split
    · rename_i u hu
      exact .next (pendingException_keepsInv h hu)
    · exact runInstruction_keepsInv h

theorem State.Inv.timerTick {s : State} (h : s.Inv) : s.timerTick.Inv := by
  unfold State.timerTick
  split
  · exact h.frame
  · exact h

theorem State.Inv.monitorCycle {s : State} (h : s.Inv) (o : MonitorCycle) : (s.monitorCycle o).Inv := by
  unfold State.monitorCycle
  dsimp only
  split <;> exact h.frame

theorem State.Inv.otherStore {s : State} (h : s.Inv) (a : Word) (data : List Byte) : (s.otherStore a data).Inv := by
  have ht : (s.storeSpan false a data).Inv := by
    rw [s.storeSpan_eq false a data]
    exact h.withMem (s.storeSpan_wf h.mem_wf false a data)
  unfold State.otherStore
  dsimp only
  split
  · exact ht.frame
  · exact ht

theorem State.Inv.machineCheckCause {s : State} (h : s.Inv) (source : MachineCheckSource) :
    (s.machineCheckCause source).Inv := by
  unfold State.machineCheckCause
  split
  · exact h
  · split <;> exact h.frame

/-- The state that HRESET leaves meets the invariant, whatever values the unspecified registers take. -/
theorem State.Inv.hardReset {s : State} (h : s.Inv) : s.hardReset.Inv := by
  unfold State.hardReset State.Inv
  dsimp only
  refine ⟨by decide, by decide, by decide, ?_, fpDerive_fpDerive _, h.mem_wf⟩
  rw [BitVec.and_assoc, BitVec.and_not_self]
  exact BitVec.and_zero

theorem State.Inv.whenClocked {s t : State} (h : s.Inv) (ht : t.Inv) : (s.whenClocked t).Inv := by
  unfold State.whenClocked
  split
  · exact ht
  · exact h

theorem State.Inv.applyEvent {s : State} (h : s.Inv) (e : EnvStep) : (applyEvent e s).Inv := by
  cases e with
  | processor => exact h
  | timerTick => exact h.whenClocked h.timerTick
  | monitorCycle o => exact h.whenClocked (h.monitorCycle o)
  | otherStore a data => exact h.otherStore a data
  | otherKill a =>
    unfold Machine.applyEvent State.otherKill
    dsimp only
    split
    · exact h.frame
    · exact h
  | codePublished | intPin | smiPin | tbenPin => exact h.frame
  | reservationLost | sreset | checkstopIn => exact h.whenClocked h.frame
  | hresetPin asserted =>
    cases asserted with
    | true => exact h.frame
    | false =>
      unfold Machine.applyEvent
      dsimp only
      split
      · exact h.hardReset
      · exact h
  | machineCheck source => exact h.whenClocked (h.machineCheckCause source)

/-- One step of the machine keeps the invariant, whichever agent steps. -/
theorem machineStep_keepsInv {s : State} (h : s.Inv) : KeepsInv (machineStep s) := by
  unfold machineStep
  split
  · unfold soleStep
    split
    · exact .fault _
    · split
      · exact .fault _
      · exact processorStep_keepsInv h.frame
  · split
    · exact processorStep_keepsInv h.frame
    · exact .next h.frame
  · exact .next (State.Inv.applyEvent (State.Inv.frame h) _)

/-- Settles O6: the invariant is kept by each agent's step, an instruction's by the shared operation it ends in. -/
theorem stepKeepsInvariant : Obligations.StepKeepsInvariant := fun _ t h ht => machineStep_keepsInv h t ht

/-- Settles O7, by evaluating the reset state. -/
theorem resetMeetsInvariant : Obligations.ResetMeetsInvariant := by
  unfold Obligations.ResetMeetsInvariant State.Inv
  decide

end Sys2Proof.Machine
end

section
namespace Sys2Proof.Machine

theorem Completes.of_next {r : Result} {t : State} {P : State → Prop} (hr : r = .next t) (hp : P t) : Completes r P :=
  ⟨t, hr, hp⟩

/-! ## The steps of the agents other than the processor -/

/-- Every agent but the processor steps by its event (70_reset_and_hazards.md R605). -/
theorem step_event {s : State} {e : EnvStep} {rest : List EnvStep} (h : s.schedule = e :: rest) (he : e ≠ .processor) :
    step s = .next (applyEvent e { s with taken := none, schedule := rest }) := by
  unfold step machineStep
  rw [h]
  cases e with
  | processor => exact absurd rfl he
  | _ => rfl

/-- What the core's clocks drive happens outside checkstop and not in it (R520). -/
theorem State.whenClocked_eq (s t : State) : s.whenClocked t = if s.checkstop then s else t := by
  unfold State.whenClocked State.clocked
  cases s.checkstop <;> rfl

/-- A scheduled turn of the processor changes nothing where the processor executes nothing (R520, R580). -/
theorem step_processor_idle {s : State} {rest : List EnvStep} (h : s.schedule = .processor :: rest)
    (hidle : s.checkstop = true ∨ s.hresetPin = true) :
    step s = .next { s with schedule := rest, taken := none } := by
  have hex : s.executing = false := by
    rcases hidle with hc | hp <;> simp [State.executing, State.clocked, *]
  unfold step machineStep
  rw [h]
  simp [hex]

theorem step_sole {s : State} (h : s.schedule = []) : step s = soleStep { s with taken := none } := by
  unfold step machineStep
  rw [h]

/-! ### HRESET -/

theorem applyEvent_hresetPin_negated {s : State} (h : s.hresetPin = true) :
    applyEvent (.hresetPin false) s = s.hardReset := if_pos h

theorem State.hardReset_byteAt (s : State) (a : Word) : s.hardReset.byteAt a = s.byteAt a := by
  simp only [State.byteAt, State.hardReset]

/-- Settles O8: the negation of HRESET is `State.hardReset`, whose fields are read off. -/
theorem hardResetLeavesStatedValues : Obligations.HardResetLeavesStatedValues := by
  refine ⟨by decide, fun s rest hpin hs => .of_next (step_event hs (by simp)) ?_⟩
  rw [applyEvent_hresetPin_negated (by exact hpin)]
  have hmem : MemoryKept s (State.hardReset { s with taken := none, schedule := rest }) := fun a =>
    State.hardReset_byteAt _ a
  simp only [State.hardReset, and_true, true_and]
  exact hmem

/-! ### Checkstop and the pins -/

theorem step_sole_checkstop {s : State} (h : s.schedule = []) (hc : s.checkstop = true) : step s = .fault .checkstop := by
  simp [step_sole h, soleStep, hc]

theorem step_sole_hreset {s : State} (h : s.schedule = []) (hc : s.checkstop = false) (hp : s.hresetPin = true) :
    step s = .fault .heldInReset := by
  simp [step_sole h, soleStep, hc, hp]

/-- An event that the core's clocks drive changes nothing in checkstop. -/
theorem step_clocked_stopped {s : State} {e : EnvStep} {rest : List EnvStep} {f : State → State}
    (h : s.schedule = e :: rest) (he : e ≠ .processor) (hf : ∀ u, applyEvent e u = u.whenClocked (f u))
    (hc : s.checkstop = true) : step s = .next { s with schedule := rest, taken := none } := by
  rw [step_event h he, hf, State.whenClocked_eq, if_pos (by exact hc)]

/-- Outside checkstop it happens, HRESET asserted or not. -/
theorem step_clocked_running {s : State} {e : EnvStep} {rest : List EnvStep} {f : State → State}
    (h : s.schedule = e :: rest) (he : e ≠ .processor) (hf : ∀ u, applyEvent e u = u.whenClocked (f u))
    (hc : s.checkstop = false) : step s = .next (f { s with taken := none, schedule := rest }) := by
  rw [step_event h he, hf, State.whenClocked_eq, if_neg (by simp [hc])]

/-- Settles O20: each clause is the event that the schedule names. -/
theorem checkstopAndPinEvents : Obligations.CheckstopAndPinEvents := by
  refine ⟨fun s h => ⟨step_sole_checkstop h, step_sole_hreset h⟩, fun s e rest h => ⟨?idle, ?stopped, ?running, ?_, ?_, ?_, ?_⟩⟩
  case idle =>
    rintro hidle rfl
    exact step_processor_idle h hidle
  case stopped =>
    refine fun hc => ⟨fun he => ?_, fun o he => ?_, fun source he => ?_⟩
    · simp only [List.mem_cons, List.not_mem_nil, or_false] at he
      rcases he with rfl | rfl | rfl | rfl <;> exact step_clocked_stopped h (by simp) (fun _ => rfl) hc
    · subst he
      exact step_clocked_stopped h (by simp) (fun _ => rfl) hc
    · subst he
      exact step_clocked_stopped h (by simp) (fun _ => rfl) hc
  case running =>
    refine fun hc => ⟨?_, ?_, ?_, fun source he => ?_⟩
    · rintro rfl
      exact step_clocked_running (f := fun u => { u with checkstop := true }) h (by simp) (fun _ => rfl) hc
    · rintro rfl
      exact step_clocked_running (f := fun u => { u with sresetPending := true }) h (by simp) (fun _ => rfl) hc
    · rintro rfl
      exact step_clocked_running (f := fun u => { u with reserve := false }) h (by simp) (fun _ => rfl) hc
    · subst he
      exact step_clocked_running (f := fun u => u.machineCheckCause source) h (by simp) (fun _ => rfl) hc
  all_goals
    intros
    subst e
    exact step_event h (by simp)

/-! ### The timers -/

/-- A 64-bit value in the bits that rise: set now and not before. -/
theorem bit_rise {n : Nat} (rose new old : BitVec n) {k : Nat} (hk : k < n) :
    bit (rose ||| (new &&& ~~~old)) k = (bit rose k || (bit new k && !bit old k)) := by
  simp [bit, hk]

/-- Settles O58: a tick runs where TBEN is asserted outside checkstop, and is nothing elsewhere. -/
theorem timerTickCounts : Obligations.TimerTickCounts := by
  intro s rest h
  by_cases hc : s.checkstop = true
  · refine .of_next (step_clocked_stopped (f := State.timerTick) h (by simp) (fun _ => rfl) hc) ?_
    rw [if_neg (by simp [hc])]
  rw [Bool.not_eq_true] at hc
  refine .of_next (step_clocked_running (f := State.timerTick) h (by simp) (fun _ => rfl) hc) ?_
  by_cases hb : s.tbenPin = true
  · rw [if_pos ⟨hb, hc⟩, State.timerTick, if_pos (by exact hb)]
    exact ⟨rfl, rfl, rfl, fun k hk => bit_rise _ _ _ hk, fun _ => rfl, by simp⟩
  · rw [if_neg (fun hn => hb hn.1), State.timerTick, if_neg (by exact hb)]

/-! ### Another bus master -/

theorem granule_eq (a : Word) : granule a = a.extractLsb' 5 27 := by
  unfold granule field
  apply BitVec.eq_of_toNat_eq
  simp [BitVec.toNat_setWidth, BitVec.extractLsb'_toNat]

theorem toNat_granule (a : Word) : (granule a).toNat = a.toNat / 32 := by
  rw [granule_eq, BitVec.extractLsb'_toNat, Nat.shiftRight_eq_div_pow]
  have := a.isLt
  omega

theorem toNat_blockBase (a : Word) : (blockBase a).toNat = a.toNat / 32 * 32 := by
  have hshift : blockBase a = (a >>> 5) <<< 5 := by
    apply BitVec.eq_of_getLsbD_eq
    intro i hi
    have h31 : (31#32).getLsbD i = decide (i < 5) := by
      rw [BitVec.getLsbD_ofNat, show 31 = 2 ^ 5 - 1 from rfl, Nat.testBit_two_pow_sub_one]
      simp [hi]
    simp only [blockBase, Config.cacheBlock, BitVec.getLsbD_and, BitVec.getLsbD_not, BitVec.getLsbD_shiftLeft,
      BitVec.getLsbD_ushiftRight, hi, decide_true, Bool.true_and, h31]
    by_cases h : i < 5
    · simp [h]
    · simp [h, show 5 + (i - 5) = i by omega]
  have := a.isLt
  rw [hshift, BitVec.toNat_shiftLeft, BitVec.toNat_ushiftRight, Nat.shiftRight_eq_div_pow, Nat.shiftLeft_eq]
  omega

/-- A byte lies in the granule of an address exactly where it lies in that address's block. -/
theorem granule_of_mem_block {a b : Word} (h : b ∈ span (blockBase a) 32) : granule b = granule a := by
  obtain ⟨k, hk, rfl⟩ := (mem_span _ _ _).mp h
  apply BitVec.eq_of_toNat_eq
  rw [toNat_granule, toNat_granule, BitVec.toNat_add, toNat_blockBase, BitVec.toNat_ofNat]
  have := a.isLt
  omega

theorem meetsReservation_block (s : State) (a : Word) :
    s.meetsReservation (blockBase a) 32 = (s.reserve && granule a == s.reserveAddr) := by
  have hany : (span (blockBase a) 32).any (fun b => granule b == s.reserveAddr) = (granule a == s.reserveAddr) := by
    rw [Bool.eq_iff_iff, List.any_eq_true]
    constructor
    · rintro ⟨b, hb, hg⟩
      rwa [granule_of_mem_block hb] at hg
    · intro hg
      have hb : blockBase a ∈ span (blockBase a) 32 := (mem_span _ _ _).mpr ⟨0, by omega, by simp⟩
      exact ⟨_, hb, by rwa [granule_of_mem_block hb]⟩
  rw [State.meetsReservation, hany]

theorem State.bytesAt_congr {s t : State} (h : t.mem = s.mem) (a : Word) (n : Nat) : t.bytesAt a n = s.bytesAt a n := by
  rw [State.bytesAt_eq, State.bytesAt_eq]
  exact List.map_congr_left fun x _ => by rw [State.byteAt, h, State.byteAt]

theorem State.bytesAt_getElem (s : State) (a : Word) (n : Nat) {k : Nat} (hk : k < (s.bytesAt a n).length) :
    (s.bytesAt a n)[k] = s.byteAt (a + BitVec.ofNat 32 k) := by
  induction n generalizing a k with
  | zero => exact absurd hk (Nat.not_lt_zero k)
  | succ n ih =>
    cases k with
    | zero => simp [State.bytesAt]
    | succ k =>
      simp only [State.bytesAt, List.getElem_cons_succ, ih]
      rw [BitVec.add_assoc, Nat.add_comm k 1, BitVec.ofNat_add]
      rfl

/-- The bytes stored from an address on are the bytes read from there. -/
theorem State.storeSpan_bytesAt (s : State) (h : Memory.wf s.mem = true) (own : Bool) (a : Word) (data : List Byte)
    (hn : data.length < 2 ^ 32) : (s.storeSpan own a data).bytesAt a data.length = data :=
  List.ext_getElem (by simp) fun k _ hk => by
    rw [State.bytesAt_getElem, State.storeSpan_byteAt_inside s h own a data hn k hk]

/-- Another master's store, outside checkstop: its bytes are stored, and the reservation stays where no byte meets it
(R366). -/
theorem State.otherStore_eq {s : State} (hc : s.checkstop = false) (a : Word) (data : List Byte) :
    s.otherStore a data = { s.storeSpan false a data with
      reserve := s.reserve && !(span a data.length).any fun b => granule b == s.reserveAddr } := by
  have hr : (s.storeSpan false a data).reserve = s.reserve := by rw [s.storeSpan_eq false a data]
  unfold State.otherStore State.meetsReservation State.clocked
  simp only [hc, Bool.not_false, Bool.true_and]
  generalize (span a data.length).any (fun b => granule b == s.reserveAddr) = meets
  generalize s.storeSpan false a data = t at hr ⊢
  cases meets
  · rw [Bool.and_false, if_neg Bool.false_ne_true, Bool.not_false, Bool.and_true, ← hr]
  · cases hs : s.reserve
    · rw [Bool.false_and, if_neg Bool.false_ne_true, Bool.false_and, ← hs, ← hr]
    · rfl

theorem State.otherKill_eq {s : State} (hc : s.checkstop = false) (a : Word) :
    s.otherKill a = { s with reserve := s.reserve && !(granule a == s.reserveAddr) } := by
  have hmeets : (s.clocked && s.meetsReservation (blockBase a) Config.cacheBlock) =
      (s.reserve && (granule a == s.reserveAddr)) := by
    rw [State.clocked, hc, Config.cacheBlock, meetsReservation_block, Bool.not_false, Bool.true_and]
  unfold State.otherKill
  rw [hmeets]
  generalize (granule a == s.reserveAddr) = meets
  cases meets
  · rw [Bool.and_false, if_neg Bool.false_ne_true, Bool.not_false, Bool.and_true]
  · cases hs : s.reserve
    · rw [Bool.false_and, if_neg Bool.false_ne_true, Bool.false_and, ← hs]
    · rfl

/-- What another master's store leaves: its bytes, and the reservation where it was held and no byte lies in its granule. -/
theorem State.otherStore_effect {s : State} (hc : s.checkstop = false) (hwf : Memory.wf s.mem = true) (a : Word)
    {data : List Byte} (hn : data.length < 2 ^ 32) :
    (s.otherStore a data).bytesAt a data.length = data ∧ MemoryKeptOutside s (s.otherStore a data) a data.length ∧
      ((s.otherStore a data).reserve = true ↔
        s.reserve = true ∧ ∀ b ∈ span a data.length, b.extractLsb' 5 27 ≠ s.reserveAddr) ∧
      { s.otherStore a data with mem := s.mem, stale := s.stale, reserve := s.reserve } = s := by
  rw [State.otherStore_eq hc]
  refine ⟨?_, fun x hx => s.storeSpan_byteAt_outside hwf false a x data hx, ?_, ?_⟩
  · refine (State.bytesAt_congr (s := s.storeSpan false a data) ?_ a _).trans ?_
    · rfl
    · exact s.storeSpan_bytesAt hwf false a data hn
  · simp only [granule_eq, Bool.and_eq_true, Bool.not_eq_true', List.any_eq_false, beq_iff_eq, ne_eq]
  · rw [s.storeSpan_eq false a data]

/-- Settles O60, by what `otherStore` and `otherKill` are outside checkstop. -/
theorem otherStoresTakeTheReservation : Obligations.OtherStoresTakeTheReservation := by
  constructor
  · intro s a data rest hc hwf hs hn
    refine .of_next (step_event hs (by simp)) ?_
    obtain ⟨hbytes, hkept, hreserve, hframe⟩ :=
      State.otherStore_effect (s := { s with taken := none, schedule := rest }) hc hwf a hn
    exact ⟨hbytes, hkept, hreserve, congrArg (fun u : State => { u with schedule := s.schedule, taken := s.taken }) hframe⟩
  · intro s a rest hc hs
    refine .of_next (step_event hs (by simp)) ?_
    rw [applyEvent, State.otherKill_eq (by exact hc)]
    exact ⟨by simp [granule_eq], rfl⟩

end Sys2Proof.Machine
end

section
namespace Sys2Proof.Machine

/-! ## Modes -/

/-- In user mode a supervisor-level number takes the privileged exception (10_state.md R48). -/
theorem sprAccess_user {s : State} {n : BitVec 10} (hn : sprSupervisor n = true) (h : s.userMode = true)
    (go : State → Result) : sprAccess n s go = .next (takeException .program s.pc privilegedCause s) := by
  simp [sprAccess, hn, h, raisePrivileged, raise]

theorem sprAccess_allowed {s : State} {n : BitVec 10} (h : s.userMode = false ∨ n.getLsbD 4 = false)
    (go : State → Result) : sprAccess n s go = go s := by
  rcases h with h | h
  · simp only [sprAccess, h, Bool.false_and, Bool.false_eq_true, if_false]
  · simp only [sprAccess, sprSupervisor, h, Bool.and_false, Bool.false_eq_true, if_false]

theorem exec_privileged {i : Instr} {s : State} (hi : isPrivileged i = true) (hu : s.userMode = true) :
    exec i s = .next (takeException .program s.pc privilegedCause s) := by
  cases i with
  | rfi | mfmsr | mtmsr | mfsr | mfsrin | mtsr | mtsrin | tlbie | tlbsync | tlbsync_b31 | dcbi =>
    apply supervisorOnly_user hu
  | mfspr | mtspr => apply sprAccess_user hi hu
  | _ => exact absurd hi Bool.false_ne_true

section
variable {s : State} (hf : bit s.msr 18 = false)
include hf

theorem floatArith_off (single : Bool) (d : BitVec 5) (operands : List Dword) (rc : Bool)
    (compute : FpControl → FpOutcome) :
    floatArith s single d operands rc compute = .next (takeException .fpUnavailable s.pc 0 s) := floatOnly_off hf _

theorem floatConvert_off (d b : BitVec 5) (rn : Word → BitVec 2) (rc : Bool) :
    floatConvert s d b rn rc = .next (takeException .fpUnavailable s.pc 0 s) := floatOnly_off hf _

theorem floatCompare_off (crfD : BitVec 3) (a b : BitVec 5) (raised : Word → Word) :
    floatCompare s crfD a b raised = .next (takeException .fpUnavailable s.pc 0 s) := floatOnly_off hf _

theorem floatMove_off (d : BitVec 5) (v : Dword) (rc : Bool) :
    floatMove s d v rc = .next (takeException .fpUnavailable s.pc 0 s) := floatOnly_off hf _

theorem floatLoad_off (insn : Word) (update : Option (BitVec 5)) (d : BitVec 5) (ea : Word) (n : Nat)
    (value : List Byte → Dword) :
    floatLoad insn update d ea n value s = .next (takeException .fpUnavailable s.pc 0 s) := floatOnly_off hf _

theorem floatStore_off (insn : Word) (update : Option (BitVec 5)) (ea : Word) (data : List Byte) :
    floatStore insn update ea data s = .next (takeException .fpUnavailable s.pc 0 s) := floatOnly_off hf _

theorem storeSingle_off (insn : Word) (update : Option (BitVec 5)) (ea : Word) (v : Dword) :
    storeSingle insn update ea v s = .next (takeException .fpUnavailable s.pc 0 s) := floatOnly_off hf _

theorem exec_floatUnavailable {i : Instr} (hi : needsFloat i = true) :
    exec i s = .next (takeException .fpUnavailable s.pc 0 s) := by
  cases i with
  | faddx | faddsx | fsubx | fsubsx | fdivx | fdivsx | fmulx | fmulsx | fresx | frsqrtex | fmaddx | fmaddsx | fmsubx
  | fmsubsx | fnmaddx | fnmaddsx | fnmsubx | fnmsubsx | frspx => exact floatArith_off hf _ _ _ _ _
  | fctiwx => exact floatConvert_off hf _ _ _ _
  | fctiwzx d b rc => exact floatConvert_off hf d b (fun _ => 1) rc
  | fcmpu crfD a b => exact floatCompare_off hf crfD a b fun _ => unorderedCause (s.f a) (s.f b)
  | fcmpo => exact floatCompare_off hf _ _ _ _
  | fselx | fmrx | fnegx | fabsx | fnabsx => exact floatMove_off hf _ _ _
  | mffsx | mcrfs | mtfsfix | mtfsfx | mtfsb0x | mtfsb1x => apply floatOnly_off hf
  | lfs | lfsu | lfsx | lfsux | lfd | lfdu | lfdx | lfdux => exact floatLoad_off hf _ _ _ _ _ _
  | stfs | stfsu | stfsx | stfsux => exact storeSingle_off hf _ _ _ _
  | stfd | stfdu | stfdx | stfdux | stfiwx => exact floatStore_off hf _ _ _ _
  | _ => exact absurd hi Bool.false_ne_true

end

/-- Settles O12, by the guard that each such instruction begins with. -/
theorem modeChecksTrap : Obligations.ModeChecksTrap :=
  ⟨fun _ _ hi hu => exec_privileged hi hu, fun _ _ hi hf => exec_floatUnavailable hf hi⟩

/-! ## Exceptions of an access -/

theorem raiseDsi_taken (cause ea : Word) (s : State) :
    Completes (raiseDsi cause ea s) fun t => DsiTaken s t cause ea :=
  .of_next rfl ⟨rfl, rfl, rfl⟩

theorem field_opcode (w : Word) : field w 0 5 = 31 ↔ w.toNat / 2 ^ 26 = 31 := by
  have h : (field w 0 5).toNat = w.toNat / 2 ^ 26 := by
    have := w.isLt
    simp only [field, BitVec.toNat_setWidth, BitVec.toNat_ushiftRight, Nat.shiftRight_eq_div_pow]
    omega
  rw [← h, ← BitVec.toNat_inj]
  rfl

theorem bit_field (w : Word) {first last k : Nat} (hl : last ≤ 31) (hk : k < last + 1 - first) :
    bit (field w first last) k = bit w (first + k) := by
  rw [bit_eq_getLsbD _ (by omega)]
  simp only [bit, BitVec.getMsbD, field, BitVec.getLsbD_setWidth, BitVec.getLsbD_ushiftRight]
  simp [hk, show last + 1 - first - 1 - k < last + 1 - first by omega,
    show 31 - last + (last + 1 - first - 1 - k) = 31 - (first + k) by omega]

theorem resourceId_eq (s : State) : s.resourceId = s.ear.setWidth 6 := by
  simp [State.resourceId, field]

/-- An unwatched read with a byte in a device region is logged, and answers what the device does. -/
theorem readSpan_device {ea : Word} {n : Nat} {s : State} (hw : s.watched false ea n = false)
    (hk : kindOf s.memMap ea n = some .device) :
    readSpan ea n s =
      .done (s.answeredBytes ea s.draws n) { s with draws := s.draws + n, busLog := .deviceRead ea n :: s.busLog } := by
  simp [readSpan, hw, hk]

theorem readSpan_outside {ea : Word} {n : Nat} {s : State} (hw : s.watched false ea n = false)
    (hk : kindOf s.memMap ea n = none) : readSpan ea n s = .stop (.refused .outsideMemMap) := by
  simp [readSpan, hw, hk]

theorem writeSpan_outside {ea : Word} {data : List Byte} {s : State} (hw : s.watched true ea data.length = false)
    (hk : kindOf s.memMap ea data.length = none) : writeSpan ea data s = .stop (.refused .outsideMemMap) := by
  simp [writeSpan, hw, hk]

theorem readSpan_watched {ea : Word} {n : Nat} {s : State} (hw : s.watched false ea n = true) :
    readSpan ea n s = .stop (raiseDsi (watchCause false) ea s) := by
  simp [readSpan, hw]

theorem writeSpan_watched {ea : Word} {data : List Byte} {s : State} (hw : s.watched true ea data.length = true) :
    writeSpan ea data s = .stop (raiseDsi (watchCause true) ea s) := by
  simp [writeSpan, hw]

/-- A field of a word, shifted to another place: each bit is that of the word at its old place. -/
theorem bit_field_shiftLeft (w : Word) {first last n i : Nat} (hl : last ≤ 31) (hi : i < 32) :
    bit ((field w first last).setWidth 32 <<< n : Word) i =
      (decide (i + n ≤ 31 ∧ 31 + first ≤ i + n + last) && bit w (i + n + last - 31)) := by
  rw [bit_eq_getLsbD _ hi]
  simp only [field, BitVec.getLsbD_shiftLeft, BitVec.getLsbD_setWidth, BitVec.getLsbD_ushiftRight]
  by_cases h : i + n ≤ 31 ∧ 31 + first ≤ i + n + last
  · rw [bit_eq_getLsbD _ (by omega), show 31 - last + (31 - i - n) = 31 - (i + n + last - 31) by omega]
    simp [h, show 31 - i < 32 by omega, show ¬ 31 - i < n by omega, show 31 - i - n < 32 by omega,
      show 31 - i - n < last + 1 - first by omega]
  · have hout : 31 - i < n ∨ ¬ 31 - i - n < last + 1 - first := by omega
    rcases hout with hout | hout <;> simp [h, hout]

/-- The bits of a word that a five-bit value fills are its last five. -/
theorem bit_setWidth_five (v : BitVec 5) {i : Nat} (hi : i < 32) :
    bit (v.setWidth 32) i = if 27 ≤ i then bit v (i - 27) else false := by
  rw [bit_eq_getLsbD _ hi, BitVec.getLsbD_setWidth]
  split
  · simp only [bit, BitVec.getMsbD, show 5 - 1 - (i - 27) = 31 - i by omega]
    simp [show 31 - i < 32 by omega, show i - 27 < 5 by omega]
  · rw [BitVec.getLsbD_of_ge _ _ (by omega), Bool.and_false]

theorem bit_alignmentStatus (w : Word) {i : Nat} (hi : i < 32) :
    bit (alignmentStatus w) i = (decide (i < 27) && alignmentDsisrBit w i) := by
  unfold alignmentStatus alignmentDsisrBit
  simp only [field_opcode]
  split <;> simp (disch := omega) only [bit_or, bit_field_shiftLeft] <;> grind

/-- DSISR after an alignment exception: the instruction's bits, then five bits of their own (60_exceptions.md R506). -/
theorem bit_alignmentDsisr (w : Word) (low : BitVec 5) {i : Nat} (hi : i < 32) :
    bit (alignmentStatus w ||| low.setWidth 32) i = if i < 27 then alignmentDsisrBit w i else bit low (i - 27) := by
  rw [bit_or, bit_alignmentStatus w hi, bit_setWidth_five low hi]
  by_cases h : i < 27
  · simp [h]
  · simp [h, show 27 ≤ i by omega]

theorem raiseAlignment_taken (insn : Word) (base : Bool) (ea : Word) (s : State) :
    Completes (raiseAlignment insn base ea s) fun t => AlignmentTaken s t insn base ea := by
  cases base
  · refine .of_next rfl ⟨rfl, rfl, fun i hi => ?_, fun hb => absurd hb Bool.false_ne_true⟩
    exact (bit_alignmentDsisr insn (s.fresh 5) (by omega)).trans (if_pos hi)
  · refine .of_next rfl ⟨rfl, rfl, fun i hi => ?_, fun _ i hi hi' => ?_⟩
    · exact (bit_alignmentDsisr insn (field insn 11 15) (by omega)).trans (if_pos hi)
    · refine (bit_alignmentDsisr insn (field insn 11 15) hi').trans ?_
      rw [if_neg (by omega)]
      refine (bit_field insn (by omega) (by omega)).trans ?_
      rw [show 11 + (i - 27) = i - 16 by omega]

/-! ## lwarx and external control -/

/-- Settles O33, by the three outcomes of the read that `lwarx` makes. -/
theorem loadReserveTakesReservation : Obligations.LoadReserveTakesReservation := by
  intro d a b s ha
  have hexec : exec (.lwarx d a b) s = (readSpan (s.eaX a b) 4 s).andThen fun bytes t =>
      if kindOf s.memMap (s.eaX a b) 4 = some .ram then
        .next (State.setR { t with reserve := true, reserveAddr := granule (s.eaX a b) } d (wordOf bytes)).advance
      else .refused .lwarxNotRam := by
    rw [exec_lwarx, execLwarx_eq, neverSplit, if_pos ha]
  rw [hexec]
  refine ⟨fun hw hk => ?_, fun hw => ⟨fun hk => ?_, fun hk => ?_⟩⟩
  · rw [readSpan_ready hw hk]
    refine .of_next (if_pos hk) ⟨rfl, granule_eq _, ?_, ?_, rfl, fun _ => rfl, rfl⟩
    · exact State.setR_r_same _ d _
    · exact fun j hj => State.setR_r_ne _ (by simpa using hj) _
  · rw [readSpan_device hw hk]
    exact if_neg (by simp [hk])
  · rw [readSpan_outside hw hk]
    rfl

/-- Settles O39, by the order of the tests: alignment, EAR[E], then the access. -/
theorem externalControlReachesPlatform : Obligations.ExternalControlReachesPlatform := by
  intro x a b s
  refine ⟨fun ha => ⟨?_, ?_⟩, fun ha he => ⟨?_, ?_⟩, fun he ha => ⟨?_, ?_⟩⟩
  · rw [exec_eciwx, execEciwx, externalControl_misaligned ha]
    exact raiseAlignment_taken _ _ _ _
  · rw [exec_ecowx, execEcowx, externalControl_misaligned ha]
    exact raiseAlignment_taken _ _ _ _
  · rw [exec_eciwx, execEciwx, externalControl_disabled he ha]
    exact raiseDsi_taken _ _ _
  · rw [exec_ecowx, execEcowx, externalControl_disabled he ha]
    exact raiseDsi_taken _ _ _
  · rw [exec_eciwx, execEciwx, externalControl_enabled he ha]
    refine .of_next rfl ⟨congrArg (fun r => BusEvent.externalIn r _ :: _) (resourceId_eq s), ?_, rfl, fun _ => rfl, rfl⟩
    exact fun j hj => State.setR_r_ne _ (by simpa using hj) _
  · rw [exec_ecowx, execEcowx, externalControl_enabled he ha]
    exact .of_next rfl ⟨congrArg (fun r => BusEvent.externalOut r _ _ :: _) (resourceId_eq s), rfl, fun _ => rfl, rfl⟩

end Sys2Proof.Machine
end

section
namespace Sys2Proof.Machine

/-! ## Masks of four-bit fields -/

theorem bit_fieldMask {last n k : Nat} (hl : last ≤ 31) (hk : k < 32) :
    bit (fieldMask last n) k = decide (k ≤ last ∧ last < k + n) := by
  rw [bit_eq_getLsbD _ hk]
  simp only [fieldMask, BitVec.getLsbD_shiftLeft, BitVec.getLsbD_setWidth, BitVec.getLsbD_allOnes]
  rw [Bool.eq_iff_iff]
  simp only [Bool.and_eq_true, Bool.not_eq_true', decide_eq_true_eq, decide_eq_false_iff_not]
  omega

/-- A field of four bits, the `n`-th one from the left. -/
theorem bit_fieldMask_four {n k : Nat} (hn : n < 8) (hk : k < 32) :
    bit (fieldMask (4 * n + 3) 4) k = decide (k / 4 = n) := by
  rw [bit_fieldMask (by omega) hk, decide_eq_decide]
  omega

theorem bit_foldl_fields (m : BitVec 8) (l : List Nat) (acc : Word) {k : Nat} (hl : ∀ j ∈ l, j < 8) (hk : k < 32) :
    bit (l.foldl (fun acc i => if bit m i then acc ||| fieldMask (4 * i + 3) 4 else acc) acc) k =
      (bit acc k || (decide (k / 4 ∈ l) && bit m (k / 4))) := by
  induction l generalizing acc with
  | nil => simp
  | cons j l ih =>
    rw [List.foldl_cons, ih _ (fun i hi => hl i (List.mem_cons_of_mem _ hi))]
    have hj := bit_fieldMask_four (hl j List.mem_cons_self) hk
    by_cases hm : bit m j = true
    · rw [if_pos hm, bit_or, hj]
      by_cases he : k / 4 = j
      · simp [he, hm]
      · simp [he]
    · rw [if_neg hm]
      by_cases he : k / 4 = j
      · simp [he, hm]
      · simp [he]

/-- The mask of a field mask has each of its bits four times (47_branch_cr_system.md R432). -/
theorem bit_fieldsMask (m : BitVec 8) {k : Nat} (hk : k < 32) : bit (fieldsMask m) k = bit m (k / 4) := by
  have hmem : k / 4 ∈ List.range 8 := List.mem_range.mpr (by omega)
  rw [fieldsMask, bit_foldl_fields m _ _ (fun j hj => List.mem_range.mp hj) hk]
  simp [hmem, bit]

theorem bit_writeField_four (w : Word) (n : BitVec 3) (v : BitVec 4) {k : Nat} (hk : k < 4) :
    bit (writeField w (4 * n.toNat + 3) v) (4 * n.toNat + k) = bit v k := by
  rw [← bit_crField _ n hk, crField_writeField, if_pos rfl]

/-! ## Moves of registers -/

theorem toNat_segmentOf (v : Word) : (segmentOf v).toNat = v.toNat / 2 ^ 28 := by
  have := v.isLt
  simp only [segmentOf, field, BitVec.toNat_setWidth, BitVec.toNat_ushiftRight, Nat.shiftRight_eq_div_pow]
  omega

theorem execMtcrf_completes (src : BitVec 5) (crm : BitVec 8) (s : State) :
    Completes (exec (.mtcrf src crm) s) fun t =>
      (∀ k, k < 32 → bit t.cr k = if bit crm (k / 4) then bit (s.r src) k else bit s.cr k) ∧
      t = { s with cr := t.cr, pc := s.pc + 4 } := by
  refine .of_next (exec_mtcrf s src crm) ⟨fun k hk => ?_, rfl⟩
  exact (bit_merge _ _ _ hk).trans (by rw [bit_fieldsMask crm hk])

theorem execMcrxr_completes (crfD : BitVec 3) (s : State) :
    Completes (exec (.mcrxr crfD) s) fun t =>
      (∀ k, k < 4 → bit t.cr (4 * crfD.toNat + k) = bit s.xer k ∧ bit t.xer k = false) ∧ BitsKept s.xer t.xer 4 28 ∧
      (∀ n, n ≠ crfD → crField t.cr n = crField s.cr n) ∧ t = { s with cr := t.cr, xer := t.xer, pc := s.pc + 4 } := by
  have hx : ∀ k, k < 32 → bit (s.xer &&& ~~~(fieldMask 3 4)) k = (bit s.xer k && !decide (k / 4 = 0)) := fun k hk => by
    rw [bit_and, bit_not _ hk, show 3 = 4 * 0 + 3 from rfl, bit_fieldMask_four (by omega) hk]
  refine .of_next (exec_mcrxr s crfD) ⟨fun k hk => ⟨?_, ?_⟩, fun k hk hk' => ?_, fun n hn => ?_, rfl⟩
  · refine (s.setCrField_bit crfD (crField s.xer 0) hk).trans ((bit_crField s.xer 0 hk).trans ?_)
    rw [show (0 : BitVec 3).toNat = 0 from rfl, Nat.mul_zero, Nat.zero_add]
  · refine (hx k (by omega)).trans ?_
    rw [Nat.div_eq_of_lt hk]
    simp
  · refine (hx k (by omega)).trans ?_
    simp [show ¬ k / 4 = 0 by omega]
  · exact (s.setCrField_crField crfD n _).trans (if_neg hn)

/-- `mftb` reads the two halves of the time base and nothing else (R438). -/
theorem exec_mftb_cases (d : BitVec 5) (tbr : BitVec 10) (s : State) :
    (tbr = 268 → exec (.mftb d tbr) s = .next { s.setR d (s.tb.setWidth 32) with pc := s.pc + 4 }) ∧
    (tbr = 269 → exec (.mftb d tbr) s = .next { s.setR d ((s.tb >>> 32).setWidth 32) with pc := s.pc + 4 }) ∧
    (tbr ≠ 268 → tbr ≠ 269 → exec (.mftb d tbr) s = .next (takeException .program s.pc (bitMask 12) s)) := by
  have hlow : s.tb.extractLsb' 0 32 = s.tb.setWidth 32 := by simp [BitVec.setWidth_eq_extractLsb']
  have hhigh : s.tb.extractLsb' 32 32 = (s.tb >>> 32).setWidth 32 := by
    apply BitVec.eq_of_toNat_eq
    simp
  refine ⟨?_, ?_, fun h1 h2 => ?_⟩
  · rintro rfl
    rw [← hlow]
    rfl
  · rintro rfl
    rw [← hhigh]
    rfl
  · have h268 : tbr.toNat ≠ 268 := fun h => h1 (BitVec.eq_of_toNat_eq h)
    have h269 : tbr.toNat ≠ 269 := fun h => h2 (BitVec.eq_of_toNat_eq h)
    rw [exec_mftb, execMftb, if_neg h268, if_neg h269]
    rfl

theorem exec_tlb {b : BitVec 5} {s : State} (h : s.userMode = false) {i : Instr}
    (hi : i ∈ [Instr.tlbie b, .tlbsync, .tlbsync_b31]) : exec i s = .next { s with pc := s.pc + 4 } := by
  simp only [List.mem_cons, List.not_mem_nil, or_false] at hi
  rcases hi with rfl | rfl | rfl
  · rw [exec_tlbie, execTlbie, supervisorOnly_supervisor h]
    rfl
  · rw [exec_tlbsync, execTlbsync, supervisorOnly_supervisor h]
    rfl
  · rw [exec_tlbsync_b31, execTlbsyncB31, supervisorOnly_supervisor h]
    rfl

/-- Settles O43, instruction by instruction. -/
theorem registerMoveResults : Obligations.RegisterMoveResults := by
  constructor
  · intro d crfD crm tbr s
    refine ⟨rfl, execMtcrf_completes d crm s, execMcrxr_completes crfD s, fun hu => ?_, exec_mftb_cases d tbr s⟩
    rw [exec_mfmsr, execMfmsr, supervisorOnly_supervisor hu]
    rfl
  · intro x b n s hu
    refine ⟨?_, ?_, ?_, ?_, fun i hi => exec_tlb hu hi⟩
    · rw [exec_mfsr, execMfsr, supervisorOnly_supervisor hu]
      rfl
    · rw [exec_mfsrin, execMfsrin, supervisorOnly_supervisor hu]
      simp only [toNat_segmentOf]
      rfl
    · rw [exec_mtsr, execMtsr, supervisorOnly_supervisor hu]
      rfl
    · rw [exec_mtsrin, execMtsrin, supervisorOnly_supervisor hu]
      simp only [State.setSegment, toNat_segmentOf]
      rfl

/-! ## Floating-point moves -/

/-- Where CR1 is recorded it takes FPSCR's exception summary, and no other field changes (10_state.md R26). -/
theorem recordCr1_cr (s : State) (rc : Bool) :
    (rc = true → crField (s.recordCr1 rc).cr 1 = crField s.fpscr 0 ∧
      ∀ n, n ≠ 1 → crField (s.recordCr1 rc).cr n = crField s.cr n) ∧
    (rc = false → (s.recordCr1 rc).cr = s.cr) := by
  refine ⟨?_, ?_⟩
  · rintro rfl
    exact ⟨(s.setCrField_crField 1 1 _).trans (if_pos rfl), fun n hn => (s.setCrField_crField 1 n _).trans (if_neg hn)⟩
  · rintro rfl
    rfl

/-- Recording CR1 changes nothing but CR. -/
theorem recordCr1_eq (s : State) (rc : Bool) : s.recordCr1 rc = { s with cr := (s.recordCr1 rc).cr } := by
  cases rc <;> rfl

theorem floatMove_completes {s : State} (hf : bit s.msr 18 = true) (d : BitVec 5) (v : Dword) (rc : Bool) :
    Completes (floatMove s d v rc) fun t =>
      t.f d = v ∧ FprsKept s t [d] ∧ t.pc = s.pc + 4 ∧ MemoryKept s t ∧
      (rc = true → crField t.cr 1 = crField s.fpscr 0 ∧ ∀ n, n ≠ 1 → crField t.cr n = crField s.cr n) ∧
      (rc = false → t.cr = s.cr) ∧ { t with fpr := s.fpr, cr := s.cr, pc := s.pc } = s := by
  obtain ⟨hrec, hkeep⟩ := recordCr1_cr (s.setF d v) rc
  refine .of_next (floatOnly_on hf _) ?_
  rw [recordCr1_eq]
  refine ⟨s.setF_f_same d v, fun j hj => s.setF_f_ne (by simpa using hj) v, rfl, fun _ => rfl, hrec, hkeep, rfl⟩

/-- Settles O54: every one of these instructions is `floatMove` of its bit pattern. -/
theorem floatMoveResults : Obligations.FloatMoveResults := by
  intro d a b c rc s i v hf hi
  simp only [List.mem_cons, List.not_mem_nil, or_false, Prod.mk.injEq] at hi
  rcases hi with ⟨rfl, rfl⟩ | ⟨rfl, rfl⟩ | ⟨rfl, rfl⟩ | ⟨rfl, rfl⟩ | ⟨rfl, rfl⟩
  · exact floatMove_completes hf d _ rc
  · exact floatMove_completes hf d _ rc
  · exact floatMove_completes hf d _ rc
  · exact floatMove_completes hf d _ rc
  · rw [exec_fselx, execFselx]
    have hsel : (!fpIsNaN (s.f a) && (!fpSign (s.f a) || fpIsZero (s.f a))) = true ↔
        fpIsNaN (s.f a) = false ∧ (fpSign (s.f a) = false ∨ fpIsZero (s.f a) = true) := by simp
    simp only [hsel]
    exact floatMove_completes hf d _ rc

/-! ## FPSCR instructions -/

/-- With the enabled exceptions off an FPSCR instruction ends with the next one (43_floating_point.md R285). -/
theorem finishFloat_quiet {s : State} (h0 : bit s.msr 20 = false) (h1 : bit s.msr 23 = false) :
    finishFloat s = .next s.advance := by
  simp [finishFloat, State.floatTraps, h0, h1]

theorem finishFpscrWrite_quiet {s : State} (h0 : bit s.msr 20 = false) (h1 : bit s.msr 23 = false) (before : Word) :
    finishFpscrWrite before s = .next s.advance := by
  simp [finishFpscrWrite, State.floatTraps, h0, h1]

theorem recordCr1_msr (s : State) (rc : Bool) : (s.recordCr1 rc).msr = s.msr := by cases rc <;> rfl

/-- The bits of FPSCR whose setting also sets FX (10_state.md R32). -/
theorem bit_fpStickyBits : ∀ k, k < 32 →
    bit fpStickyBits k = decide (k ∈ [3, 4, 5, 6, 7, 8, 9, 10, 11, 12, 21, 22, 23]) := by decide

/-- The bits of FPSCR that `mcrfs` clears (43_floating_point.md R276). -/
theorem bit_clearedByMcrfs (crfS : BitVec 3) {k : Nat} (hk : k < 32) :
    bit (clearedByMcrfs crfS) k =
      decide (k / 4 = crfS.toNat ∧ k ∈ [0, 3, 4, 5, 6, 7, 8, 9, 10, 11, 12, 21, 22, 23]) := by
  have hmask : ∀ j, j < 32 → bit (bitMask 0 ||| fpStickyBits) j =
      decide (j ∈ [0, 3, 4, 5, 6, 7, 8, 9, 10, 11, 12, 21, 22, 23]) := by decide
  rw [clearedByMcrfs, bit_and, hmask k hk, bit_fieldMask_four crfS.isLt hk, Bool.decide_and]

/-- What `mtfsfi` and `mtfsf` leave of the bits that are not recomputed: the new ones under the mask (R277, R278). -/
theorem bit_fpReplace (f mask new : Word) {k : Nat} (hk : k < 32) (hs : k ∉ [1, 2, 20]) :
    bit (fpReplace f mask new) k = if bit mask k then bit new k else bit f k := by
  have hown : ∀ j, j < 32 → j ∉ [1, 2, 20] → bit (bitMask 1 ||| bitMask 2 ||| bitMask 20) j = false := by decide
  rw [fpReplace, bit_fpDerive_other _ hk hs, bit_merge _ _ _ hk, bit_and, bit_not _ hk, hown k hk hs, Bool.not_false,
    Bool.and_true]

/-- Whether a mask of one bit meets a word. -/
theorem bitMask_and_ne_zero_iff (w : Word) {i : Nat} (hi : i < 32) : bitMask i &&& w ≠ 0 ↔ bit w i = true := by
  constructor
  · intro h
    by_contra hb
    rw [Bool.not_eq_true] at hb
    refine h (eq_of_bit fun j hj => ?_)
    rw [bit_and, bit_bitMask hi hj, show bit (0 : Word) j = false by simp [bit]]
    by_cases he : j = i
    · rw [he, hb, Bool.and_false]
    · simp [he]
  · intro h h0
    have hz : bit (bitMask i &&& w) i = false := by
      rw [h0]
      simp [bit]
    rw [bit_and, bit_bitMask hi hi, h] at hz
    simp at hz

theorem bitMask_and_of_bit {w : Word} {i : Nat} (hi : i < 32) (h : bit w i = true) : bitMask i &&& w = bitMask i := by
  refine eq_of_bit fun j hj => ?_
  rw [bit_and, bit_bitMask hi hj]
  by_cases he : j = i
  · rw [he, h, Bool.and_true]
  · simp [he]

/-- Setting one exception bit that FX follows sets it, and FX where it was 0 (R244, R280). -/
theorem bit_fpRaise_bitMask (f : Word) {i k : Nat} (hi : i < 32) (hs : bit fpStickyBits i = true) (hk : k < 32) :
    bit (fpRaise f (bitMask i)) k = (bit f k || decide (k = i) || decide (k = 0 ∧ bit f i = false)) := by
  have hone : bitMask i &&& ~~~f ≠ 0 ↔ bit f i = false := by
    rw [bitMask_and_ne_zero_iff _ hi, bit_not _ hi, Bool.not_eq_true']
  simp only [fpRaise, bitMask_and_of_bit hi hs, bne_iff_ne, hone]
  split
  · rename_i hz
    rw [bit_writeBit _ (by omega) hk, bit_or, bit_bitMask hi hk]
    by_cases h0 : k = 0 <;> simp [h0, hz]
  · rename_i hz
    rw [bit_or, bit_bitMask hi hk]
    simp [hz]

/-- An instruction that writes FPSCR: it takes the value `f`, whose summary bits are right, CR1 is recorded, and the next
instruction follows. -/
theorem fpscrWritten_completes {s : State} {f : Word} {rc : Bool} {r : Result} {new : Nat → Bool}
    (hr : r = .next (State.recordCr1 { s with fpscr := f } rc).advance) (hf : fpDerive f = f)
    (hnew : ∀ k, k < 32 → k ∉ [1, 2, 20] → bit f k = new k) :
    Completes r fun t =>
      (∀ k, k < 32 → k ∉ [1, 2, 20] → bit t.fpscr k = new k) ∧ fpDerive t.fpscr = t.fpscr ∧
      (rc = true → crField t.cr 1 = crField t.fpscr 0 ∧ ∀ n, n ≠ 1 → crField t.cr n = crField s.cr n) ∧
      (rc = false → t.cr = s.cr) ∧ { t with cr := s.cr, fpscr := s.fpscr, pc := s.pc } = s ∧ t.pc = s.pc + 4 := by
  obtain ⟨hrec, hkeep⟩ := recordCr1_cr { s with fpscr := f } rc
  refine .of_next hr ?_
  rw [recordCr1_eq]
  exact ⟨hnew, hf, hrec, hkeep, rfl, rfl⟩

/-- FPSCR's bits after `mtfsb0`, the summary bits aside (R279). -/
def mtfsb0Bits (f : Word) (x : BitVec 5) : Word := if x = 1 ∨ x = 2 then f else writeBit f x.toNat false

/-- FPSCR's bits after `mtfsb1`, the summary bits aside (R280). -/
def mtfsb1Bits (f : Word) (x : BitVec 5) : Word :=
  if x = 1 ∨ x = 2 ∨ x = 20 then f
  else if bitMask x.toNat &&& fpStickyBits ≠ 0 then fpRaise f (bitMask x.toNat)
  else writeBit f x.toNat true

section
variable {s : State} (hq : s.FloatQuiet)
include hq

theorem finishFloat_recordCr1 (f : Word) (rc : Bool) :
    finishFloat (State.recordCr1 { s with fpscr := f } rc) = .next (State.recordCr1 { s with fpscr := f } rc).advance := by
  obtain ⟨_, h0, h1⟩ := hq
  exact finishFloat_quiet (by rwa [recordCr1_msr]) (by rwa [recordCr1_msr])

theorem finishFpscrWrite_recordCr1 (f before : Word) (rc : Bool) :
    finishFpscrWrite before (State.recordCr1 { s with fpscr := f } rc) =
      .next (State.recordCr1 { s with fpscr := f } rc).advance := by
  obtain ⟨_, h0, h1⟩ := hq
  exact finishFpscrWrite_quiet (by rwa [recordCr1_msr]) (by rwa [recordCr1_msr]) _

theorem exec_mtfsfix_quiet (crfD : BitVec 3) (imm : BitVec 4) (rc : Bool) :
    exec (.mtfsfix crfD imm rc) s = .next (State.recordCr1 { s with
      fpscr := fpReplace s.fpscr (fieldMask (4 * crfD.toNat + 3) 4) (writeField 0 (4 * crfD.toNat + 3) imm) } rc).advance := by
  rw [exec_mtfsfix, execMtfsfix, floatOnly_on hq.1]
  exact finishFpscrWrite_recordCr1 hq _ _ rc

theorem exec_mtfsfx_quiet (fm : BitVec 8) (b : BitVec 5) (rc : Bool) :
    exec (.mtfsfx fm b rc) s = .next (State.recordCr1 { s with
      fpscr := fpReplace s.fpscr (fieldsMask fm) ((s.f b).setWidth 32) } rc).advance := by
  rw [exec_mtfsfx, execMtfsfx, floatOnly_on hq.1]
  exact finishFpscrWrite_recordCr1 hq _ _ rc

theorem exec_mtfsb0x_quiet (x : BitVec 5) (rc : Bool) :
    exec (.mtfsb0x x rc) s =
      .next (State.recordCr1 { s with fpscr := fpDerive (mtfsb0Bits s.fpscr x) } rc).advance := by
  rw [exec_mtfsb0x, execMtfsb0x, floatOnly_on hq.1]
  exact finishFloat_recordCr1 hq (fpDerive (mtfsb0Bits s.fpscr x)) rc

theorem exec_mtfsb1x_quiet (x : BitVec 5) (rc : Bool) :
    exec (.mtfsb1x x rc) s =
      .next (State.recordCr1 { s with fpscr := fpDerive (mtfsb1Bits s.fpscr x) } rc).advance := by
  rw [exec_mtfsb1x, execMtfsb1x, floatOnly_on hq.1]
  exact finishFloat_recordCr1 hq (fpDerive (mtfsb1Bits s.fpscr x)) rc

theorem execMffsx_completes (d : BitVec 5) (rc : Bool) :
    Completes (exec (.mffsx d rc) s) fun t =>
      (t.f d).setWidth 32 = s.fpscr ∧ FprsKept s t [d] ∧
      (rc = true → crField t.cr 1 = crField s.fpscr 0 ∧ ∀ n, n ≠ 1 → crField t.cr n = crField s.cr n) ∧
      (rc = false → t.cr = s.cr) ∧
      { t with fpr := s.fpr, cr := s.cr, pc := s.pc, draws := s.draws } = s ∧ t.pc = s.pc + 4 := by
  obtain ⟨hf, _⟩ := hq
  have hlow : ∀ high low : Word, (high ++ low).setWidth 32 = low := fun high low => by
    rw [BitVec.setWidth_append_eq_right]
  obtain ⟨hrec, hkeep⟩ := recordCr1_cr (s.setF d (s.fresh 32 ++ s.fpscr)) rc
  rw [exec_mffsx, execMffsx, floatOnly_on hf]
  refine .of_next rfl ?_
  rw [recordCr1_eq]
  refine ⟨?_, fun j hj => s.setF_f_ne (by simpa using hj) _, hrec, hkeep, rfl, rfl⟩
  exact (congrArg (BitVec.setWidth 32) (s.setF_f_same d _)).trans (hlow _ _)

theorem execMcrfs_completes (crfD crfS : BitVec 3) :
    Completes (exec (.mcrfs crfD crfS) s) fun t =>
      crField t.cr crfD = crField s.fpscr crfS ∧ (∀ n, n ≠ crfD → crField t.cr n = crField s.cr n) ∧
      (∀ k, k < 32 → k ∉ [1, 2, 20] → bit t.fpscr k =
        (bit s.fpscr k && !decide (k / 4 = crfS.toNat ∧ k ∈ [0, 3, 4, 5, 6, 7, 8, 9, 10, 11, 12, 21, 22, 23]))) ∧
      fpDerive t.fpscr = t.fpscr ∧ { t with cr := s.cr, fpscr := s.fpscr, pc := s.pc } = s ∧ t.pc = s.pc + 4 := by
  obtain ⟨hf, h0, h1⟩ := hq
  rw [exec_mcrfs, execMcrfs, floatOnly_on hf]
  refine .of_next (finishFloat_quiet h0 h1) ⟨?_, fun n hn => ?_, fun k hk hs => ?_, fpDerive_fpDerive _, rfl, rfl⟩
  · exact (s.setCrField_crField crfD crfD _).trans (if_pos rfl)
  · exact (s.setCrField_crField crfD n _).trans (if_neg hn)
  · refine (bit_fpDerive_other _ hk hs).trans ?_
    rw [bit_and, bit_not _ hk, bit_clearedByMcrfs crfS hk]

end

/-- The bits of FPSCR that `mtfsb0` leaves (R279). -/
theorem bit_mtfsb0 (f : Word) (x : BitVec 5) {k : Nat} (hk : k < 32) (hs : k ∉ [1, 2, 20]) :
    bit (mtfsb0Bits f x) k = (bit f k && decide (k ≠ x.toNat)) := by
  unfold mtfsb0Bits
  simp only [List.mem_cons, List.not_mem_nil, or_false, not_or] at hs
  obtain ⟨h1, h2, _⟩ := hs
  split
  · rename_i hx
    have hne : k ≠ x.toNat := by rcases hx with rfl | rfl <;> assumption
    simp [hne]
  · rw [bit_writeBit _ x.isLt hk]
    by_cases he : k = x.toNat <;> simp [he]

/-- The bits of FPSCR that `mtfsb1` leaves (R280). -/
theorem bit_mtfsb1 (f : Word) (x : BitVec 5) {k : Nat} (hk : k < 32) (hs : k ∉ [1, 2, 20]) :
    bit (mtfsb1Bits f x) k =
      (bit f k || decide (k = x.toNat) ||
        decide (k = 0 ∧ x.toNat ∈ [3, 4, 5, 6, 7, 8, 9, 10, 11, 12, 21, 22, 23] ∧ bit f x.toNat = false)) := by
  have hsticky : bit fpStickyBits x.toNat = true ↔ x.toNat ∈ [3, 4, 5, 6, 7, 8, 9, 10, 11, 12, 21, 22, 23] := by
    rw [bit_fpStickyBits _ x.isLt, decide_eq_true_eq]
  unfold mtfsb1Bits
  split
  · rename_i hx
    have hne : k ≠ x.toNat := by
      rintro rfl
      rcases hx with rfl | rfl | rfl <;> exact absurd hs (by decide)
    have hout : x.toNat ∉ [3, 4, 5, 6, 7, 8, 9, 10, 11, 12, 21, 22, 23] := by
      rcases hx with rfl | rfl | rfl <;> decide
    simp only [hne, hout, false_and, and_false, decide_false, Bool.or_false]
  · split
    · rename_i hx
      rw [bitMask_and_ne_zero_iff _ x.isLt] at hx
      rw [bit_fpRaise_bitMask f x.isLt hx hk]
      simp only [hsticky.mp hx, true_and]
    · rename_i hx
      rw [bitMask_and_ne_zero_iff _ x.isLt] at hx
      have hout : x.toNat ∉ [3, 4, 5, 6, 7, 8, 9, 10, 11, 12, 21, 22, 23] := fun h => hx (hsticky.mpr h)
      rw [bit_writeBit _ x.isLt hk]
      simp only [hout, false_and, and_false, decide_false, Bool.or_false]
      by_cases he : k = x.toNat <;> simp [he]

/-- The low word of a doubleword, bit by bit. -/
theorem bit_lowWord (v : Dword) {k : Nat} (hk : k < 32) : bit (v.setWidth 32 : Word) k = bit v (32 + k) := by
  rw [bit_eq_getLsbD _ hk, BitVec.getLsbD_setWidth]
  simp only [bit, BitVec.getMsbD, show 64 - 1 - (32 + k) = 31 - k by omega]
  simp [show 31 - k < 32 by omega, show 32 + k < 64 by omega]

/-- Settles O57: the bits that each instruction writes, and the summary bits that follow them. -/
theorem fpscrInstructionResults : Obligations.FpscrInstructionResults := by
  intro d x crfD crfS imm fm rc s hq
  refine ⟨execMffsx_completes hq d rc, execMcrfs_completes hq crfD crfS, fun i new hi => ?_⟩
  rcases hi with ⟨rfl, hnew⟩ | ⟨rfl, hnew⟩ | ⟨rfl, hnew⟩ | ⟨rfl, hnew⟩
  · refine fpscrWritten_completes (exec_mtfsfix_quiet hq crfD imm rc) (fpDerive_fpDerive _) fun k hk hs => ?_
    rw [hnew, bit_fpReplace _ _ _ hk hs, bit_fieldMask_four crfD.isLt hk]
    by_cases hfield : k / 4 = crfD.toNat
    · have hplace : k = 4 * crfD.toNat + k % 4 := by omega
      rw [if_pos hfield, if_pos (decide_eq_true hfield), hplace, bit_writeField_four _ _ _ (Nat.mod_lt k (by omega))]
      congr 1
      omega
    · rw [if_neg hfield, if_neg (by simpa using hfield)]
  · refine fpscrWritten_completes (exec_mtfsfx_quiet hq fm x rc) (fpDerive_fpDerive _) fun k hk hs => ?_
    rw [hnew, bit_fpReplace _ _ _ hk hs, bit_fieldsMask fm hk, bit_lowWord _ hk]
  · refine fpscrWritten_completes (exec_mtfsb0x_quiet hq x rc) (fpDerive_fpDerive _) fun k hk hs => ?_
    rw [hnew, bit_fpDerive_other _ hk hs, bit_mtfsb0 _ _ hk hs]
  · refine fpscrWritten_completes (exec_mtfsb1x_quiet hq x rc) (fpDerive_fpDerive _) fun k hk hs => ?_
    rw [hnew, bit_fpDerive_other _ hk hs, bit_mtfsb1 _ _ hk hs]

end Sys2Proof.Machine
end

section
namespace Sys2Proof.Machine

/-! ## Special-purpose registers: number, value and what writing one leaves -/

/-- The number of a special-purpose register (10_state.md R47); `sprOf` inverts it (`sprOf_eq_some`). -/
def sprNumber : Spr → Nat
  | .xer => 1
  | .lr => 8
  | .ctr => 9
  | .dsisr => 18
  | .dar => 19
  | .dec => 22
  | .sdr1 => 25
  | .srr0 => 26
  | .srr1 => 27
  | .sprg n => 272 + n.toNat
  | .ear => 282
  | .tbl => 284
  | .tbu => 285
  | .pvr => 287
  | .bat n => 528 + n.toNat
  | .mmcr0 => 952
  | .pmc1 => 953
  | .pmc2 => 954
  | .sia => 955
  | .sda => 959
  | .hid0 => 1008
  | .iabr => 1010
  | .dabr => 1013
  | .pir => 1023

/-- The value of a special-purpose register, of the time base too; `State.readSpr` reads it (`readSpr_readable`). -/
def sprValue : Spr → State → Word
  | .xer => State.xer
  | .lr => State.lr
  | .ctr => State.ctr
  | .dsisr => State.dsisr
  | .dar => State.dar
  | .dec => State.dec
  | .sdr1 => State.sdr1
  | .srr0 => State.srr0
  | .srr1 => State.srr1
  | .sprg n => fun s => s.sprg[n.toNat]
  | .ear => State.ear
  | .tbl => fun s => s.tb.extractLsb' 0 32
  | .tbu => fun s => s.tb.extractLsb' 32 32
  | .pvr => State.pvr
  | .bat n => fun s => s.bat[n.toNat]
  | .mmcr0 => State.mmcr0
  | .pmc1 => State.pmc1
  | .pmc2 => State.pmc2
  | .sia => State.sia
  | .sda => State.sda
  | .hid0 => State.hid0
  | .iabr => State.iabr
  | .dabr => State.dabr
  | .pir => State.pir

/-- The registers that `mfspr` reads, in the order of their numbers. -/
def readableSprs : List Spr :=
  [.xer, .lr, .ctr, .dsisr, .dar, .dec, .sdr1, .srr0, .srr1, .sprg 0, .sprg 1, .sprg 2, .sprg 3, .ear, .pvr, .bat 0,
    .bat 1, .bat 2, .bat 3, .bat 4, .bat 5, .bat 6, .bat 7, .bat 8, .bat 9, .bat 10, .bat 11, .bat 12, .bat 13, .bat 14,
    .bat 15, .mmcr0, .pmc1, .pmc2, .sia, .sda, .hid0, .iabr, .dabr, .pir]

theorem sprTable_eq : sprTable = readableSprs.map fun r => (sprNumber r, sprValue r) := rfl

theorem timeBaseTable_eq : timeBaseTable = [Spr.tbl, .tbu].map fun r => (sprNumber r, sprValue r) := rfl

/-- Every register is readable but the two halves of the time base. -/
theorem mem_readableSprs (r : Spr) : r ∈ readableSprs ↔ r ≠ .tbl ∧ r ≠ .tbu := by
  cases r with
  | sprg n => revert n; decide
  | bat n => revert n; decide
  | _ => decide

theorem sprOf_sprNumber (r : Spr) : sprOf (BitVec.ofNat 10 (sprNumber r)) = some r := by
  cases r with
  | sprg n => revert n; decide
  | bat n => revert n; decide
  | _ => rfl

theorem sprNumber_lt (r : Spr) : sprNumber r < 1024 := by
  cases r <;> simp only [sprNumber] <;> omega

theorem some_of_ite {α : Type} {c : Prop} [Decidable c] {a r : α} {other : Option α}
    (h : (if c then some a else other) = some r) : (c ∧ r = a) ∨ other = some r := by
  by_cases hc : c
  · rw [if_pos hc] at h
    exact .inl ⟨hc, (Option.some.inj h).symm⟩
  · rw [if_neg hc] at h
    exact .inr h

/-- A number that names a register is that register's: each branch of the map gives its own number back. -/
theorem sprNumber_of_sprOf {n : BitVec 10} {r : Spr} (h : sprOf n = some r) : n.toNat = sprNumber r := by
  unfold sprOf at h
  dsimp only at h
  generalize n.toNat = k at h
  iterate 24
    obtain ⟨hk, rfl⟩ | h := some_of_ite h
    · simp only [sprNumber, BitVec.toNat_ofNat]
      omega
  cases h

theorem sprOf_eq_some (n : BitVec 10) (r : Spr) : sprOf n = some r ↔ n.toNat = sprNumber r := by
  refine ⟨sprNumber_of_sprOf, fun h => ?_⟩
  rw [← sprOf_sprNumber r, ← h]
  congr 1
  exact (BitVec.ofNat_toNat 10 n).trans (BitVec.setWidth_eq n) |>.symm

theorem sprNumber_inj {r q : Spr} (h : sprNumber r = sprNumber q) : r = q := by
  have hr := sprOf_sprNumber r
  rw [h, sprOf_sprNumber q] at hr
  exact (Option.some.inj hr).symm

theorem readSpr_readable {r : Spr} (h : r ∈ readableSprs) (s : State) : s.readSpr r = some (sprValue r s) := by
  obtain ⟨hl, hu⟩ := (mem_readableSprs r).mp h
  cases r with
  | tbl => exact absurd rfl hl
  | tbu => exact absurd rfl hu
  | _ => rfl

theorem readSpr_unreadable {r : Spr} (h : r ∉ readableSprs) (s : State) : s.readSpr r = none := by
  rw [mem_readableSprs, not_and_or, not_not, not_not] at h
  rcases h with rfl | rfl <;> rfl

/-- Settles O44: `sprTable` is the list of readable registers with their numbers and values. -/
theorem specialRegisterReads : Obligations.SpecialRegisterReads := by
  intro d n s hmode
  refine ⟨fun get hget => ?_, fun hn => ?_⟩
  · rw [sprTable_eq, List.mem_map] at hget
    obtain ⟨r, hr, he⟩ := hget
    obtain ⟨hnum, rfl⟩ := Prod.mk.inj he
    have hread : (sprOf n).bind s.readSpr = some (sprValue r s) := by
      rw [(sprOf_eq_some n r).mpr hnum.symm, Option.bind_some, readSpr_readable hr]
    rw [exec_mfspr, execMfspr, sprAccess_allowed hmode, hread]
    rfl
  · have hread : (sprOf n).bind s.readSpr = none := by
      cases hr : sprOf n with
      | none => rfl
      | some r =>
        refine readSpr_unreadable (fun hmem => hn ?_) s
        rw [sprTable_eq, List.map_map, List.mem_map]
        exact ⟨r, hmem, (sprNumber_of_sprOf hr).symm⟩
    rw [exec_mfspr, execMfspr, sprAccess_allowed hmode, hread]
    rfl

end Sys2Proof.Machine
end

section
namespace Sys2Proof.Machine

/-! ## What mtspr leaves -/

/-- Every register has an entry in the two tables, under its number. -/
theorem mem_sprTables {m : Nat} {get : State → Word} (h : (m, get) ∈ sprTable ++ timeBaseTable) :
    ∃ r, m = sprNumber r ∧ get = sprValue r := by
  rw [sprTable_eq, timeBaseTable_eq, ← List.map_append, List.mem_map] at h
  obtain ⟨r, _, he⟩ := h
  obtain ⟨hm, hget⟩ := Prod.mk.inj he
  exact ⟨r, hm.symm, hget.symm⟩

theorem sprOf_none_of_not_mem {n : BitVec 10} (h : n.toNat ∉ (sprTable ++ timeBaseTable).map (·.1)) : sprOf n = none := by
  cases hr : sprOf n with
  | none => rfl
  | some r =>
    refine absurd ?_ h
    rw [sprTable_eq, timeBaseTable_eq, ← List.map_append, List.map_map, List.mem_map]
    refine ⟨r, ?_, (sprNumber_of_sprOf hr).symm⟩
    rw [List.mem_append, mem_readableSprs]
    by_cases hl : r = .tbl
    · exact .inr (by simp [hl])
    · by_cases hu : r = .tbu
      · exact .inr (by simp [hu])
      · exact .inl ⟨hl, hu⟩

theorem sprValue_advance (r : Spr) (s : State) : sprValue r s.advance = sprValue r s := by
  cases r <;> rfl

/-- A register whose write may make the performance monitor signal (60_exceptions.md R592 a). -/
def monitorSpr (r : Spr) : Bool := r = .mmcr0 || r = .pmc1 || r = .pmc2

/-- Whether writing `v` to the register leaves a counter that signals (R543, U15). -/
def sprSignals (s : State) (v : Word) (r : Spr) : Bool :=
  monitorSpr r && bit (if r = .mmcr0 then v else s.mmcr0) 5 &&
    ((bit (if r = .mmcr0 then v else s.mmcr0) 16 && bit (if r = .pmc1 then v else s.pmc1) 0) ||
      (bit (if r = .mmcr0 then v else s.mmcr0) 17 && bit (if r = .pmc2 then v else s.pmc2) 0))

/-- What writing `v` to a special-purpose register of `s` leaves in `t`, the pc aside (10_state.md R47;
47_branch_cr_system.md R437). -/
structure SprWritten (s t : State) (v : Word) (r : Spr) : Prop where
  value : sprValue r t =
    if r = .xer then v &&& xerBits else if r = .mmcr0 ∧ sprSignals s v r = true then v &&& ~~~(bitMask 5) else v
  others : ∀ q, q ≠ r → (sprSignals s v r = true → q ∉ [Spr.mmcr0, .sia, .sda]) → sprValue q t = sprValue q s
  decPending : t.decPending = (s.decPending || (decide (r = .dec) && bit v 0 && !bit s.dec 0))
  pmSignaled : t.pmSignaled = (sprSignals s v r || (s.pmSignaled && !(decide (r = .mmcr0) && bit v 5)))
  pmiPending : t.pmiPending = (s.pmiPending || sprSignals s v r)
  everSignaled : t.everSignaled = (s.everSignaled || sprSignals s v r)
  pmc1Cause : t.pmc1Cause = if r = .pmc1 then .written else s.pmc1Cause
  pmc2Cause : t.pmc2Cause = if r = .pmc2 then .written else s.pmc2Cause
  enintCleared : sprSignals s v r = true → t.mmcr0 = (if r = .mmcr0 then v else s.mmcr0) &&& ~~~(bitMask 5)
  draws : sprSignals s v r = false → t.draws = s.draws
  rises : t.tbRose = s.tbRose ||| (t.tb &&& ~~~s.tb)
  rest : t.withSprsOf s = s

/-- A register that makes nothing signal leaves the flags of the performance monitor alone. -/
theorem SprWritten.of_quiet {s t : State} {v : Word} {r : Spr} (hr : monitorSpr r = false)
    (hvalue : sprValue r t = if r = .xer then v &&& xerBits else v)
    (hothers : ∀ q, q ≠ r → sprValue q t = sprValue q s)
    (hdec : t.decPending = (s.decPending || (decide (r = .dec) && bit v 0 && !bit s.dec 0)))
    (hrises : t.tbRose = s.tbRose ||| (t.tb &&& ~~~s.tb))
    (hrest : t.withSprsOf s = s)
    (hflags : (t.pmSignaled, t.pmiPending, t.everSignaled, t.pmc1Cause, t.pmc2Cause, t.draws) =
      (s.pmSignaled, s.pmiPending, s.everSignaled, s.pmc1Cause, s.pmc2Cause, s.draws) := by rfl) :
    SprWritten s t v r := by
  have hq : sprSignals s v r = false := by simp [sprSignals, hr]
  simp only [Prod.mk.injEq] at hflags
  obtain ⟨hsig, hpend, hever, hc1, hc2, hdraws⟩ := hflags
  simp only [monitorSpr, Bool.or_eq_false_iff, decide_eq_false_iff_not] at hr
  obtain ⟨⟨hm, h1⟩, h2⟩ := hr
  exact {
    value := by simp [hvalue, hm]
    others := fun q hne _ => hothers q hne
    decPending := hdec
    pmSignaled := by simp [hsig, hq, hm]
    pmiPending := by simp [hpend, hq]
    everSignaled := by simp [hever, hq]
    pmc1Cause := by simp [hc1, h1]
    pmc2Cause := by simp [hc2, h2]
    enintCleared := fun h => absurd h (by simp [hq])
    draws := fun _ => hdraws
    rises := hrises
    rest := hrest }

theorem or_rise_same {n : Nat} (rose tb : BitVec n) : rose = rose ||| (tb &&& ~~~tb) := by
  rw [BitVec.and_not_self]
  exact BitVec.or_zero.symm

/-- The write of a register that has no further effect: its own field takes the value. -/
theorem SprWritten.of_plain {s t : State} {v : Word} {r : Spr} (hr : r ∉ [Spr.xer, .dec, .mmcr0, .pmc1, .pmc2])
    (hvalue : sprValue r t = v) (hothers : ∀ q, q ≠ r → sprValue q t = sprValue q s)
    (hdec : t.decPending = s.decPending := by rfl) (htb : (t.tbRose, t.tb) = (s.tbRose, s.tb) := by rfl)
    (hrest : t.withSprsOf s = s := by rfl)
    (hflags : (t.pmSignaled, t.pmiPending, t.everSignaled, t.pmc1Cause, t.pmc2Cause, t.draws) =
      (s.pmSignaled, s.pmiPending, s.everSignaled, s.pmc1Cause, s.pmc2Cause, s.draws) := by rfl) :
    SprWritten s t v r := by
  simp only [List.mem_cons, List.not_mem_nil, or_false, not_or] at hr
  obtain ⟨hx, hd, hm, h1, h2⟩ := hr
  obtain ⟨hrose, htb⟩ := Prod.mk.inj htb
  refine .of_quiet (by simp [monitorSpr, hm, h1, h2]) (by simp [hvalue, hx]) hothers (by simp [hdec, hd]) ?_ hrest hflags
  rw [hrose, htb]
  exact or_rise_same _ _

/-- The signal of the performance monitor reaches MMCR0, SIA and SDA and no other special-purpose register. -/
theorem sprValue_signaled (u : State) (sia sda : Word) (q : Spr) (hq : q ∉ [Spr.mmcr0, .sia, .sda]) :
    sprValue q { (u.drawn 2).signalInterrupt with sia := sia, sda := sda } = sprValue q u := by
  cases q with
  | mmcr0 | sia | sda => exact absurd (by decide) hq
  | _ => rfl

theorem monitorSpr_ne_sample {r : Spr} (hr : monitorSpr r = true) : r ≠ .sia ∧ r ≠ .sda := by
  constructor <;> rintro rfl <;> exact absurd hr (by decide)

/-- After the write of MMCR0, PMC1 or PMC2, which leaves `u`, the performance monitor signals where a counter of `u` does. -/
theorem SprWritten.of_signalNow {s u : State} {v : Word} {r : Spr} (hr : monitorSpr r = true)
    (hsignals : u.countersSignal = sprSignals s v r)
    (hvalue : sprValue r u = v) (hothers : ∀ q, q ≠ r → sprValue q u = sprValue q s)
    (hsig : u.pmSignaled = (s.pmSignaled && !(decide (r = .mmcr0) && bit v 5)))
    (hc1 : u.pmc1Cause = if r = .pmc1 then .written else s.pmc1Cause)
    (hc2 : u.pmc2Cause = if r = .pmc2 then .written else s.pmc2Cause)
    (hmmcr0 : u.mmcr0 = if r = .mmcr0 then v else s.mmcr0)
    (hrest : u.withSprsOf s = s := by rfl)
    (hflags : (u.decPending, u.pmiPending, u.everSignaled, u.tbRose, u.tb, u.draws) =
      (s.decPending, s.pmiPending, s.everSignaled, s.tbRose, s.tb, s.draws) := by rfl) :
    SprWritten s u.signalNow v r := by
  have hx : r ≠ .xer := by
    rintro rfl
    exact absurd hr (by decide)
  have hd : r ≠ .dec := by
    rintro rfl
    exact absurd hr (by decide)
  simp only [Prod.mk.injEq] at hflags
  obtain ⟨hdec, hpend, hever, hrose, htb, hdraws⟩ := hflags
  have hrises : u.tbRose = s.tbRose ||| (u.tb &&& ~~~s.tb) := by
    rw [hrose, htb]
    exact or_rise_same _ _
  cases hu : sprSignals s v r <;> rw [hu] at hsignals
  · rw [u.signalNow_quiet hsignals]
    exact {
      value := by simp [hvalue, hx, hu]
      others := fun q hne _ => hothers q hne
      decPending := by simp [hdec, hd]
      pmSignaled := by simp [hsig, hu]
      pmiPending := by simp [hpend, hu]
      everSignaled := by simp [hever, hu]
      pmc1Cause := hc1
      pmc2Cause := hc2
      enintCleared := fun h => absurd h (by simp [hu])
      draws := fun _ => hdraws
      rises := hrises
      rest := hrest }
  · rw [u.signalNow_signals hsignals]
    exact {
      value := by
        rw [if_neg hx]
        by_cases hm : r = .mmcr0
        · subst hm
          rw [if_pos ⟨rfl, hu⟩, ← hvalue]
          rfl
        · rw [if_neg (fun h => hm h.1), ← hvalue]
          exact sprValue_signaled u _ _ _ (by simpa [hm] using monitorSpr_ne_sample hr)
      others := fun q hne hq => (sprValue_signaled u _ _ _ (hq hu)).trans (hothers q hne)
      decPending := by simp [hdec, hd, State.signalInterrupt]
      pmSignaled := by simp [hu, State.signalInterrupt]
      pmiPending := by simp [hu, State.signalInterrupt]
      everSignaled := by simp [hu, State.signalInterrupt]
      pmc1Cause := hc1
      pmc2Cause := hc2
      enintCleared := fun _ => by rw [← hmmcr0]; rfl
      draws := fun h => absurd h (by simp [hu])
      rises := hrises
      rest := hrest }

theorem extractLow_append (high low : Word) : (high ++ low).extractLsb' 0 32 = low :=
  BitVec.extractLsb'_append_eq_right

theorem extractHigh_append (high low : Word) : (high ++ low).extractLsb' 32 32 = high :=
  BitVec.extractLsb'_append_eq_left

theorem writeSpr_written (s : State) (v : Word) {r : Spr} (hr : r ≠ .pvr) :
    ∃ t, s.writeSpr v r = some t ∧ SprWritten s t v r := by
  cases r with
  | pvr => exact absurd rfl hr
  | lr | ctr | dsisr | dar | sdr1 | srr0 | srr1 | ear | sia | sda | hid0 | iabr | dabr | pir =>
    exact ⟨_, rfl, .of_plain (by decide) rfl fun q hq => by cases q <;> first | rfl | exact absurd rfl hq⟩
  | sprg n =>
    refine ⟨_, rfl, .of_plain (by simp) (by simp [sprValue]) fun q hq => ?_⟩
    cases q with
    | sprg m =>
      have hne : n.toNat ≠ m.toNat := fun h => hq (congrArg Spr.sprg (BitVec.eq_of_toNat_eq h.symm))
      exact Vector.getElem_set_ne n.isLt m.isLt hne
    | _ => rfl
  | bat n =>
    refine ⟨_, rfl, .of_plain (by simp) (by simp [sprValue]) fun q hq => ?_⟩
    cases q with
    | bat m =>
      have hne : n.toNat ≠ m.toNat := fun h => hq (congrArg Spr.bat (BitVec.eq_of_toNat_eq h.symm))
      exact Vector.getElem_set_ne n.isLt m.isLt hne
    | _ => rfl
  | xer =>
    refine ⟨_, rfl, .of_quiet rfl rfl (fun q hq => ?_) (by simp) (or_rise_same _ _) rfl⟩
    cases q with
    | xer => exact absurd rfl hq
    | _ => rfl
  | dec =>
    refine ⟨_, rfl, .of_quiet rfl rfl (fun q hq => ?_) (by simp) (or_rise_same _ _) rfl⟩
    cases q with
    | dec => exact absurd rfl hq
    | _ => rfl
  | tbl =>
    refine ⟨_, rfl, .of_quiet rfl (extractLow_append _ _) (fun q hq => ?_) (by simp) rfl rfl⟩
    cases q with
    | tbl => exact absurd rfl hq
    | tbu => exact extractHigh_append _ _
    | _ => rfl
  | tbu =>
    refine ⟨_, rfl, .of_quiet rfl (extractHigh_append _ _) (fun q hq => ?_) (by simp) rfl rfl⟩
    cases q with
    | tbl => exact extractLow_append _ _
    | tbu => exact absurd rfl hq
    | _ => rfl
  | mmcr0 =>
    refine ⟨_, rfl, .of_signalNow rfl rfl rfl (fun q hq => ?_) (by simp) rfl rfl rfl⟩
    cases q with
    | mmcr0 => exact absurd rfl hq
    | _ => rfl
  | pmc1 =>
    refine ⟨_, rfl, .of_signalNow rfl rfl rfl (fun q hq => ?_) (by simp) rfl rfl rfl⟩
    cases q with
    | pmc1 => exact absurd rfl hq
    | _ => rfl
  | pmc2 =>
    refine ⟨_, rfl, .of_signalNow rfl rfl rfl (fun q hq => ?_) (by simp) rfl rfl rfl⟩
    cases q with
    | pmc2 => exact absurd rfl hq
    | _ => rfl

/-- MMCR0 written so that a counter signals that `mtspr` did not make negative: SIA and SDA are those of the threshold event,
or SIA is the last instruction completed (60_exceptions.md R552). -/
theorem setMmcr0_sampled {s : State} {v : Word} (hs : sprSignals s v .mmcr0 = true)
    (h1 : (bit v 16 && bit s.pmc1 0 && s.pmc1Cause == .written) = false)
    (h2 : (bit v 17 && bit s.pmc2 0 && s.pmc2Cause == .written) = false) :
    (∀ m, (bit v 16 && bit s.pmc1 0) = true → s.pmc1Cause = .threshold m →
      (s.setMmcr0 v).sia = m.insn ∧ (s.setMmcr0 v).sda = m.operand) ∧
    ((bit v 16 && bit s.pmc1 0) = false ∨ s.pmc1Cause = .counted →
      ∀ a, s.lastCompleted = some a → (s.setMmcr0 v).sia = a) := by
  have hw : State.signalsWritten { s with mmcr0 := v, pmSignaled := s.pmSignaled && !bit v 5 } = false := by
    simp only [State.signalsWritten, State.signals1, State.signals2, h1, h2, Bool.or_false]
  have hu : State.countersSignal { s with mmcr0 := v, pmSignaled := s.pmSignaled && !bit v 5 } = true := hs
  rw [State.setMmcr0, State.signalNow_signals _ hu]
  refine ⟨fun m hb hc => ?_, fun hc a ha => ?_⟩
  · rw [State.signalSample_threshold hw hb hc]
    exact ⟨rfl, rfl⟩
  · rw [State.signalSample_counted hw hc]
    simp only [ha, Option.getD_some]

/-- The number of an instruction names a register exactly where it is the register's. -/
theorem eq_ofNat_iff {n : BitVec 10} {r : Spr} (h : n.toNat = sprNumber r) (q : Spr) :
    n = BitVec.ofNat 10 (sprNumber q) ↔ r = q := by
  have hq := sprNumber_lt q
  refine ⟨fun he => sprNumber_inj ?_, ?_⟩
  · rw [← h, he, BitVec.toNat_ofNat, Nat.mod_eq_of_lt hq]
  · rintro rfl
    exact BitVec.eq_of_toNat_eq (by rw [h, BitVec.toNat_ofNat, Nat.mod_eq_of_lt hq])

theorem execMtspr_written {s : State} {n : BitVec 10} {r : Spr} (hmode : s.userMode = false ∨ n.getLsbD 4 = false)
    (hn : n.toNat = sprNumber r) (hr : r ≠ .pvr) (src : BitVec 5) :
    ∃ t, s.writeSpr (s.r src) r = some t ∧ SprWritten s t (s.r src) r ∧ exec (.mtspr src n) s = .next t.advance := by
  obtain ⟨t, ht, hw⟩ := writeSpr_written s (s.r src) hr
  refine ⟨t, ht, hw, ?_⟩
  rw [exec_mtspr, execMtspr, sprAccess_allowed hmode, (sprOf_eq_some n r).mpr hn]
  dsimp only
  rw [ht]

/-- Settles O45: the register written is found by its number, and `writeSpr` writes that one. -/
theorem specialRegisterWrites : Obligations.SpecialRegisterWrites := by
  intro src n s hmode
  refine ⟨fun get hget hpvr => ?_, fun hpvr => ?_, fun hn => ?_⟩
  · obtain ⟨r, hn, rfl⟩ := mem_sprTables hget
    have h1 : n = 1 ↔ r = .xer := eq_ofNat_iff hn .xer
    have h22 : n = 22 ↔ r = .dec := eq_ofNat_iff hn .dec
    have h287 : n = 287 ↔ r = .pvr := eq_ofNat_iff hn .pvr
    have h952 : n = 952 ↔ r = .mmcr0 := eq_ofNat_iff hn .mmcr0
    have h953 : n = 953 ↔ r = .pmc1 := eq_ofNat_iff hn .pmc1
    have h954 : n = 954 ↔ r = .pmc2 := eq_ofNat_iff hn .pmc2
    obtain ⟨t, ht, hw, hexec⟩ := execMtspr_written hmode hn (fun h => hpvr (h287.mpr h)) src
    have hsignals : sprSignals s (s.r src) r =
        ((n == 952 || n == 953 || n == 954) && bit (if n = 952 then s.r src else s.mmcr0) 5 &&
          ((bit (if n = 952 then s.r src else s.mmcr0) 16 && bit (if n = 953 then s.r src else s.pmc1) 0) ||
            (bit (if n = 952 then s.r src else s.mmcr0) 17 && bit (if n = 954 then s.r src else s.pmc2) 0))) := by
      simp only [sprSignals, monitorSpr, beq_eq_decide, h952, h953, h954]
    intro v mmcr0 pmc1 pmc2 signals
    refine .of_next hexec ?_
    have hsig : signals = sprSignals s (s.r src) r := hsignals.symm
    simp only [hsig, h1, h22, h952, h953, h954, beq_eq_decide, mmcr0, sprValue_advance]
    refine ⟨hw.value, fun m other hm hne hq => ?_, hw.decPending, hw.pmSignaled, hw.pmiPending, hw.everSignaled,
      hw.pmc1Cause, hw.pmc2Cause, hw.enintCleared, hw.draws, ?_, fun k hk => ?_, ?_, ?_, ?_⟩
    · obtain ⟨q, hnum, rfl⟩ := mem_sprTables hm
      rw [sprValue_advance]
      refine hw.others q (fun h => hne (by rw [hnum, h, hn])) fun hs hmem => hq hs ?_
      rw [hnum]
      simp only [List.mem_cons, List.not_mem_nil, or_false] at hmem
      rcases hmem with rfl | rfl | rfl <;> decide
    · intro hr hs hc1 hc2
      subst hr
      obtain rfl : s.setMmcr0 (s.r src) = t := Option.some.inj ht
      exact setMmcr0_sampled hs hc1 hc2
    · exact (congrArg (bit · k) hw.rises).trans (bit_rise _ _ _ hk)
    · have hpc : (t.withSprsOf s).pc = s.pc := congrArg State.pc hw.rest
      exact congrArg (· + 4) hpc
    · have hmem : (t.withSprsOf s).mem = s.mem := congrArg State.mem hw.rest
      exact fun a => congrArg (Memory.read · a.toNat) hmem
    · exact congrArg (fun u : State => { u with pc := s.pc }) hw.rest
  · rw [exec_mtspr, execMtspr, sprAccess_allowed hmode, hpvr]
    rfl
  · rw [exec_mtspr, execMtspr, sprAccess_allowed hmode, sprOf_none_of_not_mem hn]
    rfl

end Sys2Proof.Machine
end

section
namespace Sys2Proof.Machine

/-! ## The cycle of the performance monitor -/

section
variable (s : State) (o : MonitorCycle)

/-- A cycle after its counting half: the signal where there is one, SIA and SDA, and the rises forgotten. -/
theorem State.monitorCycle_eq :
    s.monitorCycle o =
      { (if (s.countCycle o).signals then (s.countCycle o).signalInterrupt else s.countCycle o) with
        sia := (s.nextSample (s.countCycle o) o).insn
        sda := (s.nextSample (s.countCycle o) o).operand
        tbRose := 0 } := rfl

@[simp] theorem State.monitorCycle_pmc1 : (s.monitorCycle o).pmc1 = s.nextPmc1 o := by
  rw [State.monitorCycle_eq]; split <;> rfl
@[simp] theorem State.monitorCycle_pmc2 : (s.monitorCycle o).pmc2 = s.nextPmc2 o := by
  rw [State.monitorCycle_eq]; split <;> rfl
@[simp] theorem State.monitorCycle_pmc1Cause :
    (s.monitorCycle o).pmc1Cause = s.pmc1Cause.after s.countedCause s.pmc1 (s.nextPmc1 o) := by
  rw [State.monitorCycle_eq]; split <;> rfl
@[simp] theorem State.monitorCycle_pmc2Cause :
    (s.monitorCycle o).pmc2Cause = s.pmc2Cause.after .counted s.pmc2 (s.nextPmc2 o) := by
  rw [State.monitorCycle_eq]; split <;> rfl
@[simp] theorem State.monitorCycle_thresholdShadow : (s.monitorCycle o).thresholdShadow = s.nextShadow o := by
  rw [State.monitorCycle_eq]; split <;> rfl
@[simp] theorem State.monitorCycle_marked : (s.monitorCycle o).marked = s.nextMarked o := by
  rw [State.monitorCycle_eq]; split <;> rfl
@[simp] theorem State.monitorCycle_sia : (s.monitorCycle o).sia = (s.nextSample (s.countCycle o) o).insn := rfl
@[simp] theorem State.monitorCycle_sda : (s.monitorCycle o).sda = (s.nextSample (s.countCycle o) o).operand := rfl
@[simp] theorem State.monitorCycle_tbRose : (s.monitorCycle o).tbRose = 0 := rfl

/-- Everything that a cycle may change is named. -/
theorem State.monitorCycle_rest :
    { s.monitorCycle o with
      pmc1 := s.pmc1, pmc2 := s.pmc2, mmcr0 := s.mmcr0, pmiPending := s.pmiPending, pmSignaled := s.pmSignaled
      everSignaled := s.everSignaled, sia := s.sia, sda := s.sda, thresholdShadow := s.thresholdShadow, tbRose := s.tbRose
      marked := s.marked, pmc1Cause := s.pmc1Cause, pmc2Cause := s.pmc2Cause } = s := by
  rw [State.monitorCycle_eq]; split <;> rfl

/-- The signal of a cycle, on the counters after its counting (60_exceptions.md R543). -/
theorem State.countCycle_signals :
    (s.countCycle o).signals = (bit s.mmcr0 5 && ((bit s.mmcr0 16 && bit (s.nextPmc1 o) 0) ||
      (bit s.mmcr0 17 && bit (s.nextPmc2 o) 0) || (bit s.mmcr0 9 && s.timeBaseRose))) := by
  have h : (s.countCycle o).signals = ((bit s.mmcr0 5 && ((bit s.mmcr0 16 && bit (s.nextPmc1 o) 0) ||
      (bit s.mmcr0 17 && bit (s.nextPmc2 o) 0))) || (bit s.mmcr0 5 && bit s.mmcr0 9 && s.timeBaseRose)) := rfl
  rw [h]
  cases bit s.mmcr0 5 <;> simp

theorem State.monitorCycle_signaled (h : (s.countCycle o).signals = true) :
    (s.monitorCycle o).mmcr0 = writeBit s.mmcr0 5 false ∧ (s.monitorCycle o).pmiPending = true ∧
      (s.monitorCycle o).pmSignaled = true ∧ (s.monitorCycle o).everSignaled = true := by
  rw [State.monitorCycle_eq, if_pos h]
  exact ⟨rfl, rfl, rfl, rfl⟩

theorem State.monitorCycle_unsignaled (h : (s.countCycle o).signals = false) :
    (s.monitorCycle o).mmcr0 = s.mmcr0 ∧ (s.monitorCycle o).pmiPending = s.pmiPending ∧
      (s.monitorCycle o).pmSignaled = s.pmSignaled ∧ (s.monitorCycle o).everSignaled = s.everSignaled := by
  rw [State.monitorCycle_eq, if_neg (by simp [h])]
  exact ⟨rfl, rfl, rfl, rfl⟩

/-! ### What a cycle counts -/

/-- Counting is blocked by the freeze bits of MMCR0 in the mode that MSR says (R541). -/
theorem State.countEnabled_eq :
    s.countEnabled = !(bit s.mmcr0 0 || (bit s.mmcr0 1 && !bit s.msr 17) || (bit s.mmcr0 2 && bit s.msr 17) ||
      (bit s.mmcr0 3 && bit s.msr 29) || (bit s.mmcr0 4 && !bit s.msr 29)) := by
  simp only [State.countEnabled, Bool.not_or]

theorem State.nextPmc1_stopped (h : s.countEnabled = false ∨ s.frozen1 = true) : s.nextPmc1 o = s.pmc1 := by
  rcases h with h | h <;> simp [State.nextPmc1, h]

theorem State.nextPmc2_stopped (h : s.countEnabled = false ∨ s.frozen2 = true ∨ s.triggered2 = false) :
    s.nextPmc2 o = s.pmc2 := by
  rcases h with h | h | h <;> simp [State.nextPmc2, h]

theorem State.nextPmc1_counting (he : s.countEnabled = true) (hf : s.frozen1 = false) :
    s.nextPmc1 o = s.pmc1 + BitVec.ofNat 32 (s.count1 o) := by
  simp [State.nextPmc1, he, hf]

theorem State.nextPmc2_counting (he : s.countEnabled = true) (hf : s.frozen2 = false) (ht : s.triggered2 = true) :
    s.nextPmc2 o = s.pmc2 + BitVec.ofNat 32 (s.count2 o) := by
  simp [State.nextPmc2, he, hf, ht]

/-- PMC1 counts within the range of its event (R546). -/
theorem State.count1_le :
    s.count1 o ≤ if select1 s.mmcr0 ∈ [2, 4, 14, 15] ∨ 25 ≤ select1 s.mmcr0 then 4 else 1 := by
  have hbool : ∀ b : Bool, b.toNat ≤ 1 := by decide
  have hrose := hbool s.timeBaseRose
  have hexceeded := hbool s.thresholdExceeded
  unfold State.count1
  simp only [List.mem_cons, List.not_mem_nil, or_false]
  generalize select1 s.mmcr0 = n
  split_ifs <;> omega

/-- PMC2 counts within the range of its event (R547). -/
theorem State.count2_le :
    s.count2 o ≤ if select2 s.mmcr0 ∈ [2, 4, 18] ∨ 21 ≤ select2 s.mmcr0 then 4 else if select2 s.mmcr0 = 8 then 2 else 1 := by
  have hrose : s.timeBaseRose.toNat ≤ 1 := Bool.toNat_le _
  unfold State.count2
  simp only [List.mem_cons, List.not_mem_nil, or_false]
  generalize select2 s.mmcr0 = n
  split_ifs <;> omega

theorem State.count1_fixed :
    (select1 s.mmcr0 = 0 → s.count1 o = 0) ∧ (select1 s.mmcr0 = 1 → s.count1 o = 1) ∧
      (select1 s.mmcr0 = 3 → s.count1 o = s.timeBaseRose.toNat) := by
  refine ⟨fun h => ?_, fun h => ?_, fun h => ?_⟩ <;> simp [State.count1, h]

theorem State.count2_fixed :
    (select2 s.mmcr0 = 0 → s.count2 o = 0) ∧ (select2 s.mmcr0 = 1 → s.count2 o = 1) ∧
      (select2 s.mmcr0 = 3 → s.count2 o = s.timeBaseRose.toNat) := by
  refine ⟨fun h => ?_, fun h => ?_, fun h => ?_⟩ <;> simp [State.count2, h]

theorem isThreshold_iff (n : Nat) : isThreshold n = true ↔ n ∈ [9, 10, 23, 24] := by
  simp [isThreshold, or_assoc]

/-- A threshold event counts where the time of the miss has run out (R550). -/
theorem State.count1_threshold (h : isThreshold (select1 s.mmcr0) = true) : s.count1 o = s.thresholdExceeded.toNat := by
  have hn := (isThreshold_iff _).mp h
  simp only [List.mem_cons, List.not_mem_nil, or_false] at hn
  unfold State.count1
  simp only [h, if_true]
  rcases hn with hn | hn | hn | hn <;> simp [hn]

theorem State.thresholdExceeded_iff : s.thresholdExceeded = true ↔ s.marked ≠ none ∧ s.thresholdShadow = 0 := by
  simp [State.thresholdExceeded, Option.isSome_iff_ne_none]

theorem State.countedCause_threshold {m : Sample} (h : isThreshold (select1 s.mmcr0) = true) (hm : s.marked = some m) :
    s.countedCause = .threshold m := by
  simp [State.countedCause, hm, h]

/-! ### The timing of a miss -/

theorem State.arrival {k : Nat} {m : Sample} (hk : o.missArrives = some k) (hm : s.accesses[k]? = some m) :
    s.nextMarked o = some m ∧ s.nextShadow o = field s.mmcr0 10 15 := by
  have ha : s.arriving o = some m := by rw [State.arriving, hk, Option.bind_some, hm]
  simp [State.nextMarked, State.nextShadow, ha]

theorem State.no_arrival (h : o.missArrives = none) :
    s.nextShadow o = (if s.thresholdShadow = 0 then 0 else s.thresholdShadow - 1) ∧
      s.nextMarked o = (if s.thresholdShadow = 0 ∨ o.missEnds = true then none else s.marked) := by
  have ha : s.arriving o = none := by rw [State.arriving, h, Option.bind_none]
  refine ⟨by simp [State.nextShadow, ha], ?_⟩
  rw [State.nextMarked, ha, State.thresholdExceeded]
  rcases hm : s.marked with _ | m
  · simp
  · simp

/-! ### Sampling -/

/-- At a signal SIA and SDA are those of the signal: they were not frozen, because ENINT was 1 (R552). -/
theorem State.nextSample_signaled (h : (s.countCycle o).signals = true) :
    s.nextSample (s.countCycle o) o = (s.countCycle o).signalSample ⟨o.someInsn, o.someOperand⟩ := by
  have hen : bit s.mmcr0 5 = true := by
    rw [State.countCycle_signals, Bool.and_eq_true] at h
    exact h.1
  simp [State.nextSample, State.samplesFrozen, hen, h]

theorem State.nextSample_frozen (t : State) (he : s.everSignaled = true) (hm : bit s.mmcr0 5 = false) :
    s.nextSample t o = ⟨s.sia, s.sda⟩ := by
  simp [State.nextSample, State.samplesFrozen, he, hm]

end

section
variable (s : State) (o : MonitorCycle)

/-- Where the time-base bit that RTCSELECT names has risen, its event counts one (R553). -/
theorem toNat_timeBaseRose : BitVec.ofNat 32 s.timeBaseRose.toNat = if s.timeBaseRose = true then 1 else 0 := by
  cases s.timeBaseRose <;> rfl

/-- How PMC2 counts where it does (R542, R547). -/
theorem State.pmc2_counts (he : s.countEnabled = true) (hf : s.frozen2 = false) (ht : s.triggered2 = true) :
    (select2 s.mmcr0 = 0 → s.nextPmc2 o = s.pmc2) ∧ (select2 s.mmcr0 = 1 → s.nextPmc2 o = s.pmc2 + 1) ∧
      (select2 s.mmcr0 = 3 → s.nextPmc2 o = s.pmc2 + if s.timeBaseRose = true then 1 else 0) := by
  obtain ⟨h0, h1, h3⟩ := s.count2_fixed o
  rw [s.nextPmc2_counting o he hf ht]
  refine ⟨fun h => ?_, fun h => ?_, fun h => ?_⟩
  · simp [h0 h]
  · rw [h1 h]
    rfl
  · rw [h3 h, toNat_timeBaseRose]

/-- How PMC1 counts where it does (R542, R546). -/
theorem State.pmc1_counts (he : s.countEnabled = true) (hf : s.frozen1 = false) :
    (select1 s.mmcr0 = 0 → s.nextPmc1 o = s.pmc1) ∧ (select1 s.mmcr0 = 1 → s.nextPmc1 o = s.pmc1 + 1) ∧
      (select1 s.mmcr0 = 3 → s.nextPmc1 o = s.pmc1 + if s.timeBaseRose = true then 1 else 0) := by
  obtain ⟨h0, h1, h3⟩ := s.count1_fixed o
  rw [s.nextPmc1_counting o he hf]
  refine ⟨fun h => ?_, fun h => ?_, fun h => ?_⟩
  · simp [h0 h]
  · rw [h1 h]
    rfl
  · rw [h3 h, toNat_timeBaseRose]

/-- PMC1 under a threshold event: it counts the miss whose time has run out, and that miss is the cause where PMC1
becomes negative (R550, R552). -/
theorem State.pmc1_threshold (he : s.countEnabled = true) (hf : s.frozen1 = false)
    (hn : isThreshold (select1 s.mmcr0) = true) :
    s.nextPmc1 o = s.pmc1 + (if s.marked ≠ none ∧ s.thresholdShadow = 0 then 1 else 0) ∧
      ∀ m, s.marked = some m → bit s.pmc1 0 = false → bit (s.nextPmc1 o) 0 = true →
        s.pmc1Cause.after s.countedCause s.pmc1 (s.nextPmc1 o) = .threshold m := by
  refine ⟨?_, fun m hm h0 h1 => ?_⟩
  · rw [s.nextPmc1_counting o he hf, s.count1_threshold o hn]
    congr 1
    simp only [← s.thresholdExceeded_iff]
    cases s.thresholdExceeded <;> rfl
  · simp [NegativeCause.after, h0, h1, s.countedCause_threshold hn hm]

/-- What SIA and SDA hold after a signal that no `mtspr` caused (R552). -/
theorem State.monitorCycle_sampled (h : (s.countCycle o).signals = true)
    (hw : (s.countCycle o).signalsWritten = false) :
    (∀ m, (s.countCycle o).signals1 = true → (s.countCycle o).pmc1Cause = .threshold m →
      (s.monitorCycle o).sia = m.insn ∧ (s.monitorCycle o).sda = m.operand) ∧
    ((s.countCycle o).signals1 = false ∨ (s.countCycle o).pmc1Cause = .counted →
      ∀ a, s.lastCompleted = some a → (s.monitorCycle o).sia = a) := by
  rw [State.monitorCycle_sia, State.monitorCycle_sda, s.nextSample_signaled o h]
  refine ⟨fun m h1 hc => ?_, fun hc a ha => ?_⟩
  · rw [State.signalSample_threshold hw h1 hc]
    exact ⟨rfl, rfl⟩
  · have hlast : (s.countCycle o).lastCompleted = some a := ha
    rw [State.signalSample_counted hw hc, hlast]
    rfl

end

/-- Settles O59: clause by clause, each by the lemma about the part of the cycle that it speaks of. -/
theorem monitorCountsAndSignals : Obligations.MonitorCountsAndSignals := by
  refine ⟨fun s o rest hs hc => step_clocked_running (f := fun u => u.monitorCycle o) hs (by simp) (fun _ => rfl) hc,
    fun s o => ?_⟩
  intro blocked t rose signals frozen2 triggered2 n1 n2
  have henabled : s.countEnabled = !blocked := s.countEnabled_eq
  have hpmc1 : t.pmc1 = s.nextPmc1 o := s.monitorCycle_pmc1 o
  have hpmc2 : t.pmc2 = s.nextPmc2 o := s.monitorCycle_pmc2 o
  have hcause1 : t.pmc1Cause = s.pmc1Cause.after s.countedCause s.pmc1 (s.nextPmc1 o) := s.monitorCycle_pmc1Cause o
  have hcause2 : t.pmc2Cause = s.pmc2Cause.after .counted s.pmc2 (s.nextPmc2 o) := s.monitorCycle_pmc2Cause o
  have hsignals : (s.countCycle o).signals = signals := by
    rw [s.countCycle_signals, ← hpmc1, ← hpmc2]
    rfl
  refine ⟨fun hb => ?_, fun h6 hp => ?_, fun h => ?_, fun hb hf ht => ?_, fun hb hf => ?_, fun k m hk hm => ?_,
    fun hn => ?_, fun hs hw2 hw1 => ?_, fun hs => ?_, fun hs => ?_, fun he hm => ?_, s.monitorCycle_tbRose o,
    s.monitorCycle_rest o⟩
  case refine_1 =>
    have he : s.countEnabled = false := by rw [henabled, hb]; rfl
    exact ⟨hpmc1.trans (s.nextPmc1_stopped o (.inl he)), hpmc2.trans (s.nextPmc2_stopped o (.inl he))⟩
  case refine_2 => exact hpmc1.trans (s.nextPmc1_stopped o (.inr (by simp [State.frozen1, h6, hp])))
  case refine_3 => exact hpmc2.trans (s.nextPmc2_stopped o (.inr h))
  case refine_4 =>
    have he : s.countEnabled = true := by rw [henabled, hb]; rfl
    rw [hpmc2]
    obtain ⟨h0, h1, h3⟩ := s.pmc2_counts o he hf ht
    exact ⟨h0, h1, h3, s.count2 o, s.count2_le o, s.nextPmc2_counting o he hf ht⟩
  case refine_5 =>
    have he : s.countEnabled = true := by rw [henabled, hb]; rfl
    have hf1 : s.frozen1 = false := by rcases hf with hf | hf <;> simp [State.frozen1, hf]
    rw [hpmc1, hcause1]
    obtain ⟨h0, h1, h3⟩ := s.pmc1_counts o he hf1
    exact ⟨h0, h1, h3, ⟨s.count1 o, s.count1_le o, s.nextPmc1_counting o he hf1⟩,
      fun hn => s.pmc1_threshold o he hf1 ((isThreshold_iff _).mpr hn)⟩
  case refine_6 =>
    obtain ⟨hmarked, hshadow⟩ := s.arrival o hk hm
    exact ⟨(s.monitorCycle_marked o).trans hmarked, (s.monitorCycle_thresholdShadow o).trans hshadow⟩
  case refine_7 =>
    obtain ⟨hshadow, hmarked⟩ := s.no_arrival o hn
    exact ⟨(s.monitorCycle_thresholdShadow o).trans hshadow, (s.monitorCycle_marked o).trans hmarked⟩
  case refine_8 =>
    rw [hpmc2, hcause2] at hw2
    rw [hpmc1, hcause1] at hw1 ⊢
    refine s.monitorCycle_sampled o (hsignals.trans hs) ?_
    exact Bool.or_eq_false_iff.mpr ⟨hw1, hw2⟩
  case refine_9 =>
    obtain ⟨hmmcr0, hpending, hsignaled, hever⟩ := s.monitorCycle_signaled o (hsignals.trans hs)
    refine ⟨hpending, hsignaled, hever, ?_, fun k hk hk5 => ?_⟩
    · rw [hmmcr0, bit_writeBit _ (by decide) (by decide), if_pos rfl]
    · rw [hmmcr0, bit_writeBit _ (by decide) hk, if_neg hk5]
  case refine_10 =>
    obtain ⟨hmmcr0, hpending, hsignaled, hever⟩ := s.monitorCycle_unsignaled o (hsignals.trans hs)
    exact ⟨hpending, hsignaled, hever, hmmcr0⟩
  case refine_11 =>
    have hsample := s.nextSample_frozen o (s.countCycle o) he hm
    exact ⟨by rw [s.monitorCycle_sia, hsample], by rw [s.monitorCycle_sda, hsample]⟩

end Sys2Proof.Machine
end

section
namespace Sys2Proof.Machine

/-! ## Accesses that DABR watches and accesses outside the map -/

theorem watchCause_eq (store : Bool) : watchCause store = if store then 0x02400000 else 0x00400000 := by
  cases store <;> decide

theorem span_eq_map (a : Word) (n : Nat) : span a n = (List.range n).map fun k => a + BitVec.ofNat 32 k := by
  induction n generalizing a with
  | zero => rfl
  | succ n ih =>
    rw [span, ih, List.range_succ_eq_map, List.map_cons, List.map_map]
    refine congrArg₂ _ (BitVec.add_zero a).symm (List.map_congr_left fun k _ => ?_)
    rw [Function.comp_apply, Nat.succ_eq_one_add, BitVec.ofNat_add, ← BitVec.add_assoc]
    rfl

/-- An access is watched where one of its bytes is. -/
theorem State.watched_iff (s : State) (store : Bool) (ea : Word) (n : Nat) :
    s.watched store ea n = true ↔ ∃ a ∈ span ea n, s.watched store a 1 = true := by
  simp only [State.watched, span, List.any_cons, List.any_nil, Bool.or_false, Bool.and_eq_true, List.any_eq_true]
  exact ⟨fun ⟨hd, a, ha, he⟩ => ⟨a, ha, hd, he⟩, fun ⟨a, ha, hd, he⟩ => ⟨hd, a, ha, he⟩⟩

/-- A split access with a watched byte takes the data storage interrupt of the first one. -/
theorem unwatched_first {α : Type} {store : Bool} {ea : Word} {n : Nat} {s : State} (hw : s.watched store ea n = true)
    (go : Access α) :
    ∃ k, k < n ∧ s.watched store (ea + BitVec.ofNat 32 k) 1 = true ∧
      (∀ j, j < k → s.watched store (ea + BitVec.ofNat 32 j) 1 = false) ∧
      unwatched store ea n s go = .stop (raiseDsi (watchCause store) (ea + BitVec.ofNat 32 k) s) := by
  obtain ⟨a, ha, h1⟩ := (s.watched_iff store ea n).mp hw
  cases hfind : (List.range n).find? fun k => s.watched store (ea + BitVec.ofNat 32 k) 1 with
  | none =>
    obtain ⟨k, hk, rfl⟩ := (mem_span ea a n).mp ha
    exact absurd h1 (List.find?_eq_none.mp hfind k (List.mem_range.mpr hk))
  | some k =>
    obtain ⟨hk, hmem, hfirst⟩ := List.find?_range_eq_some.mp hfind
    refine ⟨k, List.mem_range.mp hmem, hk, fun j hj => by simpa using hfirst j hj, ?_⟩
    have hspan : (span ea n).find? (fun b => s.watched store b 1) = some (ea + BitVec.ofNat 32 k) := by
      rw [span_eq_map, List.find?_map]
      exact congrArg (Option.map _) hfind
    simp only [unwatched, hspan]

/-- The DSI of an access, seen from a state that differs in the draws at most. -/
theorem raiseDsi_drawn (store : Bool) (ea : Word) (s : State) (draws : Nat) :
    Completes (raiseDsi (watchCause store) ea (s.drawn draws)) fun t =>
      DsiTaken s t (if store then 0x02400000 else 0x00400000) ea := by
  rw [← watchCause_eq]
  exact .of_next rfl ⟨rfl, rfl, rfl⟩

/-! ### Loads and stores of one register -/

/-- The first thing that the instruction does is its access: the read or the write of `n` bytes at `ea` by its own word, of
which what follows sees nothing where it stops. A store may have drawn its data before (46_fp_load_store.md R389). -/
inductive OneAccess (i : Instr) (s : State) (ea : Word) : Bool → Nat → Prop where
  | load (base : Bool) (n : Nat) (next : List Byte → State → Result)
      (h : exec i s = (loadData (encode i) base ea n s).andThen next) : OneAccess i s ea false n
  | store (base : Bool) (data : List Byte) (draws : Nat) (next : Unit → State → Result)
      (h : exec i s = (storeData (encode i) base ea data (s.drawn draws)).andThen next) {n : Nat} (hn : data.length = n) :
      OneAccess i s ea true n

section
variable {i : Instr} {s : State} {ea : Word}

theorem loadInto_access {update : Option (BitVec 5)} {d : BitVec 5} {n : Nat} {value : List Byte → Word}
    (h : exec i s = loadInto (encode i) update d ea n value s) : OneAccess i s ea false n :=
  .load _ n _ (h.trans (loadInto_eq _ update d ea n value s))

theorem storeFrom_access {update : Option (BitVec 5)} {data : List Byte}
    (h : exec i s = storeFrom (encode i) update ea data s) {n : Nat} (hn : data.length = n) : OneAccess i s ea true n :=
  .store _ data 0 _ (h.trans (storeFrom_eq _ update ea data s)) hn

theorem floatLoad_access {update : Option (BitVec 5)} {d : BitVec 5} {n : Nat} {value : List Byte → Dword}
    (hf : bit s.msr 18 = true) (h : exec i s = floatLoad (encode i) update d ea n value s) : OneAccess i s ea false n :=
  .load _ n _ (h.trans ((floatLoad_eq _ update d ea n value s).trans (if_pos hf)))

theorem floatStore_access {update : Option (BitVec 5)} {data : List Byte} (hf : bit s.msr 18 = true)
    (h : exec i s = floatStore (encode i) update ea data s) {n : Nat} (hn : data.length = n) : OneAccess i s ea true n :=
  .store _ data 0 _ (h.trans ((floatStore_eq _ update ea data s).trans (if_pos hf))) hn

theorem drawnForSingle_eq (s : State) (v : Dword) : ∃ draws, drawnForSingle s v = s.drawn draws := by
  unfold drawnForSingle
  cases singleOf v with
  | some w => exact ⟨0, rfl⟩
  | none => exact ⟨1, rfl⟩

theorem storeSingle_access {update : Option (BitVec 5)} {v : Dword} (hf : bit s.msr 18 = true)
    (h : exec i s = storeSingle (encode i) update ea v s) : OneAccess i s ea true 4 := by
  obtain ⟨draws, hdraws⟩ := drawnForSingle_eq s v
  have hstore : exec i s =
      floatStore (encode i) update ea (bytesOf 4 (storedSingle s v).toNat) (s.drawn draws) := by
    rw [h, ← hdraws]
    exact if_pos hf
  exact .store _ _ draws _ (hstore.trans ((floatStore_eq _ update ea _ _).trans (if_pos hf))) rfl

/-- Every load and store of one register is one access. -/
theorem exec_oneAccess {store : Bool} {n : Nat} (hn : accessSize i = some (store, n))
    (hea : effectiveAddress i s = some ea) (hf : needsFloat i = true → bit s.msr 18 = true) :
    OneAccess i s ea store n := by
  cases i with
  | lbz | lbzu | lbzx | lbzux | lhz | lhzu | lhzx | lhzux | lha | lhau | lhax | lhaux | lwz | lwzu | lwzx | lwzux | lhbrx
  | lwbrx =>
    cases hn
    cases hea
    exact loadInto_access rfl
  | stb | stbu | stbx | stbux | sth | sthu | sthx | sthux | stw | stwu | stwx | stwux | sthbrx | stwbrx =>
    cases hn
    cases hea
    exact storeFrom_access rfl (by rfl)
  | lfs | lfsu | lfsx | lfsux | lfd | lfdu | lfdx | lfdux =>
    cases hn
    cases hea
    exact floatLoad_access (hf rfl) rfl
  | stfs | stfsu | stfsx | stfsux =>
    cases hn
    cases hea
    exact storeSingle_access (hf rfl) rfl
  | stfd | stfdu | stfdx | stfdux | stfiwx =>
    cases hn
    cases hea
    exact floatStore_access (hf rfl) rfl (by rfl)
  | _ => cases hn

/-- An aligned access that DABR watches takes the data storage interrupt (R503). -/
theorem OneAccess.watched {store : Bool} {n : Nat} (h : OneAccess i s ea store n) (ha : aligned ea n = true)
    (hw : s.watched store ea n = true) :
    Completes (exec i s) fun t => DsiTaken s t (if store then 0x02400000 else 0x00400000) ea := by
  cases h with
  | load base n next h =>
    rw [h, loadData, if_pos ha, readSpan_watched hw]
    exact raiseDsi_drawn false ea s 0
  | store base data draws next h hn =>
    subst hn
    rw [h, storeData, if_pos ha, writeSpan_watched (s := s.drawn draws) hw]
    exact raiseDsi_drawn true ea s draws

/-- A misaligned access that is split takes it at its first watched byte, before any of its byte accesses (log 48). -/
theorem OneAccess.split_watched {store : Bool} {n : Nat} (h : OneAccess i s ea store n) (ha : aligned ea n = false)
    (hp : Config.misalignedTraps (encode i) ea = false) (hw : s.watched store ea n = true) :
    Completes (exec i s) fun t => ∃ k, k < n ∧ s.watched store (ea + BitVec.ofNat 32 k) 1 = true ∧
      (∀ j, j < k → s.watched store (ea + BitVec.ofNat 32 j) 1 = false) ∧
      DsiTaken s t (if store then 0x02400000 else 0x00400000) (ea + BitVec.ofNat 32 k) := by
  have hna : ¬ aligned ea n = true := by simp [ha]
  have hnp : ¬ Config.misalignedTraps (encode i) ea = true := by simp [hp]
  cases h with
  | load base n next h =>
    obtain ⟨k, hk, h1, hfirst, hu⟩ := unwatched_first hw (readSplit ea n s)
    obtain ⟨t, ht, hdsi⟩ := raiseDsi_drawn false (ea + BitVec.ofNat 32 k) s 0
    rw [h, loadData, if_neg hna, if_neg hnp, hu]
    exact ⟨t, ht, k, hk, h1, hfirst, hdsi⟩
  | store base data draws next h hn =>
    subst hn
    obtain ⟨k, hk, h1, hfirst, hu⟩ := unwatched_first (s := s.drawn draws) hw (writeSplit ea data (s.drawn draws))
    obtain ⟨t, ht, hdsi⟩ := raiseDsi_drawn true (ea + BitVec.ofNat 32 k) s draws
    rw [h, storeData, if_neg hna, if_neg hnp, hu]
    exact ⟨t, ht, k, hk, h1, hfirst, hdsi⟩

/-- An aligned access outside MEM_MAP that DABR does not watch is refused (D6). -/
theorem OneAccess.outside {store : Bool} {n : Nat} (h : OneAccess i s ea store n) (ha : aligned ea n = true)
    (hw : s.watched store ea n = false) (hk : kindOf s.memMap ea n = none) : exec i s = .refused .outsideMemMap := by
  cases h with
  | load base n next h =>
    rw [h, loadData, if_pos ha, readSpan_outside hw hk]
    rfl
  | store base data draws next h hn =>
    subst hn
    rw [h, storeData, if_pos ha, writeSpan_outside (s := s.drawn draws) hw hk]
    rfl

end

/-! ### lwarx, stwcx. and dcbz -/

theorem exec_lwarx_watched {d a b : BitVec 5} {s : State} (ha : aligned (s.eaX a b) 4 = true)
    (hw : s.watched false (s.eaX a b) 4 = true) :
    Completes (exec (.lwarx d a b) s) fun t => DsiTaken s t 0x00400000 (s.eaX a b) := by
  rw [exec_lwarx, execLwarx_eq, neverSplit, if_pos ha, readSpan_watched hw]
  exact raiseDsi_drawn false _ s 0

theorem exec_stwcx_watched {src a b : BitVec 5} {s : State} (ha : aligned (s.eaX a b) 4 = true)
    (hw : s.watched true (s.eaX a b) 4 = true) (hr : s.reserve = true)
    (hg : s.reserveAddr = (s.eaX a b).extractLsb' 5 27) :
    Completes (exec (.stwcx_rc src a b) s) fun t => DsiTaken s t 0x02400000 (s.eaX a b) := by
  have hgranule : granule (s.eaX a b) = s.reserveAddr := by rw [granule_eq, hg]
  have hexec : exec (.stwcx_rc src a b) s = storeConditional src (s.eaX a b) s := by
    simp only [exec_stwcx_rc, execStwcxRc, neverSplit, ha, hr, hgranule, if_true, Bool.not_true, Bool.false_eq_true,
      if_false]
  rw [hexec, storeConditional_eq, writeSpan_watched hw]
  exact raiseDsi_drawn true _ s 0

theorem exec_dcbz_watched {a b : BitVec 5} {s : State} {block : Word} (hb : block.toNat = (s.eaX a b).toNat / 32 * 32)
    (hw : s.watched true block 32 = true) (hk : kindOf s.memMap block 32 ≠ some .device) :
    Completes (exec (.dcbz a b) s) fun t => DsiTaken s t 0x02400000 (s.eaX a b) := by
  obtain rfl : block = blockBase (s.eaX a b) := BitVec.eq_of_toNat_eq (hb.trans (toNat_blockBase _).symm)
  rw [exec_dcbz, execDcbz]
  refine ⟨_, (if_neg hk).trans (if_pos hw), ?_⟩
  exact ⟨rfl, watchCause_eq true, rfl⟩

end Sys2Proof.Machine
end

section
namespace Sys2Proof.Machine

/-! ## Bytes of words -/

/-- Byte `k` of a register, the most significant first, by its place from the right. -/
theorem getByte_eq (w : Word) {k : Nat} (hk : k < 4) : getByte w k = wordByte w (3 - k) := by
  apply BitVec.eq_of_getLsbD_eq
  intro m hm
  simp only [getByte, wordByte, BitVec.getLsbD_setWidth, BitVec.getLsbD_ushiftRight, BitVec.getLsbD_extractLsb']
  rw [show 8 * (3 - k) = 24 - 8 * k by omega]

theorem getLsbD_putByte (w : Word) (b : Byte) {k m : Nat} (hk : k < 4) (hm : m < 32) :
    (putByte w k b).getLsbD m = if m / 8 = 3 - k then b.getLsbD (m % 8) else w.getLsbD m := by
  have hplace : 31 - (8 * k + 7) = 24 - 8 * k := by omega
  simp only [putByte, writeField, fieldMask, BitVec.getLsbD_or, BitVec.getLsbD_and, BitVec.getLsbD_not,
    BitVec.getLsbD_shiftLeft, BitVec.getLsbD_setWidth, BitVec.getLsbD_allOnes, hm, hplace, decide_true, Bool.true_and]
  by_cases h : m / 8 = 3 - k
  · simp [h, show ¬ m < 24 - 8 * k by omega, show m - (24 - 8 * k) = m % 8 by omega, Nat.mod_lt,
      show m % 8 < 32 by omega]
  · by_cases hl : m < 24 - 8 * k
    · simp [h, hl]
    · have hb : b.getLsbD (m - (24 - 8 * k)) = false := BitVec.getLsbD_of_ge _ _ (by omega)
      simp [h, hb, show ¬ m - (24 - 8 * k) < 8 by omega]

theorem wordByte_putByte (w : Word) (b : Byte) {k i : Nat} (hk : k < 4) (hi : i < 4) :
    wordByte (putByte w k b) (3 - i) = if i = k then b else wordByte w (3 - i) := by
  apply BitVec.eq_of_getLsbD_eq
  intro m hm
  simp only [wordByte, BitVec.getLsbD_extractLsb', hm, decide_true, Bool.true_and]
  rw [getLsbD_putByte _ _ hk (by omega)]
  by_cases h : i = k
  · subst h
    rw [if_pos (by omega), if_pos rfl, show (8 * (3 - i) + m) % 8 = m by omega]
  · rw [if_neg (by omega), if_neg h]
    simp [hm]

theorem toNat_wordByte (w : Word) (k : Nat) : (wordByte w k).toNat = w.toNat / 2 ^ (8 * k) % 256 := by
  simp [wordByte, BitVec.extractLsb'_toNat, Nat.shiftRight_eq_div_pow]

/-- A word is the number that its bytes spell (20_memory.md R80). -/
theorem wordOf_wordBytes (w : Word) : wordOf [wordByte w 3, wordByte w 2, wordByte w 1, wordByte w 0] = w := by
  have := w.isLt
  apply BitVec.eq_of_toNat_eq
  simp only [wordOf, natOf, List.foldl_cons, List.foldl_nil, toNat_wordByte, BitVec.toNat_ofNat]
  omega

/-- The bytes of a register as a store of a word has them. -/
theorem lowBytes_getElem (v : Word) {k : Nat} (hk : k < 4) : (lowBytes 4 v)[k]? = some (wordByte v (3 - k)) := by
  have hbyte : ∀ j, BitVec.ofNat 8 (v.toNat / 256 ^ j) = wordByte v j := fun j => by
    apply BitVec.eq_of_toNat_eq
    rw [toNat_wordByte, BitVec.toNat_ofNat, Nat.pow_mul]
  have hbytes : lowBytes 4 v = [wordByte v 3, wordByte v 2, wordByte v 1, wordByte v 0] := by
    simp only [lowBytes, bytesOf, hbyte]
  rw [hbytes]
  interval_cases k <;> rfl

theorem add_ofNat_inj {n : Nat} {a : BitVec n} {i j : Nat} (hi : i < 2 ^ n) (hj : j < 2 ^ n) :
    a + BitVec.ofNat n i = a + BitVec.ofNat n j ↔ i = j := by
  rw [BitVec.add_right_inj, ← BitVec.toNat_inj, BitVec.toNat_ofNat, BitVec.toNat_ofNat, Nat.mod_eq_of_lt hi,
    Nat.mod_eq_of_lt hj]

theorem add_ofNat_add {n : Nat} (a : BitVec n) (i j : Nat) :
    a + BitVec.ofNat n i + BitVec.ofNat n j = a + BitVec.ofNat n (i + j) := by
  rw [BitVec.add_assoc, BitVec.ofNat_add]

/-! ## Instructions of many accesses -/

/-- The state after the first `m` accesses of an instruction, `f j` what access `j` does. -/
def State.after (s : State) (f : Nat → State → State) : Nat → State
  | 0 => s
  | m + 1 => f m (s.after f m)

section
variable {s : State} {f : Nat → State → State} {m : Nat}

/-- An instruction whose first `m` accesses are done goes on from the state after them. -/
theorem access_after {access : Nat → Nat → State → Access Unit}
    (hstep : ∀ j left, j < m → access (left + 1) j (s.after f j) = access left (j + 1) (s.after f (j + 1))) (left : Nat) :
    access (m + left) 0 s = access left m (s.after f m) := by
  induction m generalizing left with
  | zero => rw [Nat.zero_add]; rfl
  | succ m ih =>
    rw [Nat.add_assoc, Nat.add_comm 1 left, ih (fun j left hj => hstep j left (by omega)), hstep m left (Nat.lt_succ_self m)]

/-- Accesses that change only GPRs leave a state that differs only in GPRs. -/
theorem State.after_gpr (hf : ∀ j u, f j u = { u with gpr := (f j u).gpr }) (m : Nat) :
    s.after f m = { s with gpr := (s.after f m).gpr } := by
  induction m with
  | zero => rfl
  | succ m ih =>
    rw [State.after, hf, ih]

/-- Accesses that store leave a state that differs only in memory and what instruction fetch may still see. -/
theorem State.after_mem (hf : ∀ j u, f j u = { u with mem := (f j u).mem, stale := (f j u).stale }) (m : Nat) :
    s.after f m = { s with mem := (s.after f m).mem, stale := (s.after f m).stale } := by
  induction m with
  | zero => rfl
  | succ m ih =>
    rw [State.after, hf, ih]

end

/-! ### Stores of consecutive pieces -/

/-- Access `j` stores the piece `data j` of `c` bytes. -/
def storePiece (c : Nat) (data : Nat → List Byte) (ea : Word) (j : Nat) (u : State) : State :=
  u.storeBytes (ea + BitVec.ofNat 32 (c * j)) (data j)

section
variable {s : State} {c m : Nat} {data : Nat → List Byte} {ea : Word}

theorem storedPieces_eq (m : Nat) :
    s.after (storePiece c data ea) m =
      { s with mem := (s.after (storePiece c data ea) m).mem, stale := (s.after (storePiece c data ea) m).stale } :=
  State.after_mem (fun _ u => u.storeBytes_eq _ _) m

theorem storedPieces_wf (h : Memory.wf s.mem = true) (m : Nat) :
    Memory.wf (s.after (storePiece c data ea) m).mem = true := by
  induction m with
  | zero => exact h
  | succ m ih => exact State.storeBytes_wf _ ih _ _

/-- The bytes beside the pieces read as before. -/
theorem storedPieces_outside (h : Memory.wf s.mem = true) (hc : ∀ j, (data j).length = c) (m : Nat) :
    MemoryKeptOutside s (s.after (storePiece c data ea) m) ea (c * m) := by
  induction m with
  | zero => exact fun _ _ => rfl
  | succ m ih =>
    intro a ha
    have hpiece : a ∉ span (ea + BitVec.ofNat 32 (c * m)) (data m).length := fun hmem => by
      obtain ⟨k, hk, rfl⟩ := (mem_span _ _ _).mp hmem
      rw [hc] at hk
      exact ha ((mem_span _ _ _).mpr ⟨c * m + k, by rw [Nat.mul_succ]; omega, add_ofNat_add _ _ _⟩)
    have hbefore : a ∉ span ea (c * m) := fun hmem => by
      obtain ⟨k, hk, rfl⟩ := (mem_span _ _ _).mp hmem
      exact ha ((mem_span _ _ _).mpr ⟨k, by rw [Nat.mul_succ]; omega, rfl⟩)
    rw [State.after, storePiece, State.storeBytes_byteAt_outside _ (storedPieces_wf h m) _ _ _ hpiece, ih a hbefore]

/-- Each byte of the pieces reads back: later pieces do not meet it. -/
theorem storedPieces_inside (h : Memory.wf s.mem = true) (hc : ∀ j, (data j).length = c) (hm : c * m < 2 ^ 32) {i : Nat}
    (hi : i < c * m) :
    (data (i / c))[i % c]? = some ((s.after (storePiece c data ea) m).byteAt (ea + BitVec.ofNat 32 i)) := by
  induction m with
  | zero => exact absurd hi (Nat.not_lt_zero i)
  | succ m ih =>
    rw [Nat.mul_succ] at hm hi
    rw [State.after, storePiece]
    by_cases hlast : i < c * m
    · have hout : ea + BitVec.ofNat 32 i ∉ span (ea + BitVec.ofNat 32 (c * m)) (data m).length := fun hmem => by
        obtain ⟨k, hk, he⟩ := (mem_span _ _ _).mp hmem
        rw [hc] at hk
        rw [add_ofNat_add, add_ofNat_inj (by omega) (by omega)] at he
        omega
      rw [State.storeBytes_byteAt_outside _ (storedPieces_wf h m) _ _ _ hout]
      exact ih (by omega) hlast
    · obtain ⟨k, rfl⟩ : ∃ k, i = c * m + k := ⟨i - c * m, by omega⟩
      have hk : k < c := by omega
      have hlen : k < (data m).length := by rw [hc]; exact hk
      rw [Nat.mul_add_div (by omega), Nat.div_eq_of_lt hk, Nat.mul_add_mod, Nat.mod_eq_of_lt hk, ← add_ofNat_add,
        State.storeBytes_byteAt_inside _ (storedPieces_wf h m) _ _ (by rw [hc]; omega) _ hlen]
      exact List.getElem?_eq_getElem hlen

end

/-! ### lmw and stmw -/

/-- Access `j` of `lmw`: the word goes to its register. -/
def loadWordInto (d : BitVec 5) (ea : Word) (s : State) (j : Nat) (u : State) : State :=
  u.setR (d + BitVec.ofNat 5 j) (wordOf (s.bytesAt (ea + BitVec.ofNat 32 (4 * j)) 4))

/-- A read of unwatched `ram` where the state differs in GPRs at most. -/
theorem readSpan_loaded {s u : State} (hu : u = { s with gpr := u.gpr }) {ea : Word} {n : Nat}
    (hw : s.watched false ea n = false) (hk : kindOf s.memMap ea n = some .ram) :
    readSpan ea n u = .done (s.bytesAt ea n) u := by
  have hmem : u.mem = s.mem := by rw [hu]
  rw [readSpan_ready (by rw [hu]; exact hw) (by rw [hu]; exact hk), State.bytesAt_congr hmem]

theorem nextRegister_add (d : BitVec 5) (j : Nat) : nextRegister (d + BitVec.ofNat 5 j) = d + BitVec.ofNat 5 (j + 1) :=
  add_ofNat_add d j 1

section
variable {s : State} {d : BitVec 5} {ea : Word} {m : Nat}

theorem loadedWords_eq (m : Nat) :
    s.after (loadWordInto d ea s) m = { s with gpr := (s.after (loadWordInto d ea s) m).gpr } :=
  State.after_gpr (fun _ _ => rfl) m

theorem loadedWords_kept {r : BitVec 5} (hr : ∀ j, j < m → r ≠ d + BitVec.ofNat 5 j) :
    (s.after (loadWordInto d ea s) m).r r = s.r r := by
  induction m with
  | zero => rfl
  | succ m ih =>
    rw [State.after, loadWordInto, State.setR_r_ne _ (hr m (Nat.lt_succ_self m))]
    exact ih fun j hj => hr j (by omega)

theorem loadedWords_r (hm : m ≤ 32) {j : Nat} (hj : j < m) :
    (s.after (loadWordInto d ea s) m).r (d + BitVec.ofNat 5 j) =
      wordOf (s.bytesAt (ea + BitVec.ofNat 32 (4 * j)) 4) := by
  induction m with
  | zero => exact absurd hj (Nat.not_lt_zero j)
  | succ m ih =>
    rw [State.after, loadWordInto, State.setR_r]
    have hinj : d + BitVec.ofNat 5 j = d + BitVec.ofNat 5 m ↔ j = m := add_ofNat_inj (by omega) (by omega)
    by_cases h : j = m
    · rw [if_pos (hinj.mpr h), h]
    · rw [if_neg (mt hinj.mp h)]
      exact ih (by omega) (by omega)

/-- The words in unwatched `ram` are loaded. -/
theorem loadRegisters_after (h : ∀ j, j < m → s.watched false (ea + BitVec.ofNat 32 (4 * j)) 4 = false ∧
      kindOf s.memMap (ea + BitVec.ofNat 32 (4 * j)) 4 = some .ram) (left : Nat) :
    loadRegisters (m + left) d ea s =
      loadRegisters left (d + BitVec.ofNat 5 m) (ea + BitVec.ofNat 32 (4 * m)) (s.after (loadWordInto d ea s) m) := by
  have hstart : d = d + BitVec.ofNat 5 0 ∧ ea = ea + BitVec.ofNat 32 (4 * 0) :=
    ⟨(BitVec.add_zero d).symm, (BitVec.add_zero ea).symm⟩
  have hall := access_after (s := s) (f := loadWordInto d ea s) (m := m)
    (access := fun left j u => loadRegisters left (d + BitVec.ofNat 5 j) (ea + BitVec.ofNat 32 (4 * j)) u)
    (fun j left hj => ?_) left
  · rwa [← hstart.1, ← hstart.2] at hall
  · obtain ⟨hw, hk⟩ := h j hj
    have hnext : ea + BitVec.ofNat 32 (4 * j) + 4 = ea + BitVec.ofNat 32 (4 * (j + 1)) := add_ofNat_add ea (4 * j) 4
    rw [loadRegisters_succ, readSpan_loaded (loadedWords_eq j) hw hk, nextRegister_add, hnext]
    rfl

end

/-- Access `j` of `stmw` has the bytes of its register. -/
def registerBytes (s : State) (src : BitVec 5) (j : Nat) : List Byte := lowBytes 4 (s.r (src + BitVec.ofNat 5 j))

/-- A write to unwatched `ram` where the state differs in memory, and what fetch may still see, at most. -/
theorem writeSpan_stored {s u : State} (hu : u = { s with mem := u.mem, stale := u.stale }) {ea : Word} {data : List Byte}
    (hw : s.watched true ea data.length = false) (hk : kindOf s.memMap ea data.length = some .ram) :
    writeSpan ea data u = .done () (u.storeBytes ea data) :=
  writeSpan_ready (by rw [hu]; exact hw) (by rw [hu]; exact hk)

/-- The words for unwatched `ram` are stored. -/
theorem storeRegisters_after {s : State} {src : BitVec 5} {ea : Word} {m : Nat}
    (h : ∀ j, j < m → s.watched true (ea + BitVec.ofNat 32 (4 * j)) 4 = false ∧
      kindOf s.memMap (ea + BitVec.ofNat 32 (4 * j)) 4 = some .ram) (left : Nat) :
    storeRegisters (m + left) src ea s =
      storeRegisters left (src + BitVec.ofNat 5 m) (ea + BitVec.ofNat 32 (4 * m))
        (s.after (storePiece 4 (registerBytes s src) ea) m) := by
  have hstart : src = src + BitVec.ofNat 5 0 ∧ ea = ea + BitVec.ofNat 32 (4 * 0) :=
    ⟨(BitVec.add_zero src).symm, (BitVec.add_zero ea).symm⟩
  have hall := access_after (s := s) (f := storePiece 4 (registerBytes s src) ea) (m := m)
    (access := fun left j u => storeRegisters left (src + BitVec.ofNat 5 j) (ea + BitVec.ofNat 32 (4 * j)) u)
    (fun j left hj => ?_) left
  · rwa [← hstart.1, ← hstart.2] at hall
  · obtain ⟨hw, hk⟩ := h j hj
    have hu := storedPieces_eq (s := s) (c := 4) (data := registerBytes s src) (ea := ea) j
    have hreg : lowBytes 4 ((s.after (storePiece 4 (registerBytes s src) ea) j).r (src + BitVec.ofNat 5 j)) =
        registerBytes s src j := by
      rw [hu]
      rfl
    have hnext : ea + BitVec.ofNat 32 (4 * j) + 4 = ea + BitVec.ofNat 32 (4 * (j + 1)) := add_ofNat_add ea (4 * j) 4
    rw [storeRegisters_succ, hreg, writeSpan_stored hu hw hk, nextRegister_add, hnext]
    rfl

/-- A sequence of accesses that stops at a watched read ends in its data storage interrupt. -/
theorem loaded_watched {s u : State} (hu : u = { s with gpr := u.gpr }) {ea : Word} {P : State → Prop}
    (hp : ∀ t : State, t.gpr = u.gpr → P t) :
    Completes (raiseDsi (watchCause false) ea u) fun t => DsiTaken { s with gpr := t.gpr } t 0x00400000 ea ∧ P t := by
  refine ⟨_, rfl, ⟨?_, watchCause_eq false, rfl⟩, hp _ (State.takeException_gpr _ _ _ _)⟩
  rw [hu]
  rfl

theorem stored_watched {s u : State} (hu : u = { s with mem := u.mem, stale := u.stale }) {ea : Word} {P : State → Prop}
    (hp : ∀ t : State, t.mem = u.mem → P t) :
    Completes (raiseDsi (watchCause true) ea u) fun t =>
      DsiTaken { s with mem := t.mem, stale := t.stale } t 0x02400000 ea ∧ P t := by
  refine ⟨_, rfl, ⟨?_, watchCause_eq true, rfl⟩, hp _ (State.takeException_mem _ _ _ _)⟩
  rw [hu]
  rfl

theorem exec_lmw_watched {d a : BitVec 5} {disp : BitVec 16} {s : State} {k : Nat} {ea : Word} (hea : ea = s.eaD a disp)
    (ha : aligned ea 4 = true) (hk : k < 32 - d.toNat)
    (h : ∀ j, j < k → s.watched false (ea + BitVec.ofNat 32 (4 * j)) 4 = false ∧
      kindOf s.memMap (ea + BitVec.ofNat 32 (4 * j)) 4 = some .ram)
    (hw : s.watched false (ea + BitVec.ofNat 32 (4 * k)) 4 = true) :
    Completes (exec (.lmw d a disp) s) fun t =>
      DsiTaken { s with gpr := t.gpr } t 0x00400000 (ea + BitVec.ofNat 32 (4 * k)) ∧
      (∀ j, j < k → t.r (d + BitVec.ofNat 5 j) =
        BitVec.ofNat 32 (natOf (s.bytesAt (ea + BitVec.ofNat 32 (4 * j)) 4))) ∧
      ∀ r : BitVec 5, r.toNat < d.toNat ∨ d.toNat + k ≤ r.toNat → t.r r = s.r r := by
  subst hea
  obtain ⟨left, hleft⟩ : ∃ left, 32 - d.toNat = k + (left + 1) := ⟨32 - d.toNat - k - 1, by omega⟩
  have hu := loadedWords_eq (s := s) (d := d) (ea := s.eaD a disp) k
  rw [exec_lmw, execLmw, neverSplit, if_pos ha, hleft, loadRegisters_after h, loadRegisters_succ,
    readSpan_watched (by rw [hu]; exact hw), finishAccess_eq]
  refine loaded_watched hu fun t ht => ⟨fun j hj => ?_, fun r hr => ?_⟩
  · rw [State.r, ht]
    exact loadedWords_r (by omega) hj
  · rw [State.r, ht]
    refine loadedWords_kept fun j hj he => ?_
    have hnat : r.toNat = (d.toNat + j) % 32 := by
      rw [he, BitVec.toNat_add, BitVec.toNat_ofNat, Nat.add_mod_mod]
    omega

theorem exec_stmw_watched {src a : BitVec 5} {disp : BitVec 16} {s : State} {k : Nat} {ea : Word}
    (hea : ea = s.eaD a disp) (ha : aligned ea 4 = true) (hk : k < 32 - src.toNat)
    (h : ∀ j, j < k → s.watched true (ea + BitVec.ofNat 32 (4 * j)) 4 = false ∧
      kindOf s.memMap (ea + BitVec.ofNat 32 (4 * j)) 4 = some .ram)
    (hw : s.watched true (ea + BitVec.ofNat 32 (4 * k)) 4 = true) (hwf : Memory.wf s.mem = true) :
    Completes (exec (.stmw src a disp) s) fun t =>
      DsiTaken { s with mem := t.mem, stale := t.stale } t 0x02400000 (ea + BitVec.ofNat 32 (4 * k)) ∧
      (∀ j, j < 4 * k →
        t.byteAt (ea + BitVec.ofNat 32 j) = wordByte (s.r (src + BitVec.ofNat 5 (j / 4))) (3 - j % 4)) ∧
      MemoryKeptOutside s t ea (4 * k) := by
  subst hea
  obtain ⟨left, hleft⟩ : ∃ left, 32 - src.toNat = k + (left + 1) := ⟨32 - src.toNat - k - 1, by omega⟩
  have hu := storedPieces_eq (s := s) (c := 4) (data := registerBytes s src) (ea := s.eaD a disp) k
  rw [exec_stmw, execStmw, neverSplit, if_pos ha, hleft, storeRegisters_after h, storeRegisters_succ,
    writeSpan_watched (by rw [hu]; exact hw), finishAccess_eq]
  refine stored_watched hu fun t ht => ⟨fun j hj => ?_, fun b hb => ?_⟩
  · rw [State.byteAt, ht]
    have hread := storedPieces_inside (ea := s.eaD a disp) (data := registerBytes s src) hwf (fun _ => rfl) (m := k)
      (by omega) hj
    rw [registerBytes, lowBytes_getElem _ (Nat.mod_lt j (by omega))] at hread
    exact (Option.some.inj hread).symm
  · rw [State.byteAt, ht]
    exact storedPieces_outside (data := registerBytes s src) hwf (fun _ => rfl) k b hb

end Sys2Proof.Machine
end

section
namespace Sys2Proof.Machine

/-! ### The string instructions -/

/-- Access `j` of a string load: the byte goes to its place in its register, which is cleared first where the byte is its
first one. -/
def loadByteInto (d : BitVec 5) (ea : Word) (s : State) (j : Nat) (u : State) : State :=
  u.setR (d + BitVec.ofNat 5 (j / 4))
    (putByte (if j % 4 = 0 then 0 else u.r (d + BitVec.ofNat 5 (j / 4))) (j % 4) (s.byteAt (ea + BitVec.ofNat 32 j)))

section
variable {s : State} {d : BitVec 5} {ea : Word} {m : Nat}

theorem loadedString_eq (m : Nat) :
    s.after (loadByteInto d ea s) m = { s with gpr := (s.after (loadByteInto d ea s) m).gpr } :=
  State.after_gpr (fun _ _ => rfl) m

/-- A register that none of the bytes belongs to is kept. -/
theorem loadedString_kept {r : BitVec 5} (hr : ∀ j, j < m → r ≠ d + BitVec.ofNat 5 (j / 4)) :
    (s.after (loadByteInto d ea s) m).r r = s.r r := by
  induction m with
  | zero => rfl
  | succ m ih =>
    rw [State.after, loadByteInto, State.setR_r_ne _ (hr m (Nat.lt_succ_self m))]
    exact ih fun j hj => hr j (by omega)

/-- Each byte of the string is in its place: no later byte of the string has that place, and none clears it. -/
theorem loadedString_byte (hm : m ≤ 128) {j i : Nat} (hi : i < 4) (hj : 4 * j + i < m) :
    wordByte ((s.after (loadByteInto d ea s) m).r (d + BitVec.ofNat 5 j)) (3 - i) =
      s.byteAt (ea + BitVec.ofNat 32 (4 * j + i)) := by
  induction m with
  | zero => exact absurd hj (Nat.not_lt_zero _)
  | succ m ih =>
    have hinj : d + BitVec.ofNat 5 j = d + BitVec.ofNat 5 (m / 4) ↔ j = m / 4 := add_ofNat_inj (by omega) (by omega)
    rw [State.after, loadByteInto, State.setR_r]
    by_cases hreg : j = m / 4
    · rw [if_pos (hinj.mpr hreg), wordByte_putByte _ _ (Nat.mod_lt m (by omega)) hi]
      by_cases hlast : i = m % 4
      · rw [if_pos hlast, show 4 * j + i = m by omega]
      · rw [if_neg hlast, if_neg (show ¬ m % 4 = 0 by omega), ← hreg]
        exact ih (by omega) (by omega)
    · rw [if_neg (mt hinj.mp hreg)]
      exact ih (by omega) (by omega)

/-- A register of which all four bytes are loaded holds their word. -/
theorem loadedString_word (hm : m ≤ 128) {j : Nat} (hj : j < m / 4) :
    (s.after (loadByteInto d ea s) m).r (d + BitVec.ofNat 5 j) =
      wordOf (s.bytesAt (ea + BitVec.ofNat 32 (4 * j)) 4) := by
  have hbyte : ∀ i, i < 4 → wordByte ((s.after (loadByteInto d ea s) m).r (d + BitVec.ofNat 5 j)) (3 - i) =
      s.byteAt (ea + BitVec.ofNat 32 (4 * j) + BitVec.ofNat 32 i) := fun i hi => by
    rw [loadedString_byte hm hi (by omega), add_ofNat_add]
  have hbytes : s.bytesAt (ea + BitVec.ofNat 32 (4 * j)) 4 = (List.range 4).map fun i =>
      s.byteAt (ea + BitVec.ofNat 32 (4 * j) + BitVec.ofNat 32 i) := by
    rw [State.bytesAt_eq, span_eq_map, List.map_map]
    rfl
  rw [hbytes, ← wordOf_wordBytes ((s.after (loadByteInto d ea s) m).r (d + BitVec.ofNat 5 j))]
  exact congrArg wordOf (congrArg₂ _ (hbyte 0 (by omega)) (congrArg₂ _ (hbyte 1 (by omega))
    (congrArg₂ _ (hbyte 2 (by omega)) (congrArg₂ _ (hbyte 3 (by omega)) rfl))))

/-- The bytes in unwatched `ram` are loaded. -/
theorem loadString_after (h : ∀ j, j < m → s.watched false (ea + BitVec.ofNat 32 j) 1 = false ∧
      kindOf s.memMap (ea + BitVec.ofNat 32 j) 1 = some .ram) (left : Nat) :
    loadString d (m + left) 0 ea s =
      loadString d left m (ea + BitVec.ofNat 32 m) (s.after (loadByteInto d ea s) m) := by
  have hstart : ea = ea + BitVec.ofNat 32 0 := (BitVec.add_zero ea).symm
  have hall := access_after (s := s) (f := loadByteInto d ea s) (m := m)
    (access := fun left j u => loadString d left j (ea + BitVec.ofNat 32 j) u) (fun j left hj => ?_) left
  · rwa [← hstart] at hall
  · obtain ⟨hw, hk⟩ := h j hj
    have hnext : ea + BitVec.ofNat 32 j + 1 = ea + BitVec.ofNat 32 (j + 1) := add_ofNat_add ea j 1
    rw [loadString_succ, readSpan_loaded (loadedString_eq j) hw hk, hnext]
    rfl

/-- A string load that DABR watches from byte `k` on, and not before. -/
theorem loadString_watched {n k : Nat} (hk : k < n) (hn : n ≤ 128)
    (h : ∀ j, j < k → s.watched false (ea + BitVec.ofNat 32 j) 1 = false ∧
      kindOf s.memMap (ea + BitVec.ofNat 32 j) 1 = some .ram)
    (hw : s.watched false (ea + BitVec.ofNat 32 k) 1 = true) :
    Completes (finishAccess (loadString d n 0 ea s)) fun t =>
      DsiTaken { s with gpr := t.gpr } t 0x00400000 (ea + BitVec.ofNat 32 k) ∧
      (∀ j, j < k / 4 → t.r (d + BitVec.ofNat 5 j) =
        BitVec.ofNat 32 (natOf (s.bytesAt (ea + BitVec.ofNat 32 (4 * j)) 4))) ∧
      ∀ r, inRegisterRange d r ((k + 3) / 4) = false → t.r r = s.r r := by
  obtain ⟨left, rfl⟩ : ∃ left, n = k + (left + 1) := ⟨n - k - 1, by omega⟩
  have hu := loadedString_eq (s := s) (d := d) (ea := ea) k
  rw [loadString_after h, loadString_succ, readSpan_watched (by rw [hu]; exact hw), finishAccess_eq]
  refine loaded_watched hu fun t ht => ⟨fun j hj => ?_, fun r hr => ?_⟩
  · rw [State.r, ht]
    exact loadedString_word (by omega) hj
  · rw [State.r, ht]
    refine loadedString_kept fun j hj he => ?_
    have hout : ¬ (r - d).toNat < (k + 3) / 4 := of_decide_eq_false hr
    rw [he, BitVec.add_comm, BitVec.add_sub_cancel, BitVec.toNat_ofNat] at hout
    omega

end

/-- Access `j` of a string store has its byte of its register. -/
def stringByte (s : State) (src : BitVec 5) (j : Nat) : List Byte :=
  [getByte (s.r (src + BitVec.ofNat 5 (j / 4))) (j % 4)]

section
variable {s : State} {src : BitVec 5} {ea : Word}

/-- The bytes for unwatched `ram` are stored. -/
theorem storeString_after {m : Nat} (h : ∀ j, j < m → s.watched true (ea + BitVec.ofNat 32 j) 1 = false ∧
      kindOf s.memMap (ea + BitVec.ofNat 32 j) 1 = some .ram) (left : Nat) :
    storeString src (m + left) 0 ea s =
      storeString src left m (ea + BitVec.ofNat 32 m) (s.after (storePiece 1 (stringByte s src) ea) m) := by
  have hstart : ea = ea + BitVec.ofNat 32 0 := (BitVec.add_zero ea).symm
  have hall := access_after (s := s) (f := storePiece 1 (stringByte s src) ea) (m := m)
    (access := fun left j u => storeString src left j (ea + BitVec.ofNat 32 j) u) (fun j left hj => ?_) left
  · rwa [← hstart] at hall
  · obtain ⟨hw, hk⟩ := h j hj
    have hu := storedPieces_eq (s := s) (c := 1) (data := stringByte s src) (ea := ea) j
    have hbyte : [getByte ((s.after (storePiece 1 (stringByte s src) ea) j).r (src + BitVec.ofNat 5 (j / 4))) (j % 4)] =
        stringByte s src j := by
      rw [hu]
      rfl
    have hnext : ea + BitVec.ofNat 32 j + 1 = ea + BitVec.ofNat 32 (j + 1) := add_ofNat_add ea j 1
    rw [storeString_succ, hbyte, writeSpan_stored hu hw hk, hnext, State.after, storePiece, Nat.one_mul]
    rfl

/-- A string store that DABR watches from byte `k` on, and not before. -/
theorem storeString_watched {n k : Nat} (hk : k < n) (hn : n ≤ 128)
    (h : ∀ j, j < k → s.watched true (ea + BitVec.ofNat 32 j) 1 = false ∧
      kindOf s.memMap (ea + BitVec.ofNat 32 j) 1 = some .ram)
    (hw : s.watched true (ea + BitVec.ofNat 32 k) 1 = true) (hwf : Memory.wf s.mem = true) :
    Completes (finishAccess (storeString src n 0 ea s)) fun t =>
      DsiTaken { s with mem := t.mem, stale := t.stale } t 0x02400000 (ea + BitVec.ofNat 32 k) ∧
      (∀ j, j < k →
        t.byteAt (ea + BitVec.ofNat 32 j) = wordByte (s.r (src + BitVec.ofNat 5 (j / 4))) (3 - j % 4)) ∧
      MemoryKeptOutside s t ea k := by
  obtain ⟨left, rfl⟩ : ∃ left, n = k + (left + 1) := ⟨n - k - 1, by omega⟩
  have hu := storedPieces_eq (s := s) (c := 1) (data := stringByte s src) (ea := ea) k
  rw [storeString_after h, storeString_succ, writeSpan_watched (by rw [hu]; exact hw), finishAccess_eq]
  refine stored_watched hu fun t ht => ⟨fun j hj => ?_, fun b hb => ?_⟩
  · rw [State.byteAt, ht]
    have hread := storedPieces_inside (ea := ea) (c := 1) (data := stringByte s src) hwf (fun _ => rfl) (m := k) (by omega)
      (i := j) (by omega)
    rw [Nat.div_one, Nat.mod_one, stringByte, getByte_eq _ (Nat.mod_lt j (by omega))] at hread
    exact (Option.some.inj hread).symm
  · rw [State.byteAt, ht]
    exact storedPieces_outside (data := stringByte s src) hwf (fun _ => rfl) k b (by rwa [Nat.one_mul])

theorem stringCount_eq (s : State) : s.stringCount = s.xer.toNat % 128 := by
  simp [State.stringCount, field]

/-- `lswx` whose base and index registers are not loaded is a string load (44_integer_load_store.md R346). -/
theorem exec_lswx_string {d a b : BitVec 5} (hpos : 0 < s.stringCount)
    (hr : d ≠ a ∧ d ≠ b ∧ inRegisterRange d a (registersFor s.stringCount) = false ∧
      inRegisterRange d b (registersFor s.stringCount) = false) :
    exec (.lswx d a b) s = finishAccess (loadString d s.stringCount 0 (s.eaX a b) s) := by
  obtain ⟨hda, hdb, hra, hrb⟩ := hr
  rw [exec_lswx, execLswx, if_neg (by simp [hda, hdb, hra, hrb]), if_neg (by omega)]

end

/-- Settles O28: the instructions of one access by that access, the multiple and string ones by the accesses before the
first watched one. -/
theorem blockedAccessesTrapOrStop : Obligations.BlockedAccessesTrapOrStop := by
  refine ⟨fun i ea s store n hn hea hf => ?_, fun x a b s => ?_, fun x a disp s store k ea hea ha hk h hw => ?_,
    fun x a b s store i n k ea hi hr hk h hw => ?_⟩
  · have hone := exec_oneAccess hn hea hf
    exact ⟨hone.watched, hone.split_watched, hone.outside⟩
  · exact ⟨exec_lwarx_watched, exec_stwcx_watched, fun block => exec_dcbz_watched⟩
  · refine ⟨fun hs => ?_, fun hs hwf => ?_⟩
    · subst hs
      exact exec_lmw_watched hea ha hk h hw
    · subst hs
      exact exec_stmw_watched hea ha hk h hw hwf
  · have hcount : n ≤ 128 := by
      rcases hi with ⟨_, rfl, _⟩ | ⟨_, rfl, _⟩
      · split <;> omega
      · omega
    refine ⟨fun hs => ?_, fun hs hwf => ?_⟩
    · subst hs
      suffices hexec : exec i s = finishAccess (loadString x n 0 ea s) by
        rw [hexec]
        exact loadString_watched hk hcount h hw
      rcases hi with ⟨rfl, rfl, rfl⟩ | ⟨rfl, rfl, rfl⟩
      · rfl
      · rw [← stringCount_eq] at hk hr ⊢
        exact exec_lswx_string (by omega) (hr rfl)
    · subst hs
      suffices hexec : exec i s = finishAccess (storeString x n 0 ea s) by
        rw [hexec]
        exact storeString_watched hk hcount h hw hwf
      rcases hi with ⟨rfl, rfl, rfl⟩ | ⟨rfl, rfl, rfl⟩
      · rfl
      · rw [← stringCount_eq]
        rfl

end Sys2Proof.Machine
end

section
namespace Sys2Proof.Machine

/-! ## Bytes and numbers -/

/-- The byte that a register's number has at a place is the register's byte of that place. -/
theorem ofNat_div_eq_wordByte (v : Word) (k : Nat) : BitVec.ofNat 8 (v.toNat / 256 ^ k) = wordByte v k := by
  apply BitVec.eq_of_toNat_eq
  rw [toNat_wordByte, BitVec.toNat_ofNat, Nat.pow_mul]

theorem lowBytes_one (v : Word) : lowBytes 1 v = [wordByte v 0] := by
  simp only [lowBytes, bytesOf, ofNat_div_eq_wordByte]

theorem lowBytes_two (v : Word) : lowBytes 2 v = [wordByte v 1, wordByte v 0] := by
  simp only [lowBytes, bytesOf, ofNat_div_eq_wordByte]

theorem lowBytes_four (v : Word) : lowBytes 4 v = [3, 2, 1, 0].map (wordByte v) := by
  simp only [lowBytes, bytesOf, ofNat_div_eq_wordByte, List.map_cons, List.map_nil]

theorem bytesOf_length (n v : Nat) : (bytesOf n v).length = n := by
  induction n with
  | zero => rfl
  | succ n ih => rw [bytesOf, List.length_cons, ih]

/-- The first byte counts for all those after it (20_memory.md R80). -/
theorem natOf_cons (b : Byte) (rest : List Byte) : natOf (b :: rest) = b.toNat * 256 ^ rest.length + natOf rest := by
  have hacc : ∀ (l : List Byte) (acc : Nat),
      l.foldl (fun acc b => acc * 256 + b.toNat) acc = acc * 256 ^ l.length + natOf l := by
    intro l
    induction l with
    | nil => intro acc; simp [natOf]
    | cons c l ih =>
      intro acc
      rw [natOf, List.foldl_cons, List.foldl_cons, ih, ih, List.length_cons]
      ring
  rw [natOf, List.foldl_cons, hacc, Nat.zero_mul, Nat.zero_add]

/-- The bytes of a number spell what of it they have room for. -/
theorem natOf_bytesOf (n v : Nat) : natOf (bytesOf n v) = v % 256 ^ n := by
  induction n with
  | zero => rw [Nat.pow_zero, Nat.mod_one]; rfl
  | succ n ih =>
    rw [bytesOf, natOf_cons, ih, bytesOf_length, BitVec.toNat_ofNat, Nat.pow_succ 256 n, Nat.mod_mul,
      Nat.add_comm, Nat.mul_comm (256 ^ n)]

theorem word_lt (v : Word) : v.toNat < 256 ^ 4 := v.isLt.trans_eq (by norm_num)

theorem dword_lt (v : Dword) : v.toNat < 256 ^ 8 := v.isLt.trans_eq (by norm_num)

/-! ## Loads and stores of one register -/

theorem Access.andThen_done {α : Type} {a : Access α} {v : α} {t : State} (h : a = .done v t) (k : α → State → Result) :
    a.andThen k = k v t := by
  rw [h]
  rfl

/-- What an integer load does with the bytes that it has read. -/
def LoadShape.finish (sh : LoadShape) (ea : Word) (bytes : List Byte) (t : State) : State :=
  ((t.setR sh.target (sh.value bytes)).update sh.update ea).advance

/-- What a floating-point load does with the bytes that it has read. -/
def FloatLoadShape.finish (sh : FloatLoadShape) (ea : Word) (bytes : List Byte) (t : State) : State :=
  ((t.setF sh.target (sh.value bytes)).update sh.update ea).advance

/-- What a store does once its bytes are stored. -/
def finishStore (update : Option (BitVec 5)) (ea : Word) (t : State) : State := (t.update update ea).advance

section
variable {i : Instr} {s : State} {ea : Word}

/-- An integer load is one access, by its own word, and what it does with the bytes. -/
theorem exec_load {sh : LoadShape} (hsh : loadShape i = some sh) (hea : effectiveAddress i s = some ea) :
    exec i s = (loadData (encode i) sh.update.isSome ea sh.bytes s).andThen fun bytes t => .next (sh.finish ea bytes t) := by
  suffices h : exec i s = loadInto (encode i) sh.update sh.target ea sh.bytes sh.value s from h.trans (loadInto_eq ..)
  cases i with
  | lbz | lbzu | lbzx | lbzux | lhz | lhzu | lhzx | lhzux | lha | lhau | lhax | lhaux | lwz | lwzu | lwzx | lwzux | lhbrx
  | lwbrx =>
    cases hsh
    cases hea
    rfl
  | _ => cases hsh

/-- An integer store is one access with the register's bytes, by its own word, and the update of the base register. -/
theorem exec_store {st : StoreShape} (hst : storeShape i = some st) (hea : effectiveAddress i s = some ea) :
    exec i s = (storeData (encode i) st.update.isSome ea (st.data s) s).andThen fun _ t =>
      .next (finishStore st.update ea t) := by
  suffices h : ∃ data, data = st.data s ∧ exec i s = storeFrom (encode i) st.update ea data s by
    obtain ⟨_, rfl, h⟩ := h
    exact h.trans (storeFrom_eq ..)
  cases i with
  | stb | stbu | stbx | stbux =>
    cases hst
    cases hea
    exact ⟨_, lowBytes_one _, rfl⟩
  | sth | sthu | sthx | sthux =>
    cases hst
    cases hea
    exact ⟨_, lowBytes_two _, rfl⟩
  | stw | stwu | stwx | stwux =>
    cases hst
    cases hea
    exact ⟨_, lowBytes_four _, rfl⟩
  | sthbrx =>
    cases hst
    cases hea
    exact ⟨_, congrArg List.reverse (lowBytes_two _), rfl⟩
  | stwbrx =>
    cases hst
    cases hea
    exact ⟨_, congrArg List.reverse (lowBytes_four _), rfl⟩
  | _ => cases hst

theorem exec_floatLoad {sh : FloatLoadShape} (hsh : floatLoadShape i = some sh) (hf : bit s.msr 18 = true)
    (hea : effectiveAddress i s = some ea) :
    exec i s = (loadData (encode i) sh.update.isSome ea sh.bytes s).andThen fun bytes t => .next (sh.finish ea bytes t) := by
  suffices h : exec i s = floatLoad (encode i) sh.update sh.target ea sh.bytes sh.value s from
    h.trans ((floatLoad_eq ..).trans (floatOnly_on hf _))
  cases i with
  | lfs | lfsu | lfsx | lfsux | lfd | lfdu | lfdx | lfdux =>
    cases hsh
    cases hea
    rfl
  | _ => cases hsh

/-- A floating-point store has bytes that spell the number its shape gives, and uses draws at most before its access
(46_fp_load_store.md R389 c). -/
def FloatStores (i : Instr) (s : State) (ea : Word) (st : FloatStoreShape) : Prop :=
  ∃ (data : List Byte) (draws : Nat), data.length = st.bytes ∧ (∀ v, st.number s = some v → natOf data = v) ∧
    exec i s = (storeData (encode i) st.update.isSome ea data (s.drawn draws)).andThen fun _ t =>
      .next (finishStore st.update ea t)

/-- A store that converts to single stores the converted word where there is one. -/
theorem storeSingle_stores {st : FloatStoreShape} {v : Dword} (hf : bit s.msr 18 = true) (hbytes : st.bytes = 4)
    (hnumber : st.number s = (singleOf v).map (·.toNat)) (h : exec i s = storeSingle (encode i) st.update ea v s) :
    FloatStores i s ea st := by
  obtain ⟨draws, hdraws⟩ := drawnForSingle_eq s v
  have hstore : exec i s = floatStore (encode i) st.update ea (bytesOf 4 (storedSingle s v).toNat) (s.drawn draws) := by
    rw [h, ← hdraws]
    exact floatOnly_on hf _
  refine ⟨_, draws, (bytesOf_length 4 _).trans hbytes.symm, fun n hn => ?_,
    hstore.trans ((floatStore_eq ..).trans (floatOnly_on (s := s.drawn draws) hf _))⟩
  obtain ⟨w, hw, rfl⟩ := Option.map_eq_some_iff.mp (hnumber.symm.trans hn)
  rw [natOf_bytesOf, storedSingle, hw]
  exact Nat.mod_eq_of_lt (word_lt w)

/-- A store without conversion stores the bytes of a number. -/
theorem floatStore_stores {st : FloatStoreShape} {v : Nat} (hf : bit s.msr 18 = true) (hv : v < 256 ^ st.bytes)
    (hnumber : st.number s = some v) (h : exec i s = floatStore (encode i) st.update ea (bytesOf st.bytes v) s) :
    FloatStores i s ea st := by
  refine ⟨_, 0, bytesOf_length st.bytes v, fun n hn => ?_, h.trans ((floatStore_eq ..).trans (floatOnly_on hf _))⟩
  rw [natOf_bytesOf, Nat.mod_eq_of_lt hv]
  exact Option.some.inj (hnumber.symm.trans hn)

theorem exec_floatStore {st : FloatStoreShape} (hst : floatStoreShape i = some st) (hf : bit s.msr 18 = true)
    (hea : effectiveAddress i s = some ea) : FloatStores i s ea st := by
  cases i with
  | stfs | stfsu | stfsx | stfsux =>
    cases hst
    cases hea
    exact storeSingle_stores hf rfl rfl rfl
  | stfd | stfdu | stfdx | stfdux =>
    cases hst
    cases hea
    exact floatStore_stores hf (dword_lt _) rfl rfl
  | stfiwx src =>
    cases hst
    cases hea
    exact floatStore_stores hf (word_lt ((s.f src).setWidth 32)) (congrArg some (BitVec.toNat_setWidth ..).symm) rfl
  | _ => cases hst

/-- An update load does not update its own target: such a form is invalid (30_encoding.md R151). -/
theorem update_ne_target {sh : LoadShape} (hsh : loadShape i = some sh) (hwf : i.wellFormed = true) :
    sh.target ∉ sh.update.toList := by
  have hbase : ∀ d a, updateLoadOk d a = true → d ∉ (some a).toList := fun d a h => by
    have hne : a ≠ d := by simpa using (Bool.and_eq_true_iff.mp h).2
    simpa using hne.symm
  cases i with
  | lbz | lbzx | lhz | lhzx | lha | lhax | lwz | lwzx | lhbrx | lwbrx =>
    cases hsh
    exact List.not_mem_nil
  | lbzu | lbzux | lhzu | lhzux | lhau | lhaux | lwzu | lwzux =>
    cases hsh
    exact hbase _ _ hwf
  | _ => cases hsh

end

/-! ### What is left after the access -/

/-- The end of an access: the base register takes the address where the form says so, and the pc goes on. -/
theorem update_advance (t : State) (update : Option (BitVec 5)) (ea : Word) :
    ∃ g : Vector Word 32, (t.update update ea).advance = { t with gpr := g, pc := t.pc + 4 } ∧
      (∀ a, update = some a → g[a.toNat] = ea) ∧ ∀ j, j ∉ update.toList → g[j.toNat] = t.r j := by
  cases update with
  | none => exact ⟨t.gpr, rfl, fun _ h => absurd h (by simp), fun _ _ => rfl⟩
  | some a =>
    refine ⟨(t.setR a ea).gpr, rfl, fun b hb => ?_, fun j hj => State.setR_r_ne t (by simpa using hj) ea⟩
    cases hb
    exact State.setR_r_same t a ea

/-- A load leaves its target, its base register and the pc. -/
theorem LoadShape.finish_effect {sh : LoadShape} (h : sh.target ∉ sh.update.toList) (ea : Word) (bytes : List Byte)
    (t : State) :
    ∃ g : Vector Word 32, sh.finish ea bytes t = { t with gpr := g, pc := t.pc + 4 } ∧
      g[sh.target.toNat] = sh.value bytes ∧ (∀ a, sh.update = some a → g[a.toNat] = ea) ∧
      ∀ j, j ∉ sh.target :: sh.update.toList → g[j.toNat] = t.r j := by
  obtain ⟨g, hg, hbase, hkept⟩ := update_advance (t.setR sh.target (sh.value bytes)) sh.update ea
  refine ⟨g, hg, (hkept _ h).trans (State.setR_r_same t _ _), hbase, fun j hj => ?_⟩
  rw [List.mem_cons, not_or] at hj
  exact (hkept j hj.2).trans (State.setR_r_ne t hj.1 _)

theorem FloatLoadShape.finish_effect (sh : FloatLoadShape) (ea : Word) (bytes : List Byte) (t : State) :
    ∃ g : Vector Word 32,
      sh.finish ea bytes t =
        { t with gpr := g, fpr := t.fpr.set sh.target.toNat (sh.value bytes), pc := t.pc + 4 } ∧
      (∀ a, sh.update = some a → g[a.toNat] = ea) ∧ ∀ j, j ∉ sh.update.toList → g[j.toNat] = t.r j :=
  update_advance (t.setF sh.target (sh.value bytes)) sh.update ea

/-- A load of memory's bytes. -/
theorem LoadShape.finish_done {sh : LoadShape} (h : sh.target ∉ sh.update.toList) (ea : Word) (s : State) :
    LoadDone s (sh.finish ea (s.bytesAt ea sh.bytes) s) sh ea := by
  obtain ⟨g, hg, htarget, hbase, hkept⟩ := LoadShape.finish_effect h ea (s.bytesAt ea sh.bytes) s
  rw [hg]
  exact ⟨htarget, hbase, hkept, rfl, fun _ => rfl, rfl⟩

theorem FloatLoadShape.finish_done (sh : FloatLoadShape) (ea : Word) (s : State) :
    FloatLoadDone s (sh.finish ea (s.bytesAt ea sh.bytes) s) sh ea := by
  obtain ⟨g, hg, hbase, hkept⟩ := sh.finish_effect ea (s.bytesAt ea sh.bytes) s
  rw [hg]
  exact ⟨State.setF_f_same s _ _, fun j hj => State.setF_f_ne s (by simpa using hj) _, hbase, hkept, rfl, fun _ => rfl,
    rfl⟩

/-- A store whose bytes are stored, in pieces of any size, perhaps after some draws. -/
theorem finishStore_done {s : State} (hwf : Memory.wf s.mem = true) (draws : Nat) (byBytes : Bool) (unit : Nat)
    (update : Option (BitVec 5)) (ea : Word) {data : List Byte} (hn : data.length < 2 ^ 32) :
    StoreDone s (finishStore update ea ((s.drawn draws).storePieces true byBytes unit ea data)) update ea data := by
  have hinside := (s.drawn draws).storePieces_byteAt_inside hwf true byBytes unit ea data hn
  have houtside := fun a => (s.drawn draws).storePieces_byteAt_outside hwf true byBytes unit ea a data
  have hstored := (s.drawn draws).storePieces_eq true byBytes unit ea data
  generalize (s.drawn draws).storePieces true byBytes unit ea data = t at hinside houtside hstored ⊢
  obtain ⟨g, hg, hbase, hkept⟩ := update_advance t update ea
  have hdone : finishStore update ea t =
      { s with mem := t.mem, stale := t.stale, draws := s.draws + draws, gpr := g, pc := s.pc + 4 } := by
    rw [finishStore, hg, hstored]
    rfl
  rw [hdone]
  refine ⟨List.ext_getElem (by simp) fun k _ hk => ?_, houtside, hbase, fun j hj => (hkept j hj).trans ?_, rfl, rfl⟩
  · rw [State.bytesAt_getElem]
    exact hinside k hk
  · rw [hstored]
    rfl

/-! ### Accesses of unwatched ram -/

section
variable {insn ea : Word} {base : Bool} {s : State}

/-- A misaligned access that the policy traps takes the alignment exception before anything else (20_memory.md R88 b). -/
theorem loadData_traps {n : Nat} (ha : aligned ea n = false) (hp : Config.misalignedTraps insn ea = true) :
    loadData insn base ea n s = .stop (raiseAlignment insn base ea s) := by
  simp [loadData, ha, hp]

theorem storeData_traps {data : List Byte} (ha : aligned ea data.length = false)
    (hp : Config.misalignedTraps insn ea = true) :
    storeData insn base ea data s = .stop (raiseAlignment insn base ea s) := by
  simp [storeData, ha, hp]

/-- A misaligned load that is split reads what an aligned one reads. -/
theorem loadData_split {n : Nat} (ha : aligned ea n = false) (hp : ¬ Config.misalignedTraps insn ea = true)
    (hw : s.watched false ea n = false) (hk : kindOf s.memMap ea n = some .ram) :
    loadData insn base ea n s = .done (s.bytesAt ea n) s := by
  rw [loadData, if_neg (by simp [ha]), if_neg hp, unwatched_ready hw, readSplit_ready hw hk]

/-- A misaligned store that is split stores its bytes one by one. -/
theorem storeData_split {data : List Byte} (ha : aligned ea data.length = false)
    (hp : ¬ Config.misalignedTraps insn ea = true) (hw : s.watched true ea data.length = false)
    (hk : kindOf s.memMap ea data.length = some .ram) :
    storeData insn base ea data s = .done () (s.storePieces true false 1 ea data) := by
  rw [storeData, if_neg (by simp [ha]), if_neg hp, unwatched_ready hw, writeSplit_ready hw hk]

end

/-- Settles O24, by the access that is done and what a load does with its bytes. -/
theorem alignedLoadsReadMemory : Obligations.AlignedLoadsReadMemory := by
  intro i ea s hea hwf
  refine ⟨fun sh hsh hready => ?_, fun sh hsh hf hready => ?_⟩
  · exact .of_next ((exec_load hsh hea).trans (Access.andThen_done (loadData_ready hready) _))
      (LoadShape.finish_done (update_ne_target hsh hwf) ea s)
  · exact .of_next ((exec_floatLoad hsh hf hea).trans (Access.andThen_done (loadData_ready hready) _)) (sh.finish_done ea s)

theorem storeShape_length {i : Instr} {st : StoreShape} (h : storeShape i = some st) (s : State) :
    (st.data s).length ≤ 4 := by
  cases i with
  | stb | stbu | stbx | stbux | sth | sthu | sthx | sthux | stw | stwu | stwx | stwux | sthbrx | stwbrx =>
    cases h
    simp
  | _ => cases h

theorem floatStoreShape_bytes {i : Instr} {st : FloatStoreShape} (h : floatStoreShape i = some st) : st.bytes ≤ 8 := by
  cases i with
  | stfs | stfsu | stfsx | stfsux | stfd | stfdu | stfdx | stfdux | stfiwx =>
    cases h
    simp
  | _ => cases h

/-- Settles O25, by the access that is done and what a store leaves. -/
theorem alignedStoresWriteMemory : Obligations.AlignedStoresWriteMemory := by
  intro i ea s hea _ hmem
  refine ⟨fun st hst hready => ?_, fun st hst hf hready => ?_⟩
  · refine .of_next ((exec_store hst hea).trans (Access.andThen_done (storeData_ready hready) _)) ?_
    exact finishStore_done hmem 0 _ _ _ _ (by have := storeShape_length hst s; omega)
  · obtain ⟨data, draws, hlen, hnumber, hexec⟩ := exec_floatStore hst hf hea
    have hdone : AccessReady (s.drawn draws) true ea data.length := by rw [hlen]; exact hready
    refine .of_next (hexec.trans (Access.andThen_done (storeData_ready hdone) _)) ⟨data, hlen, hnumber, ?_⟩
    exact finishStore_done hmem draws _ _ _ _ (by have := floatStoreShape_bytes hst; omega)

/-! ### Misaligned accesses -/

/-- A load or store of one register has one shape. -/
inductive AccessShape (i : Instr) : Bool → Nat → Prop where
  | load {sh : LoadShape} {n : Nat} (hl : loadShape i = some sh) (hs : storeShape i = none) (hfl : floatLoadShape i = none)
      (hfs : floatStoreShape i = none) (hn : sh.bytes = n) : AccessShape i false n
  | store {st : StoreShape} {n : Nat} (hl : loadShape i = none) (hs : storeShape i = some st)
      (hfl : floatLoadShape i = none) (hfs : floatStoreShape i = none) (hn : ∀ s, (st.data s).length = n) :
      AccessShape i true n
  | floatLoad {sh : FloatLoadShape} {n : Nat} (hl : loadShape i = none) (hs : storeShape i = none)
      (hfl : floatLoadShape i = some sh) (hfs : floatStoreShape i = none) (hf : needsFloat i = true) (hn : sh.bytes = n) :
      AccessShape i false n
  | floatStore {st : FloatStoreShape} {n : Nat} (hl : loadShape i = none) (hs : storeShape i = none)
      (hfl : floatLoadShape i = none) (hfs : floatStoreShape i = some st) (hf : needsFloat i = true) (hn : st.bytes = n) :
      AccessShape i true n

theorem accessShape_of_size {i : Instr} {store : Bool} {n : Nat} (h : accessSize i = some (store, n)) :
    AccessShape i store n := by
  cases i with
  | lbz | lbzu | lbzx | lbzux | lhz | lhzu | lhzx | lhzux | lha | lhau | lhax | lhaux | lwz | lwzu | lwzx | lwzux | lhbrx
  | lwbrx =>
    cases h
    exact .load rfl rfl rfl rfl rfl
  | stb | stbu | stbx | stbux | sth | sthu | sthx | sthux | stw | stwu | stwx | stwux | sthbrx | stwbrx =>
    cases h
    exact .store rfl rfl rfl rfl fun _ => rfl
  | lfs | lfsu | lfsx | lfsux | lfd | lfdu | lfdx | lfdux =>
    cases h
    exact .floatLoad rfl rfl rfl rfl rfl rfl
  | stfs | stfsu | stfsx | stfsux | stfd | stfdu | stfdx | stfdux | stfiwx =>
    cases h
    exact .floatStore rfl rfl rfl rfl rfl rfl
  | _ => cases h

/-- An alignment exception, seen from a state that differs in the draws at most. -/
theorem raiseAlignment_drawn (insn : Word) (base : Bool) (ea : Word) (s : State) (draws : Nat) :
    Completes (raiseAlignment insn base ea (s.drawn draws)) fun t => AlignmentTaken s t insn base ea :=
  raiseAlignment_taken insn base ea (s.drawn draws)

/-- The two outcomes of a misaligned access of unwatched `ram`: the alignment exception, and what is left once it is done
(20_memory.md R88 b). -/
def TrapsOrLeaves (i : Instr) (s : State) (ea : Word) (base : Bool) (P : State → Prop) : Prop :=
  Completes (exec i s) fun t =>
    if Config.misalignedTraps (encode i) ea then AlignmentTaken s t (encode i) base ea else P t

section
variable {i : Instr} {s : State} {ea : Word} {base : Bool} {P : State → Prop}

theorem misalignedLoad {n : Nat} {next : List Byte → State → State}
    (hexec : exec i s = (loadData (encode i) base ea n s).andThen fun bytes t => .next (next bytes t))
    (ha : aligned ea n = false) (hw : s.watched false ea n = false) (hk : kindOf s.memMap ea n = some .ram)
    (hp : P (next (s.bytesAt ea n) s)) : TrapsOrLeaves i s ea base P := by
  rw [TrapsOrLeaves, hexec]
  by_cases htraps : Config.misalignedTraps (encode i) ea = true
  · simp only [htraps, if_true, loadData_traps ha]
    exact raiseAlignment_taken _ _ _ _
  · rw [loadData_split ha htraps hw hk]
    exact .of_next rfl (by rwa [if_neg htraps])

theorem misalignedStore {data : List Byte} {draws : Nat} {next : State → State}
    (hexec : exec i s = (storeData (encode i) base ea data (s.drawn draws)).andThen fun _ t => .next (next t))
    (ha : aligned ea data.length = false) (hw : s.watched true ea data.length = false)
    (hk : kindOf s.memMap ea data.length = some .ram)
    (hp : P (next ((s.drawn draws).storePieces true false 1 ea data))) : TrapsOrLeaves i s ea base P := by
  rw [TrapsOrLeaves, hexec]
  by_cases htraps : Config.misalignedTraps (encode i) ea = true
  · simp only [htraps, if_true, storeData_traps ha]
    exact raiseAlignment_drawn _ _ _ _ _
  · rw [storeData_split (s := s.drawn draws) ha htraps hw hk]
    exact .of_next rfl (by rwa [if_neg htraps])

end

theorem forall_of_some {α : Type} {o : Option α} {x : α} (h : o = some x) {P : α → Prop} (hp : P x) :
    ∀ y, o = some y → P y := fun y hy => by
  obtain rfl := Option.some.inj (h.symm.trans hy)
  exact hp

theorem forall_of_none {α : Type} {o : Option α} (h : o = none) {P : α → Prop} : ∀ y, o = some y → P y :=
  fun _ hy => absurd (h.symm.trans hy) nofun

/-- Settles O26: each shape by what its access leaves, split or not. -/
theorem misalignedAccessesTrapOrSplit : Obligations.MisalignedAccessesTrapOrSplit := by
  intro i ea s store n hn hea hwf hfloat hmem ha hw hk
  cases accessShape_of_size hn with
  | @load sh _ hl hs hfl hfs hn =>
    subst hn
    have hbase : showsBase i = sh.update.isSome := by simp [showsBase, hl, hs, hfl, hfs]
    rw [hbase]
    exact misalignedLoad (exec_load hl hea) ha hw hk
      ⟨forall_of_some hl (LoadShape.finish_done (update_ne_target hl hwf) ea s), forall_of_none hs, forall_of_none hfl,
        forall_of_none hfs⟩
  | @store st _ hl hs hfl hfs hn =>
    rw [← hn s] at ha hw hk
    have hbase : showsBase i = st.update.isSome := by simp [showsBase, hl, hs, hfl, hfs]
    have hlen := storeShape_length hs s
    rw [hbase]
    exact misalignedStore (draws := 0) (exec_store hs hea) ha hw hk
      ⟨forall_of_none hl, forall_of_some hs (finishStore_done hmem 0 _ _ _ _ (by omega)), forall_of_none hfl,
        forall_of_none hfs⟩
  | @floatLoad sh _ hl hs hfl hfs hf hn =>
    subst hn
    have hbase : showsBase i = sh.update.isSome := by simp [showsBase, hl, hs, hfl, hfs]
    rw [hbase]
    exact misalignedLoad (exec_floatLoad hfl (hfloat hf) hea) ha hw hk
      ⟨forall_of_none hl, forall_of_none hs, forall_of_some hfl (sh.finish_done ea s), forall_of_none hfs⟩
  | @floatStore st _ hl hs hfl hfs hf hn =>
    obtain ⟨data, draws, hlen, hnumber, hexec⟩ := exec_floatStore hfs (hfloat hf) hea
    rw [← hn, ← hlen] at ha hw hk
    have hbase : showsBase i = st.update.isSome := by simp [showsBase, hl, hs, hfl, hfs]
    have hbytes := floatStoreShape_bytes hfs
    rw [hbase]
    exact misalignedStore hexec ha hw hk
      ⟨forall_of_none hl, forall_of_none hs, forall_of_none hfl,
        forall_of_some hfs ⟨data, hlen, hnumber, finishStore_done hmem draws _ _ _ _ (by omega)⟩⟩

/-- An access that is never split, at a misaligned address. -/
theorem neverSplit_misaligned {insn ea : Word} {base shown : Bool} {s : State} (ha : aligned ea 4 = false)
    (hbase : shown = base) (go : State → Result) :
    Completes (neverSplit insn base ea s go) fun t => AlignmentTaken s t insn shown ea := by
  rw [hbase, neverSplit, if_neg (by simp [ha])]
  exact raiseAlignment_taken _ _ _ _

/-- Settles O27, by the test that each of these instructions begins with. -/
theorem unsplittableAccessesTrapMisaligned : Obligations.UnsplittableAccessesTrapMisaligned := by
  intro i x a b disp ea s hi hea ha
  rcases hi with rfl | rfl | rfl | rfl | rfl | rfl
  all_goals cases hea
  · rw [exec_lwarx, execLwarx]
    exact neverSplit_misaligned ha (decide_eq_false nofun) _
  · rw [exec_stwcx_rc, execStwcxRc]
    exact neverSplit_misaligned ha (decide_eq_false nofun) _
  · rw [exec_lmw, execLmw]
    exact neverSplit_misaligned ha (decide_eq_true rfl) _
  · rw [exec_stmw, execStmw]
    exact neverSplit_misaligned ha (decide_eq_false nofun) _
  · rw [exec_eciwx, execEciwx, externalControl]
    exact neverSplit_misaligned ha (decide_eq_false nofun) _
  · rw [exec_ecowx, execEcowx, externalControl]
    exact neverSplit_misaligned ha (decide_eq_false nofun) _

end Sys2Proof.Machine
end

section
namespace Sys2Proof.Machine

/-! ## Accesses that reach a device -/

theorem add_ofNat_succ (a : Word) (k : Nat) : a + BitVec.ofNat 32 (k + 1) = a + 1 + BitVec.ofNat 32 k := by
  rw [Nat.add_comm, ← add_ofNat_add]
  rfl

/-- A span that does not go round the address space does not come back to the byte before it. -/
theorem not_mem_span_succ (a : Word) {n : Nat} (hn : n + 1 < 2 ^ 32) : a ∉ span (a + 1) n := by
  rw [mem_span]
  rintro ⟨j, hj, he⟩
  have hzero : a + BitVec.ofNat 32 0 = a + BitVec.ofNat 32 (1 + j) := by
    rw [← add_ofNat_add]
    exact (BitVec.add_zero a).trans he
  rw [add_ofNat_inj (by omega) (by omega)] at hzero
  omega

/-- The bytes that fall into `ram` read back, as long as they do not wrap onto themselves. -/
theorem State.storeRam_byteAt_inside (s : State) (h : Memory.wf s.mem = true) (byBytes : Bool) (unit : Nat) (a : Word)
    (data : List Byte) (hn : data.length < 2 ^ 32) {k : Nat} (hk : k < data.length)
    (hd : s.isDevice (a + BitVec.ofNat 32 k) = false) :
    (s.storeRam byBytes unit a data).byteAt (a + BitVec.ofNat 32 k) = data[k] := by
  induction data generalizing s a k with
  | nil => exact absurd hk (Nat.not_lt_zero k)
  | cons b rest ih =>
    rw [List.length_cons] at hn hk
    obtain ⟨t, ht, hmem, hframe⟩ := s.storeRam_cons byBytes unit a b rest
    have hwf : Memory.wf t.mem = true := hmem ▸ h
    rw [ht]
    cases k with
    | zero =>
      rw [show a + BitVec.ofNat 32 0 = a from BitVec.add_zero a] at hd ⊢
      rw [if_neg (by simp [hd]), State.storeRam_byteAt_kept _ (t.storeByte_wf hwf a b) _ _ _ _ _
        (.inl (not_mem_span_succ a hn)), t.storeByte_byteAt hwf, if_pos rfl, List.getElem_cons_zero]
    | succ k =>
      have hmap : ∀ x, t.isDevice x = s.isDevice x := fun x => by rw [hframe]; rfl
      rw [add_ofNat_succ] at hd ⊢
      rw [List.getElem_cons_succ]
      split
      · exact ih t hwf _ (by omega) _ ((hmap _).trans hd)
      · exact ih _ (t.storeByte_wf hwf a b) _ (by omega) _ ((hmap _).trans hd)

theorem State.answeredBytes_length (s : State) (a : Word) (draw n : Nat) : (s.answeredBytes a draw n).length = n := by
  induction n generalizing a draw with
  | zero => rfl
  | succ n ih => rw [State.answeredBytes, List.length_cons, ih]

/-- A byte in `ram` of an access that a device answers is memory's (20_memory.md R93). -/
theorem State.answeredBytes_ram (s : State) (a : Word) (draw n : Nat) {k : Nat} (hk : k < n)
    (hd : s.isDevice (a + BitVec.ofNat 32 k) = false) :
    (s.answeredBytes a draw n)[k]? = some (s.byteAt (a + BitVec.ofNat 32 k)) := by
  induction n generalizing a draw k with
  | zero => exact absurd hk (Nat.not_lt_zero k)
  | succ n ih =>
    rw [State.answeredBytes]
    cases k with
    | zero =>
      rw [show a + BitVec.ofNat 32 0 = a from BitVec.add_zero a] at hd ⊢
      rw [List.getElem?_cons_zero, if_neg (by simp [hd])]
    | succ k =>
      rw [add_ofNat_succ] at hd ⊢
      rw [List.getElem?_cons_succ]
      exact ih _ _ (by omega) hd

section
variable {insn ea : Word} {base : Bool} {s : State}

theorem loadData_device {n : Nat} (ha : aligned ea n = true) (hw : s.watched false ea n = false)
    (hk : kindOf s.memMap ea n = some .device) :
    loadData insn base ea n s =
      .done (s.answeredBytes ea s.draws n) { s with draws := s.draws + n, busLog := .deviceRead ea n :: s.busLog } := by
  rw [loadData, if_pos ha, readSpan_device hw hk]

theorem storeData_device {data : List Byte} (ha : aligned ea data.length = true)
    (hw : s.watched true ea data.length = false) (hk : kindOf s.memMap ea data.length = some .device) :
    storeData insn base ea data s =
      .done () { s.storeRamBytes ea data with busLog := .deviceWrite ea data :: s.busLog } := by
  simp [storeData, ha, writeSpan, hw, hk]

end

/-- What a store leaves whose access reaches a device, perhaps after some draws: its bytes in `ram`, and the record. -/
theorem finishStore_device {s : State} (hwf : Memory.wf s.mem = true) (draws : Nat) (update : Option (BitVec 5)) (ea : Word)
    {data : List Byte} (hn : data.length < 2 ^ 32) :
    ∃ (g : Vector Word 32) (m : Memory) (st : List StaleWord),
      finishStore update ea
          { (s.drawn draws).storeRamBytes ea data with busLog := .deviceWrite ea data :: s.busLog } =
        { s with
          gpr := g, pc := s.pc + 4, mem := m, stale := st, draws := s.draws + draws
          busLog := .deviceWrite ea data :: s.busLog } ∧
      (∀ a, update = some a → g[a.toNat] = ea) ∧ (∀ j, j ∉ update.toList → g[j.toNat] = s.r j) ∧
      (∀ x, x ∉ span ea data.length ∨ s.isDevice x = true → Memory.read m x.toNat = s.byteAt x) ∧
      ∀ k, k < data.length → s.isDevice (ea + BitVec.ofNat 32 k) = false →
        data[k]? = some (Memory.read m (ea + BitVec.ofNat 32 k).toNat) := by
  have hkeptBytes := fun x => (s.drawn draws).storeRamBytes_byteAt_kept hwf ea x data
  have hinside : ∀ k (hk : k < data.length), s.isDevice (ea + BitVec.ofNat 32 k) = false →
      ((s.drawn draws).storeRamBytes ea data).byteAt (ea + BitVec.ofNat 32 k) = data[k] :=
    fun k hk hd => (s.drawn draws).storeRam_byteAt_inside hwf _ _ ea data hn hk hd
  have hstored := (s.drawn draws).storeRamBytes_eq ea data
  generalize (s.drawn draws).storeRamBytes ea data = t at hkeptBytes hinside hstored ⊢
  obtain ⟨g, hg, hbase, hkept⟩ := update_advance { t with busLog := .deviceWrite ea data :: s.busLog } update ea
  refine ⟨g, t.mem, t.stale, ?_, hbase, fun j hj => (hkept j hj).trans ?_, hkeptBytes, fun k hk hd => ?_⟩
  · rw [finishStore, hg, hstored]
    rfl
  · rw [hstored]
    rfl
  · rw [List.getElem?_eq_getElem hk]
    exact congrArg some (hinside k hk hd).symm

/-- Settles O29: each shape by the access that the device answers or takes, and what is left after it. -/
theorem deviceAccessesReachTheDevice : Obligations.DeviceAccessesReachTheDevice := by
  intro i ea s store n hn hea hwf hfloat hmem ha hw hk
  cases accessShape_of_size hn with
  | @load sh _ hl hs hfl hfs hn =>
    subst hn
    refine .of_next ((exec_load hl hea).trans (Access.andThen_done (loadData_device ha hw hk) _)) ?_
    obtain ⟨g, hg, htarget, hbase, hkept⟩ := LoadShape.finish_effect (update_ne_target hl hwf) ea
      (s.answeredBytes ea s.draws sh.bytes)
      { s with draws := s.draws + sh.bytes, busLog := .deviceRead ea sh.bytes :: s.busLog }
    rw [hg]
    refine ⟨rfl, fun _ _ => rfl, rfl, fun _ => rfl, forall_of_some hl ⟨?_, hbase, hkept, rfl⟩, forall_of_none hfl,
      forall_of_none hs, forall_of_none hfs⟩
    exact ⟨_, s.answeredBytes_length .., htarget, fun k => s.answeredBytes_ram ea _ _⟩
  | @floatLoad sh _ hl hs hfl hfs hf hn =>
    subst hn
    refine .of_next ((exec_floatLoad hfl (hfloat hf) hea).trans (Access.andThen_done (loadData_device ha hw hk) _)) ?_
    obtain ⟨g, hg, hbase, hkept⟩ := sh.finish_effect ea (s.answeredBytes ea s.draws sh.bytes)
      { s with draws := s.draws + sh.bytes, busLog := .deviceRead ea sh.bytes :: s.busLog }
    rw [hg]
    refine ⟨rfl, fun _ _ => rfl, rfl, fun _ => rfl, forall_of_none hl,
      forall_of_some hfl ⟨?_, hbase, fun j hj => State.setF_f_ne s (by simpa using hj) _, hkept⟩, forall_of_none hs,
      forall_of_none hfs⟩
    exact ⟨_, s.answeredBytes_length .., State.setF_f_same s _ _, fun k => s.answeredBytes_ram ea _ _⟩
  | @store st _ hl hs hfl hfs hn =>
    have hlen := storeShape_length hs s
    rw [← hn s] at ha hw hk ⊢
    refine .of_next ((exec_store hs hea).trans (Access.andThen_done (storeData_device ha hw hk) _)) ?_
    obtain ⟨g, m, stale, hg, hbase, hkept, houtside, hinside⟩ :=
      finishStore_device hmem 0 st.update ea (data := st.data s) (by omega)
    refine hg ▸ ⟨rfl, fun x hx => ?_, rfl, nofun, forall_of_none hl, forall_of_none hfl,
      forall_of_some hs ⟨rfl, hinside, hbase, hkept, rfl⟩, forall_of_none hfs⟩
    exact houtside x (hx.imp_right fun h => h.resolve_right nofun)
  | @floatStore st _ hl hs hfl hfs hf hn =>
    obtain ⟨data, draws, hlen, hnumber, hexec⟩ := exec_floatStore hfs (hfloat hf) hea
    have hbytes := floatStoreShape_bytes hfs
    obtain rfl : data.length = n := hlen.trans hn
    refine .of_next (hexec.trans (Access.andThen_done (storeData_device (s := s.drawn draws) ha hw hk) _)) ?_
    obtain ⟨g, m, stale, hg, hbase, hkept, houtside, hinside⟩ :=
      finishStore_device hmem draws st.update ea (data := data) (by omega)
    refine hg ▸ ⟨rfl, fun x hx => ?_, rfl, nofun, forall_of_none hl, forall_of_none hfl, forall_of_none hs,
      forall_of_some hfs ⟨⟨data, rfl, rfl, hnumber, hinside⟩, hbase, hkept, rfl⟩⟩
    exact houtside x (hx.imp_right fun h => h.resolve_right nofun)

end Sys2Proof.Machine
end

section
namespace Sys2Proof.Machine

/-! ## Overwritten words (20_memory.md R112) -/

/-- The overwritten words at an address, the latest store first. -/
def wordsAt (k : Nat) (l : List StaleWord) : List StaleWord := l.filter fun e => e.addr == k

/-- What is left of the words at one address, the latest store first, when `g` says what becomes of each: with a word that is
gone go all the older ones. -/
def survivors (g : StaleWord → Option StaleWord) : List StaleWord → List StaleWord
  | [] => []
  | e :: older =>
    match g e with
    | some x => x :: survivors g older
    | none => []

/-- At each address the words of `l` become those of `l'` as `g` says. -/
def Survive (g : StaleWord → Option StaleWord) (l l' : List StaleWord) : Prop :=
  ∀ k, wordsAt k l' = survivors g (wordsAt k l)

theorem survivors_bind (f g : StaleWord → Option StaleWord) (l : List StaleWord) :
    survivors g (survivors f l) = survivors (fun e => (f e).bind g) l := by
  induction l with
  | nil => rfl
  | cons e older ih =>
    simp only [survivors]
    cases hf : f e with
    | none => rfl
    | some x =>
      simp only [survivors, Option.bind_some]
      cases g x with
      | none => rfl
      | some y => exact congrArg (y :: ·) ih

theorem survivors_map (f : StaleWord → StaleWord) (l : List StaleWord) : survivors (fun e => some (f e)) l = l.map f := by
  induction l with
  | nil => rfl
  | cons e older ih => exact congrArg (f e :: ·) ih

/-- What is left comes from a word before. -/
theorem exists_of_mem_survivors {g : StaleWord → Option StaleWord} {x : StaleWord} {l : List StaleWord}
    (h : x ∈ survivors g l) : ∃ e ∈ l, g e = some x := by
  induction l with
  | nil => cases h
  | cons e older ih =>
    simp only [survivors] at h
    cases hg : g e with
    | none => rw [hg] at h; cases h
    | some y =>
      rw [hg] at h
      rcases List.mem_cons.mp h with rfl | h
      · exact ⟨e, List.mem_cons_self, hg⟩
      · obtain ⟨z, hz, hgz⟩ := ih h
        exact ⟨z, List.mem_cons_of_mem _ hz, hgz⟩

/-- A word stays where neither it nor a later one is gone. -/
theorem mem_survivors {g : StaleWord → Option StaleWord} {e x : StaleWord} (hg : g e = some x) {newer older : List StaleWord}
    (hn : ∀ y ∈ newer, g y ≠ none) : x ∈ survivors g (newer ++ e :: older) := by
  induction newer with
  | nil => simp [survivors, hg]
  | cons y rest ih =>
    simp only [List.cons_append, survivors]
    cases hy : g y with
    | none => exact absurd hy (hn y List.mem_cons_self)
    | some z => exact List.mem_cons_of_mem _ (ih fun w hw => hn w (List.mem_cons_of_mem _ hw))

theorem mem_wordsAt {k : Nat} {e : StaleWord} {l : List StaleWord} : e ∈ wordsAt k l ↔ e ∈ l ∧ e.addr = k := by
  simp [wordsAt]

section
variable {f g : StaleWord → Option StaleWord} {l l' l'' : List StaleWord}

theorem Survive.trans (hf : Survive f l l') (hg : Survive g l' l'') : Survive (fun e => (f e).bind g) l l'' := fun k => by
  rw [hg k, hf k, survivors_bind]

/-- Steps of the sequence that move words on and end none. -/
theorem Survive.map {m : StaleWord → StaleWord} (hm : ∀ e, (m e).addr = e.addr) (l : List StaleWord) :
    Survive (fun e => some (m e)) l (l.map m) := fun k => by
  have hsame : (fun e => e.addr == k) ∘ m = fun e : StaleWord => e.addr == k := funext fun e => by
    rw [Function.comp_apply, hm]
  rw [survivors_map, wordsAt, List.filter_map, hsame, wordsAt]

theorem wordsAt_cons (k : Nat) (e : StaleWord) (l : List StaleWord) :
    wordsAt k (e :: l) = if e.addr = k then e :: wordsAt k l else wordsAt k l := by
  simp [wordsAt, List.filter_cons]

/-- `isync` leaves nothing at the addresses where a later store is complete, at the others the words up to the first store
that is complete. -/
theorem wordsAt_afterIsync (k : Nat) (l : List StaleWord) (seen : List Nat) :
    wordsAt k (afterIsync seen l) = if k ∈ seen then [] else survivors StaleWord.isynced (wordsAt k l) := by
  induction l generalizing seen with
  | nil => simp [afterIsync, wordsAt, survivors]
  | cons e older ih =>
    simp only [afterIsync, List.contains_iff_mem, wordsAt_cons k e]
    by_cases hseen : e.addr ∈ seen
    · rw [if_pos hseen, ih]
      by_cases hk : e.addr = k
      · rw [if_pos (hk ▸ hseen), if_pos (hk ▸ hseen)]
      · rw [if_neg hk]
    · rw [if_neg hseen]
      cases hi : e.isynced with
      | some x =>
        by_cases hk : e.addr = k
        · have hx : x.addr = k := (isynced_addr hi).trans hk
          simp only [wordsAt_cons, if_pos hx, if_pos hk, ih, if_neg (hk ▸ hseen), survivors, hi]
        · have hx : ¬ x.addr = k := isynced_addr hi ▸ hk
          simp only [wordsAt_cons, if_neg hx, if_neg hk, ih]
      | none =>
        by_cases hk : e.addr = k
        · simp only [ih, hk, List.mem_cons_self, if_true, if_neg (hk ▸ hseen), survivors, hi]
        · simp only [ih, if_neg hk, List.mem_cons, Ne.symm hk, false_or]

theorem Survive.isync (l : List StaleWord) : Survive StaleWord.isynced l (afterIsync [] l) := fun k => by
  rw [wordsAt_afterIsync, if_neg List.not_mem_nil]

/-- What is left is a word of before, as it has become. -/
theorem Survive.mem (h : Survive g l l') {x : StaleWord} (hx : x ∈ l') : ∃ e ∈ l, g e = some x := by
  have hat : x ∈ survivors g (wordsAt x.addr l) := h x.addr ▸ mem_wordsAt.mpr ⟨hx, rfl⟩
  obtain ⟨e, he, hg⟩ := exists_of_mem_survivors hat
  exact ⟨e, (mem_wordsAt.mp he).1, hg⟩

/-- Where the latest word at an address is gone, none is left there. -/
theorem Survive.ends (h : Survive g l l') {k : Nat} {e : StaleWord} (he : l.find? (fun x => x.addr == k) = some e)
    (hg : g e = none) : ∀ x ∈ l', x.addr ≠ k := by
  have hhead : (wordsAt k l).head? = some e := by rw [wordsAt, List.head?_filter, he]
  have hnone : wordsAt k l' = [] := by
    rw [h k]
    cases hl : wordsAt k l with
    | nil => rfl
    | cons y older =>
      rw [hl] at hhead
      cases hhead
      rw [survivors, hg]
  intro x hx hk
  have hmem := mem_wordsAt.mpr ⟨hx, hk⟩
  rw [hnone] at hmem
  cases hmem

theorem Survive.keeps (h : Survive g l l') {newer older : List StaleWord} {e : StaleWord} (hl : l = newer ++ e :: older)
    (hg : g e = some e) (hn : ∀ x ∈ newer, x.addr = e.addr → g x ≠ none) : e ∈ l' := by
  have hat : wordsAt e.addr l = wordsAt e.addr newer ++ e :: wordsAt e.addr older := by
    rw [hl, wordsAt, List.filter_append, List.filter_cons_of_pos (by simp)]
    rfl
  have hmem : e ∈ wordsAt e.addr l' := by
    rw [h e.addr, hat]
    exact mem_survivors hg fun y hy => hn y (mem_wordsAt.mp hy).1 (mem_wordsAt.mp hy).2
  exact (mem_wordsAt.mp hmem).1

end

/-- The word of the same store, moved to some stage of the sequence. -/
def StaleWord.Moves (e x : StaleWord) : Prop := ∃ stage, x = { e with stage := stage }

theorem StaleWord.Moves.trans {e x y : StaleWord} (h : e.Moves x) (h' : x.Moves y) : e.Moves y := by
  obtain ⟨stage, rfl⟩ := h
  obtain ⟨stage', rfl⟩ := h'
  exact ⟨stage', rfl⟩

theorem StaleWord.Moves.addr {e x : StaleWord} (h : e.Moves x) : x.addr = e.addr := by
  obtain ⟨stage, rfl⟩ := h
  rfl

theorem StaleWord.Moves.own {e x : StaleWord} (h : e.Moves x) : x.own = e.own := by
  obtain ⟨stage, rfl⟩ := h
  rfl

/-- What a sequence that is complete for the block of `a` leaves of the words there, for the stores of this processor or of the
other masters: none of their words, none under the latest of them, and all the others' (R112). -/
def Publishes (own : Bool) (a : Word) (l l' : List StaleWord) : Prop :=
  (∀ e ∈ l', e.own = own → e.inBlock a = false) ∧
    (∀ (k : Nat) (e : StaleWord), l.find? (fun x => x.addr == k) = some e → e.own = own → e.inBlock a = true →
      ∀ x ∈ l', x.addr ≠ k) ∧
    ∀ (newer older : List StaleWord) (e : StaleWord), l = newer ++ e :: older → e.own = !own → e.stage = .stored →
      (∀ x ∈ newer, x.addr = e.addr → x.own = (!own) ∧ x.stage = .stored) → e ∈ l'

theorem Survive.publishes {own : Bool} {a : Word} {g : StaleWord → Option StaleWord} {l l' : List StaleWord}
    (h : Survive g l l') (hmoves : ∀ e x, g e = some x → e.Moves x)
    (hends : ∀ e : StaleWord, e.own = own → e.inBlock a = true → g e = none)
    (hkeeps : ∀ e : StaleWord, e.own = !own → e.stage = .stored → g e = some e) : Publishes own a l l' := by
  refine ⟨fun x hx hown => ?_, fun k e he hown hblock => h.ends he (hends e hown hblock),
    fun newer older e hl hown hstage hn => h.keeps hl (hkeeps e hown hstage) fun x hx ha => ?_⟩
  · obtain ⟨e, _, hg⟩ := h.mem hx
    have hblock : x.inBlock a = e.inBlock a := by rw [StaleWord.inBlock, (hmoves e x hg).addr, StaleWord.inBlock]
    rw [hblock, Bool.eq_false_iff]
    intro hin
    rw [hends e ((hmoves e x hg).own ▸ hown) hin] at hg
    cases hg
  · obtain ⟨hx1, hx2⟩ := hn x hx ha
    rw [hkeeps x hx1 hx2]
    exact Option.some_ne_none x

/-! ### The steps of the sequence -/

theorem written_moves (e : StaleWord) (a : Word) : e.Moves (e.written a) := by
  unfold StaleWord.written
  split <;> exact ⟨_, rfl⟩

theorem invalidated_moves (e : StaleWord) (a : Word) : e.Moves (e.invalidated a) := by
  unfold StaleWord.invalidated
  split <;> exact ⟨_, rfl⟩

theorem published_moves (e : StaleWord) (a : Word) : e.Moves (e.published a) := by
  unfold StaleWord.published
  split <;> exact ⟨_, rfl⟩

theorem synced_moves (e : StaleWord) : e.Moves e.synced := by
  unfold StaleWord.synced
  split <;> exact ⟨_, rfl⟩

theorem isynced_moves {e x : StaleWord} (h : e.isynced = some x) : e.Moves x := by
  unfold StaleWord.isynced at h
  split at h <;> cases h <;> exact ⟨_, rfl⟩

/-- What an instruction of the sequence may do at its fourth place: `sync`, on a uniprocessor also `isync` (R112; log 53). -/
def FourthStep (m : StaleWord → Option StaleWord) : Prop :=
  m = (fun e => some e.synced) ∨ (m = StaleWord.isynced ∧ Config.uniprocessor = true)

/-- What the sequence for the block of `a` makes of a word (R112). -/
def sequenceStep (a : Word) (fourth : StaleWord → Option StaleWord) (e : StaleWord) : Option StaleWord :=
  (fourth ((e.written a).synced.invalidated a)).bind StaleWord.isynced

theorem sequenceStep_moves {a : Word} {fourth : StaleWord → Option StaleWord} (hf : FourthStep fourth) {e x : StaleWord}
    (h : sequenceStep a fourth e = some x) : e.Moves x := by
  obtain ⟨y, hy, hx⟩ := Option.bind_eq_some_iff.mp h
  have hthree : e.Moves ((e.written a).synced.invalidated a) :=
    ((written_moves e a).trans (synced_moves _)).trans (invalidated_moves _ a)
  refine (hthree.trans ?_).trans (isynced_moves hx)
  rcases hf with rfl | ⟨rfl, _⟩
  · cases hy
    exact synced_moves _
  · exact isynced_moves hy

/-- The sequence ends every word of the block that this processor overwrote, whatever part of it was done before. -/
theorem sequenceStep_ends {a : Word} {fourth : StaleWord → Option StaleWord} (hf : FourthStep fourth) (e : StaleWord)
    (hown : e.own = true) (hblock : e.inBlock a = true) : sequenceStep a fourth e = none := by
  obtain ⟨addr, word, blend, stage, own⟩ := e
  have hin : ∀ stage own, StaleWord.inBlock ⟨addr, word, blend, stage, own⟩ a = true := fun _ _ => hblock
  obtain rfl : own = true := hown
  rcases hf with rfl | ⟨rfl, hu⟩ <;> cases stage <;>
    simp [sequenceStep, StaleWord.written, StaleWord.synced, StaleWord.invalidated, StaleWord.isynced, *]

/-- It leaves a word alone whose store, another master's, nothing has published. -/
theorem sequenceStep_keeps {a : Word} {fourth : StaleWord → Option StaleWord} (hf : FourthStep fourth) (e : StaleWord)
    (hown : e.own = false) (hstage : e.stage = .stored) : sequenceStep a fourth e = some e := by
  rcases hf with rfl | ⟨rfl, _⟩ <;>
    simp [sequenceStep, StaleWord.written, StaleWord.synced, StaleWord.invalidated, StaleWord.isynced, *]

/-- The sequence publishes this processor's stores to the block. -/
theorem sequence_publishes {a : Word} {fourth : StaleWord → Option StaleWord} (hf : FourthStep fourth)
    {l l' : List StaleWord}
    (h : Survive fourth (((l.map fun e => e.written a).map StaleWord.synced).map fun e => e.invalidated a) l') :
    Publishes true a l (afterIsync [] l') := by
  have hwritten := Survive.map (fun e => (written_moves e a).addr) l
  have hsynced := hwritten.trans (.map (fun e => (synced_moves e).addr) _)
  have hinvalidated := hsynced.trans (.map (fun e => (invalidated_moves e a).addr) _)
  have hall : Survive (sequenceStep a fourth) l (afterIsync [] l') := (hinvalidated.trans h).trans (.isync l')
  exact hall.publishes (fun _ _ => sequenceStep_moves hf) (sequenceStep_ends hf) (sequenceStep_keeps hf)

/-- The end of another master's sequence, and an `isync` here, publish the other masters' stores to the block. -/
theorem codePublished_publishes (a : Word) (l : List StaleWord) :
    Publishes false a l (afterIsync [] (l.map fun e => e.published a)) := by
  have hall := (Survive.map (fun e => (published_moves e a).addr) l).trans (.isync _)
  refine hall.publishes (fun e _ hx => (published_moves e a).trans (isynced_moves hx)) (fun e hown hblock => ?_)
    fun e hown hstage => ?_
  · simp [StaleWord.published, StaleWord.isynced, hown, hblock]
  · simp [StaleWord.published, StaleWord.isynced, hown, hstage]

/-! ### The instructions of the sequence -/

/-- What an instruction of the sequence leaves: other overwritten words, and the next pc. -/
def State.withStale (s : State) (l : List StaleWord) : State := State.advance { s with stale := l }

@[simp] theorem State.withStale_stale (s : State) (l : List StaleWord) : (s.withStale l).stale = l := rfl
@[simp] theorem State.withStale_memMap (s : State) (l : List StaleWord) : (s.withStale l).memMap = s.memMap := rfl
@[simp] theorem State.withStale_eaX (s : State) (l : List StaleWord) (a b : BitVec 5) :
    (s.withStale l).eaX a b = s.eaX a b := rfl
@[simp] theorem State.withStale_byteAt (s : State) (l : List StaleWord) (a : Word) :
    (s.withStale l).byteAt a = s.byteAt a := rfl

theorem insideMap_mapped {ea : Word} {s : State} (h : kindAt s.memMap ea.toNat ≠ none) (go : State → Result) :
    insideMap ea s go = go s := by
  unfold insideMap
  cases hk : kindAt s.memMap ea.toNat with
  | none => exact absurd hk h
  | some _ => rfl

theorem exec_blockWrite {a b : BitVec 5} {first : Instr} {s : State} (hfirst : first = .dcbst a b ∨ first = .dcbf a b)
    (h : kindAt s.memMap (s.eaX a b).toNat ≠ none) :
    exec first s = .next (s.withStale (s.stale.map fun e => e.written (s.eaX a b))) := by
  rcases hfirst with rfl | rfl
  · rw [exec_dcbst, execDcbst, insideMap_mapped h]
    rfl
  · rw [exec_dcbf, execDcbf, insideMap_mapped h]
    rfl

theorem exec_icbi_mapped {a b : BitVec 5} {s : State} (h : kindAt s.memMap (s.eaX a b).toNat ≠ none) :
    exec (.icbi a b) s = .next (s.withStale (s.stale.map fun e => e.invalidated (s.eaX a b))) := by
  rw [exec_icbi, execIcbi, insideMap_mapped h]
  rfl

theorem exec_sync_withStale (s : State) : exec .sync s = .next (s.withStale (s.stale.map StaleWord.synced)) := rfl

theorem exec_isync_withStale (s : State) : exec .isync s = .next (s.withStale (afterIsync [] s.stale)) := rfl

/-- The instruction at the fourth place goes on, and what it does to the overwritten words is a fourth step. -/
theorem completes_fourth {fourth : Instr} (hfourth : fourth = .sync ∨ (fourth = .isync ∧ Config.uniprocessor = true))
    {s : State} {P : State → Prop} (hp : ∀ m l, FourthStep m → Survive m s.stale l → P (s.withStale l)) :
    Completes (exec fourth s) P := by
  rcases hfourth with rfl | ⟨rfl, hu⟩
  · exact .of_next (exec_sync_withStale s) (hp _ _ (.inl rfl) (.map (fun e => (synced_moves e).addr) _))
  · exact .of_next (exec_isync_withStale s) (hp _ _ (.inr ⟨rfl, hu⟩) (.isync _))

/-- Settles O36: what becomes of each word, composed over the steps, is followed at each address from the latest store down. -/
theorem codeModificationSequencePublishes : Obligations.CodeModificationSequencePublishes := by
  refine ⟨fun a b first fourth s hfirst hfourth hmap => ?_, fun a s => ?_⟩
  · refine .of_next (exec_blockWrite hfirst hmap) (.of_next (exec_sync_withStale _)
      (.of_next (exec_icbi_mapped (by simpa using hmap)) (completes_fourth hfourth fun m l hm hsurvive =>
        .of_next (exec_isync_withStale _) ?_)))
    simp only [State.withStale_stale, State.withStale_eaX] at hsurvive ⊢
    obtain ⟨hgone, hlatest, hothers⟩ := sequence_publishes hm hsurvive
    exact ⟨hgone, hlatest, hothers, fun _ => by simp only [State.withStale_byteAt]⟩
  · obtain ⟨hgone, hlatest, hothers⟩ := codePublished_publishes a s.stale
    exact .of_next rfl ⟨hgone, hlatest, hothers, fun _ => rfl⟩

end Sys2Proof.Machine
end

section
namespace Sys2Proof.Machine

/-! ## dcbz (48_cache_segment_tlb_external.md R456) -/

theorem wordAligned_of_aligned {a : Word} (h : aligned a 4 = true) : wordAligned a = a := by
  have hzero : a &&& 3 = 0 := (and_three_eq_zero_iff a).mpr (by simpa [aligned] using h)
  have hsplit : a = (a &&& ~~~(3 : Word)) ||| (a &&& 3) := by
    rw [← BitVec.and_or_distrib_left, BitVec.or_comm, BitVec.or_not_self, BitVec.and_allOnes]
  rw [hzero, show (0 : Word) = 0#32 from rfl, BitVec.or_zero] at hsplit
  exact hsplit.symm

/-- Memory's word changes only where one of its bytes does. -/
theorem State.wordAt_congr {s t : State} {a : Word} (h : ∀ k, k < 4 → t.byteAt (a + BitVec.ofNat 32 k) =
    s.byteAt (a + BitVec.ofNat 32 k)) : t.wordAt a = s.wordAt a := by
  have hbytes : t.bytesAt a 4 = s.bytesAt a 4 := List.ext_getElem (by simp) fun k hk _ => by
    rw [State.bytesAt_getElem, State.bytesAt_getElem]
    exact h k (by simpa using hk)
  rw [State.wordAt, hbytes, State.wordAt]

/-- A word of zeros stored as part of a larger store: fetch may go on seeing its bytes as they were, or zero. -/
def clearedWord (s : State) (a : Word) : StaleWord := ⟨a.toNat, s.wordAt a, 0, .stored, true⟩

section
variable {s : State} {a : Word}

/-- The words of an aligned store of zeros are stored one after the other. -/
theorem storePieces_zeros_succ (h : aligned a 4 = true) (m : Nat) :
    s.storePieces true true 4 a (List.replicate (4 * (m + 1)) 0) =
      (s.storePieces true true 4 a (List.replicate 4 0)).storePieces true true 4 (a + 4) (List.replicate (4 * m) 0) := by
  rw [show 4 * (m + 1) = 4 * m + 1 + 1 + 1 + 1 by omega]
  simp only [List.replicate_succ, List.replicate_zero]
  rw [State.storePieces_word _ _ _ h, State.storePieces_word _ _ _ h]
  rfl

theorem storePieces_zeros_stale (h : aligned a 4 = true) :
    (s.storePieces true true 4 a (List.replicate 4 0)).stale = clearedWord s a :: s.stale := by
  simp only [List.replicate_succ, List.replicate_zero]
  rw [State.storePieces_word _ _ _ h]
  simp only [State.storePieces, State.storeByte_stale, State.remember_stale, if_true, Option.getD_some,
    wordAligned_of_aligned h]
  rfl

/-- What an aligned store of zeros leaves for fetch to see: each of its words, as it was before the store, the last one
first. -/
theorem storePieces_clears (hwf : Memory.wf s.mem = true) (h : aligned a 4 = true) {m : Nat} (hm : 4 * m < 2 ^ 32) :
    (s.storePieces true true 4 a (List.replicate (4 * m) 0)).stale =
      ((List.range m).reverse.map fun k => clearedWord s (a + BitVec.ofNat 32 (4 * k))) ++ s.stale := by
  induction m generalizing s a with
  | zero => rfl
  | succ m ih =>
    have hnext : aligned (a + 4) 4 = true := by
      simp only [aligned, beq_iff_eq, BitVec.toNat_add, show (4 : Word).toNat = 4 from rfl] at h ⊢
      omega
    rw [storePieces_zeros_succ h, ih (State.storePieces_wf _ hwf _ _ _ _ _) hnext (by omega), storePieces_zeros_stale h,
      List.range_succ_eq_map, List.reverse_cons, List.map_append, List.append_assoc, ← List.map_reverse, List.map_map]
    refine congrArg₂ _ (List.map_congr_left fun k hk => ?_) ?_
    · have hk : k < m := by simpa using hk
      have hword : a + 4 + BitVec.ofNat 32 (4 * k) = a + BitVec.ofNat 32 (4 * (k + 1)) := by
        rw [show 4 * (k + 1) = 4 + 4 * k by omega, ← add_ofNat_add]
        rfl
      have hkept : (s.storePieces true true 4 a (List.replicate 4 0)).wordAt (a + BitVec.ofNat 32 (4 * (k + 1))) =
          s.wordAt (a + BitVec.ofNat 32 (4 * (k + 1))) := State.wordAt_congr fun i hi => by
        refine State.storePieces_byteAt_outside _ hwf _ _ _ _ _ _ ?_
        rw [List.length_replicate, mem_span]
        rintro ⟨j, hj, he⟩
        rw [add_ofNat_add, add_ofNat_inj (by omega) (by omega)] at he
        omega
      rw [clearedWord, hword, hkept]
      rfl
    · rw [List.map_singleton, show a + BitVec.ofNat 32 (4 * 0) = a from BitVec.add_zero a]
      rfl

end

/-- The three outcomes of `dcbz` where DABR does not watch its block. -/
theorem exec_dcbz_block {a b : BitVec 5} {s : State} {block : Word} (hb : block.toNat = (s.eaX a b).toNat / 32 * 32) :
    exec (.dcbz a b) s =
      if kindOf s.memMap block 32 = some .device then raiseAlignment (encode (.dcbz a b)) false (s.eaX a b) s
      else if s.watched true block 32 then raiseDsi (watchCause true) (s.eaX a b) s
      else if kindOf s.memMap block 32 = none then .refused .outsideMemMap
      else .next (s.storeBytes block (List.replicate 32 0)).advance := by
  obtain rfl : block = blockBase (s.eaX a b) := BitVec.eq_of_toNat_eq (hb.trans (toNat_blockBase _).symm)
  rfl

/-- A block is stored in words, of which fetch may see each byte on its own. -/
theorem storeBytes_block {s : State} {block : Word} (h : aligned block 4 = true) {data : List Byte} (hn : data.length = 32) :
    s.storeBytes block data = s.storePieces true true 4 block data := by
  have hunit : atomicUnit block 32 = 4 := by simp [atomicUnit, h]
  rw [State.storeBytes, State.storeSpan, hn, seenByBytes, hunit]
  rfl

theorem wordByte_zero (j : Nat) : wordByte 0 j = 0 := by simp [wordByte]

/-- Where each byte is the one of the word overwritten or zero, fetch may see the word of a block that is cleared. -/
theorem mayFetch_cleared {s t : State} {a v : Word} (hpc : t.pc = a) (hstale : clearedWord s a ∈ t.stale)
    (hv : ∀ j, j < 4 → wordByte v j = wordByte (s.wordAt a) j ∨ wordByte v j = 0) : t.MayFetch v := by
  subst hpc
  refine ⟨v, .inr ⟨clearedWord s t.pc, hstale, rfl, fun j hj => ?_⟩, fun _ _ _ => rfl⟩
  exact (hv j hj).imp_right fun h => h.trans (wordByte_zero j).symm

theorem storeBlock_stale {s : State} {block : Word} (hwf : Memory.wf s.mem = true) (h : aligned block 4 = true) :
    (s.storeBytes block (List.replicate 32 0)).stale =
      ((List.range 8).reverse.map fun k => clearedWord s (block + BitVec.ofNat 32 (4 * k))) ++ s.stale := by
  rw [storeBytes_block h List.length_replicate]
  exact storePieces_clears hwf h (m := 8) (by omega)

theorem storeBytes_done {s : State} (hwf : Memory.wf s.mem = true) (a : Word) {data : List Byte}
    (hn : data.length < 2 ^ 32) : StoreDone s (s.storeBytes a data).advance none a data :=
  finishStore_done hwf 0 _ _ none a hn

/-- Settles O37, by the order of the tests of `dcbz`, and by what its store of eight words leaves. -/
theorem blockZeroClearsBlock : Obligations.BlockZeroClearsBlock := by
  intro a b s block hb
  have hblock : aligned block 4 = true := by
    rw [aligned, hb, beq_iff_eq]
    omega
  rw [exec_dcbz_block hb]
  refine ⟨fun hwf hk hw => ?_, fun hk => ?_, fun hk hw => ?_⟩
  · rw [if_neg (by simp [hk]), if_neg (by simp [hw]), if_neg (by simp [hk])]
    have hstale := storeBlock_stale hwf hblock
    have hdone := storeBytes_done hwf block (data := List.replicate 32 0) (by simp)
    generalize s.storeBytes block (List.replicate 32 0) = t at hstale hdone ⊢
    refine .of_next rfl ⟨hdone, hstale, fun k v hk hv => mayFetch_cleared rfl ?_ hv⟩
    exact hstale ▸ List.mem_append_left _ (List.mem_map.mpr ⟨k, by simpa using hk, rfl⟩)
  · rw [if_pos hk]
    exact raiseAlignment_taken _ _ _ _
  · simp [hk, hw]

end Sys2Proof.Machine
end

section
namespace Sys2Proof.Machine

/-! ## The step at an instruction (70_reset_and_hazards.md R605) -/

/-- The processor's turn at an instruction fetches and runs it. -/
theorem step_atInstruction {s : State} (h : s.AtInstruction) : step s = runInstruction s.turn := by
  obtain ⟨hturn, hc, hp, hm, hpending⟩ := h
  have hstep : processorStep s.turn = runInstruction s.turn := by
    rw [processorStep, show msrRefusal s.turn.msr = none from hm, hpending]
  rw [← hstep]
  rcases hturn with hs | ⟨rest, hs⟩
  · rw [step_sole hs, soleStep, if_neg (by simp [hc]), if_neg (by simp [hp]), State.turn, hs]
    rfl
  · have hex : s.executing = true := by simp [State.executing, State.clocked, hc, hp]
    simp only [step, machineStep, hs, hex, if_true, State.turn, List.tail_cons]

/-- A fetch with a byte in a device region is recorded, and the word runs as any other (20_memory.md R93). -/
theorem runInstruction_mapped {s : State} (h : kindOf s.memMap s.pc 4 ≠ none) :
    runInstruction s = runFetched (State.fetch { s with
      busLog := if kindOf s.memMap s.pc 4 = some .device then .deviceRead s.pc 4 :: s.busLog else s.busLog }) := by
  unfold runInstruction
  cases hk : kindOf s.memMap s.pc 4 with
  | none => exact absurd hk h
  | some kind => cases kind <;> simp

/-- A word that four bytes spell has them as its bytes (20_memory.md R80). -/
theorem wordByte_wordOf (f : Nat → Byte) {k : Nat} (hk : k < 4) :
    wordByte (wordOf ((List.range 4).map f)) (3 - k) = f k := by
  have := (f 0).isLt
  have := (f 1).isLt
  have := (f 2).isLt
  have := (f 3).isLt
  apply BitVec.eq_of_toNat_eq
  rw [toNat_wordByte]
  simp only [wordOf, natOf, List.range_succ_eq_map, List.range_zero, List.map_cons, List.map_nil, List.foldl_cons,
    List.foldl_nil, BitVec.toNat_ofNat]
  interval_cases k <;> simp <;> omega

/-- The mask of the bytes of a word that lie in device regions is zero at every other byte. -/
theorem wordByte_deviceMask {s : State} {a : Word} {k : Nat} (hk : k < 4)
    (hd : s.isDevice (a + BitVec.ofNat 32 k) = false) : wordByte (s.deviceMask a) (3 - k) = 0 := by
  have hmask : s.deviceMask a = wordOf ((List.range 4).map fun k =>
      if s.isDevice (a + BitVec.ofNat 32 k) then (0xFF : Byte) else 0) := by
    rw [State.deviceMask, span_eq_map, List.map_map]
    rfl
  rw [hmask, wordByte_wordOf _ hk, if_neg (by simp [hd])]

theorem State.fetchWord_ram (s : State) (a : Word) {k : Nat} (hk : k < 4)
    (hd : s.isDevice (a + BitVec.ofNat 32 k) = false) :
    wordByte (s.fetchWord a).1 (3 - k) = wordByte (s.fetchMemory a).1 (3 - k) := by
  obtain ⟨_, n, hn⟩ := s.fetchMemory_sees a
  have hmask : wordByte ((s.fetchMemory a).2.deviceMask a) (3 - k) = 0#8 :=
    wordByte_deviceMask hk (by rw [hn]; exact hd)
  unfold State.fetchWord
  dsimp only
  split
  · rfl
  · rw [wordByte_merge _ _ _ (by omega), hmask, BitVec.and_zero, BitVec.zero_or, BitVec.not_zero, BitVec.and_allOnes]

/-- What fetch reads: of the bytes in `ram` what memory or an overwritten word holds; only draws are used. -/
theorem fetch_sees (s : State) : ∃ w n, s.MayFetch w ∧ s.fetch = (decodeWord w.toNat, { s with draws := n }) := by
  obtain ⟨n, hn⟩ := fetch_state s
  obtain ⟨hword, _⟩ := s.fetchMemory_sees s.pc
  exact ⟨(s.fetchWord s.pc).1, n, ⟨(s.fetchMemory s.pc).1, hword, fun k hk hd => s.fetchWord_ram s.pc hk hd⟩,
    by rw [← hn]; rfl⟩

/-- What runs once a word is fetched. -/
theorem runFetched_decoded (d : Except DecodeError Instr) (u : State) :
    (∀ i, d = .ok i → runFetched (d, u) = traceAfter u.msr i (noteCompletion i u (exec i u))) ∧
      (d = .error .illegal → runFetched (d, u) = .next (takeException .program u.pc (bitMask 12) u)) ∧
      (d = .error .reservedBits → runFetched (d, u) = .refused .reservedBits) ∧
      (d = .error .invalidForm → runFetched (d, u) = .refused .invalidForm) := by
  refine ⟨?_, ?_, ?_, ?_⟩
  · rintro i rfl
    rfl
  all_goals
    rintro rfl
    rfl

/-- An instruction that took no exception and is not traced has completed, and is noted. -/
theorem traceAfter_quiet {s t : State} {msr : Word} {i : Instr} (htaken : t.taken = none) (htrace : traced msr i = false) :
    traceAfter msr i (noteCompletion i s (.next t)) = .next { t with
      lastCompleted := some s.pc
      accesses := ((accessAddress i s).map (Sample.mk s.pc)).toList ++ t.accesses } := by
  have hcompleted : completed s t = true := by simp [completed, htaken]
  rw [noteCompletion_next, hcompleted, traceAfter, htrace, Bool.and_false]
  rfl

theorem accessAddress_turn (i : Instr) (s : State) : accessAddress i s.turn = accessAddress i s := rfl

/-- Settles O3, by what the processor's turn is at an instruction and what fetch reads there. -/
theorem stepRunsDecodedInstruction : Obligations.StepRunsDecodedInstruction := by
  refine ⟨fun s i hat hfetch hi => ?_, fun s hat hmap => ?_⟩
  · have hstep : step s = traceAfter s.msr i (noteCompletion i s.turn (exec i s.turn)) := by
      rw [step_atInstruction hat, runInstruction, show kindOf s.turn.memMap s.turn.pc 4 = some .ram from hfetch.1,
        State.fetch_fresh (s := s.turn) hfetch, show s.turn.decoded = .ok i from hi]
      rfl
    refine ⟨hstep, fun t ht htaken htrace => ?_⟩
    rw [hstep, ht, traceAfter_quiet htaken htrace, accessAddress_turn]
    rfl
  · obtain ⟨w, n, hw, hf⟩ := fetch_sees { s.turn with
      busLog := if kindOf s.memMap s.pc 4 = some .device then .deviceRead s.pc 4 :: s.busLog else s.busLog }
    refine ⟨w, n, hw, ?_⟩
    rw [step_atInstruction hat, runInstruction_mapped (s := s.turn) hmap]
    exact hf ▸ runFetched_decoded (decodeWord w.toNat) _

end Sys2Proof.Machine
end

section
namespace Sys2Proof.Machine

/-- Settles O4, by what the processor's turn is at an instruction and what runs once a word is fetched. -/
theorem undecodedWordsTrapOrStop : Obligations.UndecodedWordsTrapOrStop := by
  intro s hat
  rw [step_atInstruction hat]
  refine ⟨fun hfetch => ?_, fun hmap => ?_⟩
  · have hrun : runInstruction s.turn = runFetched (s.decoded, s.turn) := by
      rw [runInstruction, show kindOf s.turn.memMap s.turn.pc 4 = some .ram from hfetch.1,
        State.fetch_fresh (s := s.turn) hfetch]
      rfl
    rw [hrun]
    exact (runFetched_decoded s.decoded s.turn).2
  · rw [runInstruction, show kindOf s.turn.memMap s.turn.pc 4 = none from hmap]

end Sys2Proof.Machine
end

section
namespace Sys2Proof

/-! ## Reading the fields of a word (30_encoding.md R121) -/

theorem fieldAt_eq {w n : Nat} (last : Nat) (v : BitVec n) (h : w / 2 ^ (31 - last) % 2 ^ n = v.toNat) :
    fieldAt w last n = v :=
  BitVec.eq_of_toNat_eq (by rw [fieldAt, BitVec.toNat_ofNat, h])

theorem flagAt_eq {w : Nat} (n : Nat) (v : Bool) (h : w / 2 ^ (31 - n) % 2 = v.toNat) : flagAt w n = v := by
  rw [flagAt, h]
  cases v <;> rfl

theorem holdsAt_eq_true {w last width value : Nat} (h : w / 2 ^ (31 - last) % 2 ^ width = value) :
    holdsAt w last width value = true := by
  rw [holdsAt, h]
  exact beq_self_eq_true value

theorem splitNumber_eq {w : Nat} (v : BitVec 10) (hhigh : w / 2 ^ 11 % 32 = v.toNat / 32)
    (hlow : w / 2 ^ 16 % 32 = v.toNat % 32) : splitNumber w = v := by
  rw [splitNumber, hhigh, hlow, Nat.div_add_mod', BitVec.ofNat_toNat, BitVec.setWidth_eq]

/-- A compare with `L` = 0 is no invalid form (R151). -/
theorem shortCompare_eq {w : Nat} (r : Except DecodeError Instr) (h : w / 2 ^ 21 % 2 = 0) : shortCompare w r = r := by
  rw [shortCompare, flagAt_eq 10 false h]
  rfl

/-- An extended opcode 0 adds nothing to a word. -/
theorem assemble_append_putXo_zero (op : Nat) (fields : List Nat) :
    assemble op (fields ++ [putXo 0]) = assemble op fields := by
  simp [assemble, putXo]

/-! ## The groups of the opcode table (30_encoding.md R137 to R142) -/

section Groups

variable {w : Nat}

theorem decodeRow_branchGroup (h : w / 2 ^ 26 = 19) : decodeRow w = decodeBranchGroup w := by
  simp only [decodeRow, h]

theorem decodeRow_integerGroup (h : w / 2 ^ 26 = 31) : decodeRow w = decodeIntegerGroup w := by
  simp only [decodeRow, h]

theorem decodeRow_singleGroup (h : w / 2 ^ 26 = 59) : decodeRow w = decodeSingleGroup w := by
  simp only [decodeRow, h]

theorem decodeRow_doubleGroup (h : w / 2 ^ 26 = 63) : decodeRow w = decodeDoubleGroup w := by
  simp only [decodeRow, h]

/-- No A-form row hides an X-form one: the extended opcodes of the A-form rows are 18 and above, those of the X-form rows
modulo 32 below (R142). -/
theorem decodeRow_moveGroup (h : w / 2 ^ 26 = 63) (hxo : w / 2 % 32 < 18) : decodeRow w = decodeMoveGroup w := by
  rw [decodeRow_doubleGroup h]
  unfold decodeDoubleGroup
  split
  case h_11 => rfl
  all_goals omega

/-- Only words of 32 bits have a row (R120). -/
theorem lt_of_decodeRow_ok {i : Instr} (h : decodeRow w = .ok i) : w < 2 ^ 32 := by
  unfold decodeRow at h
  split at h
  case h_50 => cases h
  all_goals omega

/-- An extended opcode of XO form, with `OE` before it (R132). -/
theorem extendedOpcode_cases {xo : Nat} (h : w / 2 % 512 = xo) : w / 2 % 1024 = xo ∨ w / 2 % 1024 = xo + 512 := by
  omega

end Groups

/-! ## The forms: a row that reads the fields of its form reads back what the encoder put there

`row` says how the decoder reads the words of one row, `mk` is the row's constructor. -/

/-- D form (R125). -/
theorem decodeRow_d {op : Nat} {mk : BitVec 5 → BitVec 5 → BitVec 16 → Instr}
    (row : ∀ w, w / 2 ^ 26 = op → decodeRow w = .ok (mk (fieldAt w 10 5) (fieldAt w 15 5) (fieldAt w 31 16)))
    (d a : BitVec 5) (imm : BitVec 16) :
    decodeRow (assemble op [put d 10, put a 15, put imm 31]) = .ok (mk d a imm) := by
  simp only [assemble_cons, assemble_nil, put]
  rw [row, fieldAt_eq 10 d, fieldAt_eq 15 a, fieldAt_eq 31 imm]
  all_goals omega

/-- D form of the compares (R125, R151). -/
theorem decodeRow_d_compare {op : Nat} {mk : BitVec 3 → BitVec 5 → BitVec 16 → Instr}
    (row : ∀ w, w / 2 ^ 26 = op → decodeRow w =
      shortCompare w (guarded (holdsAt w 9 1 0) (mk (fieldAt w 8 3) (fieldAt w 15 5) (fieldAt w 31 16))))
    (crf : BitVec 3) (a : BitVec 5) (imm : BitVec 16) :
    decodeRow (assemble op [put crf 8, put a 15, put imm 31]) = .ok (mk crf a imm) := by
  simp only [assemble_cons, assemble_nil, put]
  rw [row, shortCompare_eq, holdsAt_eq_true, fieldAt_eq 8 crf, fieldAt_eq 15 a, fieldAt_eq 31 imm]
  · rfl
  all_goals omega

/-- M form (R134). -/
theorem decodeRow_m {op : Nat} {mk : BitVec 5 → BitVec 5 → BitVec 5 → BitVec 5 → BitVec 5 → Bool → Instr}
    (row : ∀ w, w / 2 ^ 26 = op → decodeRow w =
      .ok (mk (fieldAt w 10 5) (fieldAt w 15 5) (fieldAt w 20 5) (fieldAt w 25 5) (fieldAt w 30 5) (flagAt w 31)))
    (d a b mb me : BitVec 5) (rc : Bool) :
    decodeRow (assemble op [put d 10, put a 15, put b 20, put mb 25, put me 30, putFlag rc 31]) =
      .ok (mk d a b mb me rc) := by
  have := rc.toNat_lt
  simp only [assemble_cons, assemble_nil, put, putFlag]
  rw [row, fieldAt_eq 10 d, fieldAt_eq 15 a, fieldAt_eq 20 b, fieldAt_eq 25 mb, fieldAt_eq 30 me, flagAt_eq 31 rc]
  all_goals omega

/-- I form (R122). -/
theorem decodeRow_i {op : Nat} {mk : BitVec 24 → Bool → Bool → Instr}
    (row : ∀ w, w / 2 ^ 26 = op → decodeRow w = .ok (mk (fieldAt w 29 24) (flagAt w 30) (flagAt w 31)))
    (li : BitVec 24) (aa lk : Bool) :
    decodeRow (assemble op [put li 29, putFlag aa 30, putFlag lk 31]) = .ok (mk li aa lk) := by
  have := aa.toNat_lt
  have := lk.toNat_lt
  simp only [assemble_cons, assemble_nil, put, putFlag]
  rw [row, fieldAt_eq 29 li, flagAt_eq 30 aa, flagAt_eq 31 lk]
  all_goals omega

/-- B form (R123). -/
theorem decodeRow_b {op : Nat} {mk : BitVec 5 → BitVec 5 → BitVec 14 → Bool → Bool → Instr}
    (row : ∀ w, w / 2 ^ 26 = op → decodeRow w =
      .ok (mk (fieldAt w 10 5) (fieldAt w 15 5) (fieldAt w 29 14) (flagAt w 30) (flagAt w 31)))
    (bo bi : BitVec 5) (bd : BitVec 14) (aa lk : Bool) :
    decodeRow (assemble op [put bo 10, put bi 15, put bd 29, putFlag aa 30, putFlag lk 31]) =
      .ok (mk bo bi bd aa lk) := by
  have := aa.toNat_lt
  have := lk.toNat_lt
  simp only [assemble_cons, assemble_nil, put, putFlag]
  rw [row, fieldAt_eq 10 bo, fieldAt_eq 15 bi, fieldAt_eq 29 bd, flagAt_eq 30 aa, flagAt_eq 31 lk]
  all_goals omega

/-- XO form: `OE` is bit 21, the extended opcode bits 22:30 (R132). -/
theorem decodeRow_xo {op xo : Nat} {mk : BitVec 5 → BitVec 5 → BitVec 5 → Bool → Bool → Instr}
    (row : ∀ w, w / 2 ^ 26 = op → w / 2 % 512 = xo → decodeRow w =
      .ok (mk (fieldAt w 10 5) (fieldAt w 15 5) (fieldAt w 20 5) (flagAt w 21) (flagAt w 31)))
    (hxo : xo < 512) (d a b : BitVec 5) (oe rc : Bool) :
    decodeRow (assemble op [put d 10, put a 15, put b 20, putFlag oe 21, putXo xo, putFlag rc 31]) =
      .ok (mk d a b oe rc) := by
  have := oe.toNat_lt
  have := rc.toNat_lt
  simp only [assemble_cons, assemble_nil, put, putXo, putFlag]
  rw [row, fieldAt_eq 10 d, fieldAt_eq 15 a, fieldAt_eq 20 b, flagAt_eq 21 oe, flagAt_eq 31 rc]
  all_goals omega

/-- XO form without `B` (R132). -/
theorem decodeRow_xo_da {op xo : Nat} {mk : BitVec 5 → BitVec 5 → Bool → Bool → Instr}
    (row : ∀ w, w / 2 ^ 26 = op → w / 2 % 512 = xo → decodeRow w =
      guarded (holdsAt w 20 5 0) (mk (fieldAt w 10 5) (fieldAt w 15 5) (flagAt w 21) (flagAt w 31)))
    (hxo : xo < 512) (d a : BitVec 5) (oe rc : Bool) :
    decodeRow (assemble op [put d 10, put a 15, putFlag oe 21, putXo xo, putFlag rc 31]) = .ok (mk d a oe rc) := by
  have := oe.toNat_lt
  have := rc.toNat_lt
  simp only [assemble_cons, assemble_nil, put, putXo, putFlag]
  rw [row, holdsAt_eq_true, fieldAt_eq 10 d, fieldAt_eq 15 a, flagAt_eq 21 oe, flagAt_eq 31 rc]
  · rfl
  all_goals omega

/-- XO form without `OE` (R132). -/
theorem decodeRow_xo_dab {op xo : Nat} {mk : BitVec 5 → BitVec 5 → BitVec 5 → Bool → Instr}
    (row : ∀ w, w / 2 ^ 26 = op → w / 2 % 512 = xo → decodeRow w =
      guarded (holdsAt w 21 1 0) (mk (fieldAt w 10 5) (fieldAt w 15 5) (fieldAt w 20 5) (flagAt w 31)))
    (hxo : xo < 512) (d a b : BitVec 5) (rc : Bool) :
    decodeRow (assemble op [put d 10, put a 15, put b 20, putXo xo, putFlag rc 31]) = .ok (mk d a b rc) := by
  have := rc.toNat_lt
  simp only [assemble_cons, assemble_nil, put, putXo, putFlag]
  rw [row, holdsAt_eq_true, fieldAt_eq 10 d, fieldAt_eq 15 a, fieldAt_eq 20 b, flagAt_eq 31 rc]
  · rfl
  all_goals omega

/-- X and XL form with three operands (R127, R128). -/
theorem decodeRow_x {op xo : Nat} {mk : BitVec 5 → BitVec 5 → BitVec 5 → Instr}
    (row : ∀ w, w / 2 ^ 26 = op → w / 2 % 1024 = xo → decodeRow w =
      guarded (holdsAt w 31 1 0) (mk (fieldAt w 10 5) (fieldAt w 15 5) (fieldAt w 20 5)))
    (hxo : xo < 1024) (d a b : BitVec 5) :
    decodeRow (assemble op [put d 10, put a 15, put b 20, putXo xo]) = .ok (mk d a b) := by
  simp only [assemble_cons, assemble_nil, put, putXo]
  rw [row, holdsAt_eq_true, fieldAt_eq 10 d, fieldAt_eq 15 a, fieldAt_eq 20 b]
  · rfl
  all_goals omega

/-- X form with bit 31 set, that of `stwcx.` (R127). -/
theorem decodeRow_x_bit31 {op xo : Nat} {mk : BitVec 5 → BitVec 5 → BitVec 5 → Instr}
    (row : ∀ w, w / 2 ^ 26 = op → w / 2 % 1024 = xo → decodeRow w =
      guarded (holdsAt w 31 1 1) (mk (fieldAt w 10 5) (fieldAt w 15 5) (fieldAt w 20 5)))
    (hxo : xo < 1024) (d a b : BitVec 5) :
    decodeRow (assemble op [put d 10, put a 15, put b 20, putXo xo, 1]) = .ok (mk d a b) := by
  simp only [assemble_cons, assemble_nil, put, putXo]
  rw [row, holdsAt_eq_true, fieldAt_eq 10 d, fieldAt_eq 15 a, fieldAt_eq 20 b]
  · rfl
  all_goals omega

/-- X form with three operands and `Rc` (R127). -/
theorem decodeRow_x_rc {op xo : Nat} {mk : BitVec 5 → BitVec 5 → BitVec 5 → Bool → Instr}
    (row : ∀ w, w / 2 ^ 26 = op → w / 2 % 1024 = xo → decodeRow w =
      .ok (mk (fieldAt w 10 5) (fieldAt w 15 5) (fieldAt w 20 5) (flagAt w 31)))
    (hxo : xo < 1024) (d a b : BitVec 5) (rc : Bool) :
    decodeRow (assemble op [put d 10, put a 15, put b 20, putXo xo, putFlag rc 31]) = .ok (mk d a b rc) := by
  have := rc.toNat_lt
  simp only [assemble_cons, assemble_nil, put, putXo, putFlag]
  rw [row, fieldAt_eq 10 d, fieldAt_eq 15 a, fieldAt_eq 20 b, flagAt_eq 31 rc]
  all_goals omega

/-- X and XL form without `B`, with `Rc` or `LK` (R127, R128). -/
theorem decodeRow_x_da_rc {op xo : Nat} {mk : BitVec 5 → BitVec 5 → Bool → Instr}
    (row : ∀ w, w / 2 ^ 26 = op → w / 2 % 1024 = xo → decodeRow w =
      guarded (holdsAt w 20 5 0) (mk (fieldAt w 10 5) (fieldAt w 15 5) (flagAt w 31)))
    (hxo : xo < 1024) (d a : BitVec 5) (rc : Bool) :
    decodeRow (assemble op [put d 10, put a 15, putXo xo, putFlag rc 31]) = .ok (mk d a rc) := by
  have := rc.toNat_lt
  simp only [assemble_cons, assemble_nil, put, putXo, putFlag]
  rw [row, holdsAt_eq_true, fieldAt_eq 10 d, fieldAt_eq 15 a, flagAt_eq 31 rc]
  · rfl
  all_goals omega

/-- X form without `A`, with `Rc` (R127). -/
theorem decodeRow_x_db_rc {op xo : Nat} {mk : BitVec 5 → BitVec 5 → Bool → Instr}
    (row : ∀ w, w / 2 ^ 26 = op → w / 2 % 1024 = xo → decodeRow w =
      guarded (holdsAt w 15 5 0) (mk (fieldAt w 10 5) (fieldAt w 20 5) (flagAt w 31)))
    (hxo : xo < 1024) (d b : BitVec 5) (rc : Bool) :
    decodeRow (assemble op [put d 10, put b 20, putXo xo, putFlag rc 31]) = .ok (mk d b rc) := by
  have := rc.toNat_lt
  simp only [assemble_cons, assemble_nil, put, putXo, putFlag]
  rw [row, holdsAt_eq_true, fieldAt_eq 10 d, fieldAt_eq 20 b, flagAt_eq 31 rc]
  · rfl
  all_goals omega

/-- X form with one operand and `Rc` (R127). -/
theorem decodeRow_x_d_rc {op xo : Nat} {mk : BitVec 5 → Bool → Instr}
    (row : ∀ w, w / 2 ^ 26 = op → w / 2 % 1024 = xo → decodeRow w =
      guarded (holdsAt w 20 10 0) (mk (fieldAt w 10 5) (flagAt w 31)))
    (hxo : xo < 1024) (d : BitVec 5) (rc : Bool) :
    decodeRow (assemble op [put d 10, putXo xo, putFlag rc 31]) = .ok (mk d rc) := by
  have := rc.toNat_lt
  simp only [assemble_cons, assemble_nil, put, putXo, putFlag]
  rw [row, holdsAt_eq_true, fieldAt_eq 10 d, flagAt_eq 31 rc]
  · rfl
  all_goals omega

/-- X form of the cache instructions (R127). -/
theorem decodeRow_x_ab {op xo : Nat} {mk : BitVec 5 → BitVec 5 → Instr}
    (row : ∀ w, w / 2 ^ 26 = op → w / 2 % 1024 = xo → decodeRow w =
      guarded (holdsAt w 10 5 0 && holdsAt w 31 1 0) (mk (fieldAt w 15 5) (fieldAt w 20 5)))
    (hxo : xo < 1024) (a b : BitVec 5) :
    decodeRow (assemble op [put a 15, put b 20, putXo xo]) = .ok (mk a b) := by
  simp only [assemble_cons, assemble_nil, put, putXo]
  rw [row, holdsAt_eq_true, holdsAt_eq_true, fieldAt_eq 15 a, fieldAt_eq 20 b]
  · rfl
  all_goals omega

/-- X form without `A` (R127). -/
theorem decodeRow_x_db {op xo : Nat} {mk : BitVec 5 → BitVec 5 → Instr}
    (row : ∀ w, w / 2 ^ 26 = op → w / 2 % 1024 = xo → decodeRow w =
      guarded (holdsAt w 15 5 0 && holdsAt w 31 1 0) (mk (fieldAt w 10 5) (fieldAt w 20 5)))
    (hxo : xo < 1024) (d b : BitVec 5) :
    decodeRow (assemble op [put d 10, put b 20, putXo xo]) = .ok (mk d b) := by
  simp only [assemble_cons, assemble_nil, put, putXo]
  rw [row, holdsAt_eq_true, holdsAt_eq_true, fieldAt_eq 10 d, fieldAt_eq 20 b]
  · rfl
  all_goals omega

/-- X form with one operand, in bits 6:10 (R127). -/
theorem decodeRow_x_d {op xo : Nat} {mk : BitVec 5 → Instr}
    (row : ∀ w, w / 2 ^ 26 = op → w / 2 % 1024 = xo → decodeRow w =
      guarded (holdsAt w 20 10 0 && holdsAt w 31 1 0) (mk (fieldAt w 10 5)))
    (hxo : xo < 1024) (d : BitVec 5) :
    decodeRow (assemble op [put d 10, putXo xo]) = .ok (mk d) := by
  simp only [assemble_cons, assemble_nil, put, putXo]
  rw [row, holdsAt_eq_true, holdsAt_eq_true, fieldAt_eq 10 d]
  · rfl
  all_goals omega

/-- X form with one operand, in bits 16:20 (R127). -/
theorem decodeRow_x_b {op xo : Nat} {mk : BitVec 5 → Instr}
    (row : ∀ w, w / 2 ^ 26 = op → w / 2 % 1024 = xo → decodeRow w =
      guarded (holdsAt w 15 10 0 && holdsAt w 31 1 0) (mk (fieldAt w 20 5)))
    (hxo : xo < 1024) (b : BitVec 5) :
    decodeRow (assemble op [put b 20, putXo xo]) = .ok (mk b) := by
  simp only [assemble_cons, assemble_nil, put, putXo]
  rw [row, holdsAt_eq_true, holdsAt_eq_true, fieldAt_eq 20 b]
  · rfl
  all_goals omega

/-- X form with a segment register (R127). -/
theorem decodeRow_x_sr {op xo : Nat} {mk : BitVec 5 → BitVec 4 → Instr}
    (row : ∀ w, w / 2 ^ 26 = op → w / 2 % 1024 = xo → decodeRow w =
      guarded (holdsAt w 11 1 0 && holdsAt w 20 5 0 && holdsAt w 31 1 0) (mk (fieldAt w 10 5) (fieldAt w 15 4)))
    (hxo : xo < 1024) (d : BitVec 5) (sr : BitVec 4) :
    decodeRow (assemble op [put d 10, put sr 15, putXo xo]) = .ok (mk d sr) := by
  simp only [assemble_cons, assemble_nil, put, putXo]
  rw [row, holdsAt_eq_true, holdsAt_eq_true, holdsAt_eq_true, fieldAt_eq 10 d, fieldAt_eq 15 sr]
  · rfl
  all_goals omega

/-- X form of the integer compares (R127, R151). -/
theorem decodeRow_x_compare {op xo : Nat} {mk : BitVec 3 → BitVec 5 → BitVec 5 → Instr}
    (row : ∀ w, w / 2 ^ 26 = op → w / 2 % 1024 = xo → decodeRow w =
      shortCompare w (guarded (holdsAt w 9 1 0 && holdsAt w 31 1 0)
        (mk (fieldAt w 8 3) (fieldAt w 15 5) (fieldAt w 20 5))))
    (hxo : xo < 1024) (crf : BitVec 3) (a b : BitVec 5) :
    decodeRow (assemble op [put crf 8, put a 15, put b 20, putXo xo]) = .ok (mk crf a b) := by
  simp only [assemble_cons, assemble_nil, put, putXo]
  rw [row, shortCompare_eq, holdsAt_eq_true, holdsAt_eq_true, fieldAt_eq 8 crf, fieldAt_eq 15 a, fieldAt_eq 20 b]
  · rfl
  all_goals omega

/-- X form of the floating-point compares (R127). -/
theorem decodeRow_x_floatCompare {op xo : Nat} {mk : BitVec 3 → BitVec 5 → BitVec 5 → Instr}
    (row : ∀ w, w / 2 ^ 26 = op → w / 2 % 1024 = xo → decodeRow w =
      guarded (holdsAt w 10 2 0 && holdsAt w 31 1 0) (mk (fieldAt w 8 3) (fieldAt w 15 5) (fieldAt w 20 5)))
    (hxo : xo < 1024) (crf : BitVec 3) (a b : BitVec 5) :
    decodeRow (assemble op [put crf 8, put a 15, put b 20, putXo xo]) = .ok (mk crf a b) := by
  simp only [assemble_cons, assemble_nil, put, putXo]
  rw [row, holdsAt_eq_true, holdsAt_eq_true, fieldAt_eq 8 crf, fieldAt_eq 15 a, fieldAt_eq 20 b]
  · rfl
  all_goals omega

/-- X and XL form with two condition-register fields (R127, R128). -/
theorem decodeRow_x_fields {op xo : Nat} {mk : BitVec 3 → BitVec 3 → Instr}
    (row : ∀ w, w / 2 ^ 26 = op → w / 2 % 1024 = xo → decodeRow w =
      guarded (holdsAt w 10 2 0 && holdsAt w 20 7 0 && holdsAt w 31 1 0) (mk (fieldAt w 8 3) (fieldAt w 13 3)))
    (hxo : xo < 1024) (crfD crfS : BitVec 3) :
    decodeRow (assemble op [put crfD 8, put crfS 13, putXo xo]) = .ok (mk crfD crfS) := by
  simp only [assemble_cons, assemble_nil, put, putXo]
  rw [row, holdsAt_eq_true, holdsAt_eq_true, holdsAt_eq_true, fieldAt_eq 8 crfD, fieldAt_eq 13 crfS]
  · rfl
  all_goals omega

/-- X form with one condition-register field (R127). -/
theorem decodeRow_x_field {op xo : Nat} {mk : BitVec 3 → Instr}
    (row : ∀ w, w / 2 ^ 26 = op → w / 2 % 1024 = xo → decodeRow w =
      guarded (holdsAt w 20 12 0 && holdsAt w 31 1 0) (mk (fieldAt w 8 3)))
    (hxo : xo < 1024) (crfD : BitVec 3) :
    decodeRow (assemble op [put crfD 8, putXo xo]) = .ok (mk crfD) := by
  simp only [assemble_cons, assemble_nil, put, putXo]
  rw [row, holdsAt_eq_true, holdsAt_eq_true, fieldAt_eq 8 crfD]
  · rfl
  all_goals omega

/-- X form with an immediate, that of `mtfsfix` (R127). -/
theorem decodeRow_x_imm {op xo : Nat} {mk : BitVec 3 → BitVec 4 → Bool → Instr}
    (row : ∀ w, w / 2 ^ 26 = op → w / 2 % 1024 = xo → decodeRow w =
      guarded (holdsAt w 15 7 0 && holdsAt w 20 1 0) (mk (fieldAt w 8 3) (fieldAt w 19 4) (flagAt w 31)))
    (hxo : xo < 1024) (crfD : BitVec 3) (imm : BitVec 4) (rc : Bool) :
    decodeRow (assemble op [put crfD 8, put imm 19, putXo xo, putFlag rc 31]) = .ok (mk crfD imm rc) := by
  have := rc.toNat_lt
  simp only [assemble_cons, assemble_nil, put, putXo, putFlag]
  rw [row, holdsAt_eq_true, holdsAt_eq_true, fieldAt_eq 8 crfD, fieldAt_eq 19 imm, flagAt_eq 31 rc]
  · rfl
  all_goals omega

/-- XFX form with a split register number (R129, R136). -/
theorem decodeRow_xfx_spr {op xo : Nat} {mk : BitVec 5 → BitVec 10 → Instr}
    (row : ∀ w, w / 2 ^ 26 = op → w / 2 % 1024 = xo → decodeRow w =
      guarded (holdsAt w 31 1 0) (mk (fieldAt w 10 5) (splitNumber w)))
    (hxo : xo < 1024) (d : BitVec 5) (spr : BitVec 10) :
    decodeRow (assemble op [put d 10, putSplit spr, putXo xo]) = .ok (mk d spr) := by
  have hhigh : spr.toNat / 32 < 32 := by omega
  have hlow : spr.toNat % 32 < 32 := by omega
  simp only [assemble_cons, assemble_nil, put, putXo, putSplit]
  rw [row, holdsAt_eq_true, fieldAt_eq 10 d, splitNumber_eq spr]
  · rfl
  all_goals
    generalize spr.toNat / 32 = high, spr.toNat % 32 = low at hhigh hlow ⊢
    omega

/-- XFX form with a field mask (R129). -/
theorem decodeRow_xfx_mask {op xo : Nat} {mk : BitVec 5 → BitVec 8 → Instr}
    (row : ∀ w, w / 2 ^ 26 = op → w / 2 % 1024 = xo → decodeRow w =
      guarded (holdsAt w 11 1 0 && holdsAt w 20 1 0 && holdsAt w 31 1 0) (mk (fieldAt w 10 5) (fieldAt w 19 8)))
    (hxo : xo < 1024) (d : BitVec 5) (crm : BitVec 8) :
    decodeRow (assemble op [put d 10, put crm 19, putXo xo]) = .ok (mk d crm) := by
  simp only [assemble_cons, assemble_nil, put, putXo]
  rw [row, holdsAt_eq_true, holdsAt_eq_true, holdsAt_eq_true, fieldAt_eq 10 d, fieldAt_eq 19 crm]
  · rfl
  all_goals omega

/-- XFL form (R130). -/
theorem decodeRow_xfl {op xo : Nat} {mk : BitVec 8 → BitVec 5 → Bool → Instr}
    (row : ∀ w, w / 2 ^ 26 = op → w / 2 % 1024 = xo → decodeRow w =
      guarded (holdsAt w 6 1 0 && holdsAt w 15 1 0) (mk (fieldAt w 14 8) (fieldAt w 20 5) (flagAt w 31)))
    (hxo : xo < 1024) (fm : BitVec 8) (b : BitVec 5) (rc : Bool) :
    decodeRow (assemble op [put fm 14, put b 20, putXo xo, putFlag rc 31]) = .ok (mk fm b rc) := by
  have := rc.toNat_lt
  simp only [assemble_cons, assemble_nil, put, putXo, putFlag]
  rw [row, holdsAt_eq_true, holdsAt_eq_true, fieldAt_eq 14 fm, fieldAt_eq 20 b, flagAt_eq 31 rc]
  · rfl
  all_goals omega

/-- A form: the extended opcode is bits 26:30 (R133). -/
theorem decodeRow_a {op xo : Nat} {mk : BitVec 5 → BitVec 5 → BitVec 5 → BitVec 5 → Bool → Instr}
    (row : ∀ w, w / 2 ^ 26 = op → w / 2 % 32 = xo → decodeRow w =
      .ok (mk (fieldAt w 10 5) (fieldAt w 15 5) (fieldAt w 20 5) (fieldAt w 25 5) (flagAt w 31)))
    (hxo : xo < 32) (d a b c : BitVec 5) (rc : Bool) :
    decodeRow (assemble op [put d 10, put a 15, put b 20, putXo xo, put c 25, putFlag rc 31]) = .ok (mk d a b c rc) := by
  have := rc.toNat_lt
  simp only [assemble_cons, assemble_nil, put, putXo, putFlag]
  rw [row, fieldAt_eq 10 d, fieldAt_eq 15 a, fieldAt_eq 20 b, fieldAt_eq 25 c, flagAt_eq 31 rc]
  all_goals omega

/-- A form without `C` (R133). -/
theorem decodeRow_a_dab {op xo : Nat} {mk : BitVec 5 → BitVec 5 → BitVec 5 → Bool → Instr}
    (row : ∀ w, w / 2 ^ 26 = op → w / 2 % 32 = xo → decodeRow w =
      guarded (holdsAt w 25 5 0) (mk (fieldAt w 10 5) (fieldAt w 15 5) (fieldAt w 20 5) (flagAt w 31)))
    (hxo : xo < 32) (d a b : BitVec 5) (rc : Bool) :
    decodeRow (assemble op [put d 10, put a 15, put b 20, putXo xo, putFlag rc 31]) = .ok (mk d a b rc) := by
  have := rc.toNat_lt
  simp only [assemble_cons, assemble_nil, put, putXo, putFlag]
  rw [row, holdsAt_eq_true, fieldAt_eq 10 d, fieldAt_eq 15 a, fieldAt_eq 20 b, flagAt_eq 31 rc]
  · rfl
  all_goals omega

/-- A form without `B` (R133). -/
theorem decodeRow_a_dac {op xo : Nat} {mk : BitVec 5 → BitVec 5 → BitVec 5 → Bool → Instr}
    (row : ∀ w, w / 2 ^ 26 = op → w / 2 % 32 = xo → decodeRow w =
      guarded (holdsAt w 20 5 0) (mk (fieldAt w 10 5) (fieldAt w 15 5) (fieldAt w 25 5) (flagAt w 31)))
    (hxo : xo < 32) (d a c : BitVec 5) (rc : Bool) :
    decodeRow (assemble op [put d 10, put a 15, putXo xo, put c 25, putFlag rc 31]) = .ok (mk d a c rc) := by
  have := rc.toNat_lt
  simp only [assemble_cons, assemble_nil, put, putXo, putFlag]
  rw [row, holdsAt_eq_true, fieldAt_eq 10 d, fieldAt_eq 15 a, fieldAt_eq 25 c, flagAt_eq 31 rc]
  · rfl
  all_goals omega

/-- A form without `A` and `C` (R133). -/
theorem decodeRow_a_db {op xo : Nat} {mk : BitVec 5 → BitVec 5 → Bool → Instr}
    (row : ∀ w, w / 2 ^ 26 = op → w / 2 % 32 = xo → decodeRow w =
      guarded (holdsAt w 15 5 0 && holdsAt w 25 5 0) (mk (fieldAt w 10 5) (fieldAt w 20 5) (flagAt w 31)))
    (hxo : xo < 32) (d b : BitVec 5) (rc : Bool) :
    decodeRow (assemble op [put d 10, put b 20, putXo xo, putFlag rc 31]) = .ok (mk d b rc) := by
  have := rc.toNat_lt
  simp only [assemble_cons, assemble_nil, put, putXo, putFlag]
  rw [row, holdsAt_eq_true, holdsAt_eq_true, fieldAt_eq 10 d, fieldAt_eq 20 b, flagAt_eq 31 rc]
  · rfl
  all_goals omega

/-! ## Decoding what the encoder wrote -/

/-- Every row reads back the fields that the encoder put in its words, of invalid forms too: the split is by form. -/
theorem decodeRow_encodeNat (i : Instr) : decodeRow (encodeNat i) = .ok i := by
  cases i with
  | addi | addis | addic | addic_rc | subfic | mulli | andi_rc | andis_rc | ori | oris | xori | xoris | lbz | lbzu
  | lhz | lhzu | lha | lhau | lwz | lwzu | stb | stbu | sth | sthu | stw | stwu | lmw | stmw | lfs | lfsu | lfd
  | lfdu | stfs | stfsu | stfd | stfdu | twi =>
    refine decodeRow_d (fun w hop => ?_) ..
    rw [decodeRow, hop]
    rfl
  | cmpi | cmpli =>
    refine decodeRow_d_compare (fun w hop => ?_) ..
    rw [decodeRow, hop]
    rfl
  | rlwinmx | rlwimix | rlwnmx =>
    refine decodeRow_m (fun w hop => ?_) ..
    rw [decodeRow, hop]
    rfl
  | bx =>
    refine decodeRow_i (fun w hop => ?_) ..
    rw [decodeRow, hop]
    rfl
  | bcx =>
    refine decodeRow_b (fun w hop => ?_) ..
    rw [decodeRow, hop]
    rfl
  | sc | sync | eieio | tlbsync | tlbsync_b31 | isync | rfi => rfl
  | addx | addcx | addex | subfx | subfcx | subfex | mullwx | divwx | divwux =>
    refine decodeRow_xo (fun w hop hxo => ?_) (by decide) ..
    rw [decodeRow_integerGroup hop, decodeIntegerGroup]
    rcases extendedOpcode_cases hxo with hxo | hxo
    all_goals
      rw [hxo]
      rfl
  | addmex | addzex | subfmex | subfzex | negx =>
    refine decodeRow_xo_da (fun w hop hxo => ?_) (by decide) ..
    rw [decodeRow_integerGroup hop, decodeIntegerGroup]
    rcases extendedOpcode_cases hxo with hxo | hxo
    all_goals
      rw [hxo]
      rfl
  | mulhwx | mulhwux =>
    refine decodeRow_xo_dab (fun w hop hxo => ?_) (by decide) ..
    rw [decodeRow_integerGroup hop, decodeIntegerGroup]
    rcases extendedOpcode_cases hxo with hxo | hxo
    all_goals
      rw [hxo]
      rfl
  | lbzx | lbzux | lhzx | lhzux | lhax | lhaux | lwzx | lwzux | stbx | stbux | sthx | sthux | stwx | stwux | lhbrx
  | lwbrx | sthbrx | stwbrx | lswi | lswx | stswi | stswx | lwarx | lfsx | lfsux | lfdx | lfdux | stfsx | stfsux
  | stfdx | stfdux | stfiwx | tw | eciwx | ecowx =>
    refine decodeRow_x (fun w hop hxo => ?_) (by decide) ..
    rw [decodeRow_integerGroup hop, decodeIntegerGroup, hxo]
    rfl
  | stwcx_rc =>
    refine decodeRow_x_bit31 (fun w hop hxo => ?_) (by decide) ..
    rw [decodeRow_integerGroup hop, decodeIntegerGroup, hxo]
    rfl
  | andx | andcx | orx | orcx | xorx | nandx | norx | eqvx | slwx | srwx | srawx | srawix =>
    refine decodeRow_x_rc (fun w hop hxo => ?_) (by decide) ..
    rw [decodeRow_integerGroup hop, decodeIntegerGroup, hxo]
    rfl
  | extsbx | extshx | cntlzwx =>
    refine decodeRow_x_da_rc (fun w hop hxo => ?_) (by decide) ..
    rw [decodeRow_integerGroup hop, decodeIntegerGroup, hxo]
    rfl
  | cmpl =>
    refine decodeRow_x_compare (fun w hop hxo => ?_) (by decide) ..
    rw [decodeRow_integerGroup hop, decodeIntegerGroup, hxo]
    rfl
  | cmp =>
    rw [encodeNat_cmp, ← assemble_append_putXo_zero]
    refine decodeRow_x_compare (fun w hop hxo => ?_) (by decide) ..
    rw [decodeRow_integerGroup hop, decodeIntegerGroup, hxo]
    rfl
  | mcrxr =>
    refine decodeRow_x_field (fun w hop hxo => ?_) (by decide) ..
    rw [decodeRow_integerGroup hop, decodeIntegerGroup, hxo]
    rfl
  | mfcr | mfmsr | mtmsr =>
    refine decodeRow_x_d (fun w hop hxo => ?_) (by decide) ..
    rw [decodeRow_integerGroup hop, decodeIntegerGroup, hxo]
    rfl
  | mtcrf =>
    refine decodeRow_xfx_mask (fun w hop hxo => ?_) (by decide) ..
    rw [decodeRow_integerGroup hop, decodeIntegerGroup, hxo]
    rfl
  | mfspr | mtspr | mftb =>
    refine decodeRow_xfx_spr (fun w hop hxo => ?_) (by decide) ..
    rw [decodeRow_integerGroup hop, decodeIntegerGroup, hxo]
    rfl
  | dcbf | dcbi | dcbst | dcbt | dcbtst | dcbz | icbi =>
    refine decodeRow_x_ab (fun w hop hxo => ?_) (by decide) ..
    rw [decodeRow_integerGroup hop, decodeIntegerGroup, hxo]
    rfl
  | mfsr | mtsr =>
    refine decodeRow_x_sr (fun w hop hxo => ?_) (by decide) ..
    rw [decodeRow_integerGroup hop, decodeIntegerGroup, hxo]
    rfl
  | mfsrin | mtsrin =>
    refine decodeRow_x_db (fun w hop hxo => ?_) (by decide) ..
    rw [decodeRow_integerGroup hop, decodeIntegerGroup, hxo]
    rfl
  | tlbie =>
    refine decodeRow_x_b (fun w hop hxo => ?_) (by decide) ..
    rw [decodeRow_integerGroup hop, decodeIntegerGroup, hxo]
    rfl
  | crand | crandc | creqv | crnand | crnor | cror | crorc | crxor =>
    refine decodeRow_x (fun w hop hxo => ?_) (by decide) ..
    rw [decodeRow_branchGroup hop, decodeBranchGroup, hxo]
    rfl
  | bclrx | bcctrx =>
    refine decodeRow_x_da_rc (fun w hop hxo => ?_) (by decide) ..
    rw [decodeRow_branchGroup hop, decodeBranchGroup, hxo]
    rfl
  | mcrf =>
    rw [encodeNat_mcrf, ← assemble_append_putXo_zero]
    refine decodeRow_x_fields (fun w hop hxo => ?_) (by decide) ..
    rw [decodeRow_branchGroup hop, decodeBranchGroup, hxo]
    rfl
  | faddsx | fsubsx | fdivsx =>
    refine decodeRow_a_dab (fun w hop hxo => ?_) (by decide) ..
    rw [decodeRow_singleGroup hop, decodeSingleGroup, hxo]
    rfl
  | fmulsx =>
    refine decodeRow_a_dac (fun w hop hxo => ?_) (by decide) ..
    rw [decodeRow_singleGroup hop, decodeSingleGroup, hxo]
    rfl
  | fresx =>
    refine decodeRow_a_db (fun w hop hxo => ?_) (by decide) ..
    rw [decodeRow_singleGroup hop, decodeSingleGroup, hxo]
    rfl
  | fmaddsx | fmsubsx | fnmaddsx | fnmsubsx =>
    refine decodeRow_a (fun w hop hxo => ?_) (by decide) ..
    rw [decodeRow_singleGroup hop, decodeSingleGroup, hxo]
    rfl
  | faddx | fsubx | fdivx =>
    refine decodeRow_a_dab (fun w hop hxo => ?_) (by decide) ..
    rw [decodeRow_doubleGroup hop, decodeDoubleGroup, hxo]
    rfl
  | fmulx =>
    refine decodeRow_a_dac (fun w hop hxo => ?_) (by decide) ..
    rw [decodeRow_doubleGroup hop, decodeDoubleGroup, hxo]
    rfl
  | frsqrtex =>
    refine decodeRow_a_db (fun w hop hxo => ?_) (by decide) ..
    rw [decodeRow_doubleGroup hop, decodeDoubleGroup, hxo]
    rfl
  | fselx | fmaddx | fmsubx | fnmaddx | fnmsubx =>
    refine decodeRow_a (fun w hop hxo => ?_) (by decide) ..
    rw [decodeRow_doubleGroup hop, decodeDoubleGroup, hxo]
    rfl
  | frspx | fctiwx | fctiwzx | fmrx | fnegx | fabsx | fnabsx =>
    refine decodeRow_x_db_rc (fun w hop hxo => ?_) (by decide) ..
    rw [decodeRow_moveGroup hop (by omega), decodeMoveGroup, hxo]
    rfl
  | fcmpo =>
    refine decodeRow_x_floatCompare (fun w hop hxo => ?_) (by decide) ..
    rw [decodeRow_moveGroup hop (by omega), decodeMoveGroup, hxo]
    rfl
  | fcmpu =>
    rw [encodeNat_fcmpu, ← assemble_append_putXo_zero]
    refine decodeRow_x_floatCompare (fun w hop hxo => ?_) (by decide) ..
    rw [decodeRow_moveGroup hop (by omega), decodeMoveGroup, hxo]
    rfl
  | mffsx | mtfsb0x | mtfsb1x =>
    refine decodeRow_x_d_rc (fun w hop hxo => ?_) (by decide) ..
    rw [decodeRow_moveGroup hop (by omega), decodeMoveGroup, hxo]
    rfl
  | mcrfs =>
    refine decodeRow_x_fields (fun w hop hxo => ?_) (by decide) ..
    rw [decodeRow_moveGroup hop (by omega), decodeMoveGroup, hxo]
    rfl
  | mtfsfix =>
    refine decodeRow_x_imm (fun w hop hxo => ?_) (by decide) ..
    rw [decodeRow_moveGroup hop (by omega), decodeMoveGroup, hxo]
    rfl
  | mtfsfx =>
    refine decodeRow_xfl (fun w hop hxo => ?_) (by decide) ..
    rw [decodeRow_moveGroup hop (by omega), decodeMoveGroup, hxo]
    rfl

/-- Settles O1, by reading back the fields of each form; the decoder gives a row only to words of 32 bits. -/
theorem decodeInvertsEncode : Obligations.DecodeInvertsEncode := by
  intro i hwf
  have hrow := decodeRow_encodeNat i
  exact ⟨lt_of_decodeRow_ok hrow, by rw [decodeWord, hrow]; exact if_pos hwf⟩

end Sys2Proof
end

section
namespace Sys2Proof.Machine

/-! ## Words as signed and unsigned numbers (40_integer_arithmetic.md R170) -/

/-- Bit 0 of a word is its sign (00_scope.md R9). -/
theorem bit_zero_eq_decide (w : Word) : bit w 0 = decide (2 ^ 31 ≤ w.toNat) := by
  rw [bit_eq_getLsbD w (by omega), ← BitVec.msb_eq_getLsbD_last]
  exact BitVec.msb_eq_decide w

/-- A signed number and the unsigned number of the same word. -/
theorem toInt_eq_toNat_sub (w : Word) : w.toInt = w.toNat - if bit w 0 then 2 ^ 32 else 0 := by
  rw [bit_zero_eq_decide, BitVec.toInt_eq_toNat_cond]
  simp only [decide_eq_true_eq]
  split <;> split <;> omega

/-- The immediate operand means the same signed number in 16 bits and in 32. -/
theorem toInt_simmOf (simm : BitVec 16) : (simmOf simm).toInt = simm.toInt :=
  BitVec.toInt_signExtend_of_le (by omega)

/-- The shifted immediate is the immediate followed by 16 zeros. -/
theorem shiftedOf_eq_append (imm : BitVec 16) : shiftedOf imm = imm ++ (0 : BitVec 16) := by
  refine BitVec.eq_of_getLsbD_eq fun i hi => ?_
  rw [shiftedOf, BitVec.getLsbD_shiftLeft, BitVec.getLsbD_setWidth, BitVec.getLsbD_append]
  by_cases h : i < 16
  · simp [h]
  · simp [h, hi, show i - 16 < 32 by omega]

/-- A number within the signed range survives as a word. -/
theorem toInt_ofInt_of_inRange {v : Int} (h : outOfRange v = false) : (BitVec.ofInt 32 v).toInt = v := by
  simp only [outOfRange, Bool.or_eq_false_iff, decide_eq_false_iff_not, not_lt, not_le] at h
  exact BitVec.toInt_ofInt_eq_self (by omega) h.1 h.2

/-- The signed number of a word is within the signed range. -/
theorem outOfRange_toInt (w : Word) : outOfRange w.toInt = false := by
  have low := w.le_toInt
  have high := w.toInt_lt
  simp only [outOfRange, Bool.or_eq_false_iff, decide_eq_false_iff_not, not_lt, not_le]
  exact ⟨low, high⟩

/-- A number is out of range exactly when the word that keeps its low bits stands for another number. -/
theorem outOfRange_eq_decide_ne (v : Int) : outOfRange v = decide ((BitVec.ofInt 32 v).toInt ≠ v) := by
  rw [Bool.eq_iff_iff, decide_eq_true_iff]
  constructor
  · intro h heq
    rw [← heq, outOfRange_toInt] at h
    cases h
  · intro h
    exact Bool.not_eq_false _ ▸ mt toInt_ofInt_of_inRange h

/-! ## Sums: the result, the carry and the overflow (R170 b, c) -/

theorem wideSum_eq (x y : Word) (c : Bool) : wideSum x y c = x.toNat + y.toNat + c.toNat := by
  cases c <;> rfl

theorem sum_eq_ofNat_wideSum (x y : Word) (c : Bool) : sum x y c = BitVec.ofNat 32 (wideSum x y c) := by
  rw [sum, wideSum_eq]

theorem carry_eq_decide_wideSum (x y : Word) (c : Bool) : carry x y c = decide (2 ^ 32 ≤ wideSum x y c) := by
  rw [carry, wideSum_eq]

theorem toNat_sum (x y : Word) (c : Bool) : (sum x y c).toNat = (x.toNat + y.toNat + c.toNat) % 2 ^ 32 :=
  BitVec.toNat_ofNat _ _

/-- Overflow read off the signs: only operands of one sign can leave the signed range, and then the result has the
other sign (R170 c). -/
theorem overflows_eq_signOverflow (x y : Word) (c : Bool) : overflows x y c = signOverflow x y (sum x y c) := by
  have hx := x.isLt
  have hy := y.isLt
  have hc := c.toNat_le
  have hsum := toNat_sum x y c
  rw [overflows, outOfRange, signOverflow, toInt_eq_toNat_sub x, toInt_eq_toNat_sub y, bit_zero_eq_decide x,
    bit_zero_eq_decide y, bit_zero_eq_decide (sum x y c), hsum, Bool.eq_iff_iff]
  simp only [Bool.or_eq_true, Bool.and_eq_true, beq_iff_eq, bne_iff_ne, ne_eq, decide_eq_true_eq, decide_eq_decide]
  split <;> split <;> omega

/-- What a sum form leaves, for every choice of what it writes. -/
theorem addForm_completes (s : State) (d : BitVec 5) (x y : Word) (c withCa oe rc : Bool) :
    Completes (addForm s d x y c withCa oe rc) fun t => AddEffect s t d x y c withCa oe rc := by
  unfold AddEffect
  rw [← sum_eq_ofNat_wideSum, ← carry_eq_decide_wideSum, ← overflows_eq_signOverflow]
  exact arith_completes ..

/-! ## Differences as sums with the complement (R182, R183, R187) -/

/-- `¬A + B + 1` is `B - A`. -/
theorem sum_not_eq_sub (x y : Word) : sum (~~~x) y true = y - x := by
  refine BitVec.eq_of_toNat_eq ?_
  rw [toNat_sum, BitVec.toNat_sub, BitVec.toNat_not, Bool.toNat_true]
  omega

/-- `¬A + B + 1` carries exactly when `B - A` borrows nothing. -/
theorem carry_not_eq_decide_le (x y : Word) : carry (~~~x) y true = decide (x.toNat ≤ y.toNat) := by
  rw [carry, BitVec.toNat_not, Bool.toNat_true, decide_eq_decide]
  have hx := x.isLt
  omega

/-- The complement is one less than the negative, as signed numbers. -/
theorem toInt_not_add_one (x : Word) : (~~~x).toInt + 1 = -x.toInt := by
  have hx := x.isLt
  rw [BitVec.toInt_eq_toNat_cond, BitVec.toInt_eq_toNat_cond, BitVec.toNat_not]
  split <;> split <;> omega

/-- Only the least signed number has no negative. -/
theorem overflows_not_zero (x : Word) : overflows (~~~x) 0 true = decide (x = 0x80000000) := by
  have low := x.le_toInt
  have high := x.toInt_lt
  have hmin : x = 0x80000000 ↔ x.toInt = -(2 ^ 31) := BitVec.toInt_inj.symm
  have hneg : (~~~x).toInt + (0 : Word).toInt + ((true.toNat : Nat) : Int) = -x.toInt := by
    rw [← toInt_not_add_one, BitVec.ofNat_eq_ofNat, BitVec.toInt_zero, add_zero]
    rfl
  rw [overflows, hneg, outOfRange, ← Bool.decide_or, decide_eq_decide, hmin]
  omega

/-! ## The high half of a product (R189, R190) -/

/-- The high half of a signed product is a signed word. -/
theorem outOfRange_signedProduct_high (x y : Word) : outOfRange (x.toInt * y.toInt / 2 ^ 32) = false := by
  have low : -(2 ^ 62) ≤ x.toInt * y.toInt := BitVec.le_toInt_mul_toInt
  have high : x.toInt * y.toInt ≤ 2 ^ 62 := BitVec.toInt_mul_toInt_le
  simp only [outOfRange, Bool.or_eq_false_iff, decide_eq_false_iff_not, not_lt, not_le]
  omega

/-- The high half of an unsigned product is an unsigned word. -/
theorem unsignedProduct_high_lt (x y : Word) : x.toNat * y.toNat / 2 ^ 32 < 2 ^ 32 :=
  Nat.div_lt_of_lt_mul (Nat.mul_lt_mul'' x.isLt y.isLt)

/-! ## Quotients (R191, R192) -/

/-- Where the quotient is defined, it is the truncated one of the signed numbers. -/
theorem outOfRange_tdiv {x y : Word} (h : ¬ (x = 0x80000000 ∧ y = 0xFFFFFFFF)) :
    outOfRange (x.toInt.tdiv y.toInt) = false := by
  rw [← BitVec.toInt_sdiv_of_ne_or_ne x y (not_and_or.mp h)]
  exact outOfRange_toInt _

/-- The remainder of the truncated quotient is smaller than the divisor and has the dividend's sign. -/
theorem exists_tdiv_rest (x : Int) {y : Int} (hy : y ≠ 0) :
    ∃ rest : Int, x = y * x.tdiv y + rest ∧ rest.natAbs < y.natAbs ∧ 0 ≤ rest * x := by
  refine ⟨x.tmod y, (Int.mul_tdiv_add_tmod x y).symm, ?_, ?_⟩
  · rw [Int.natAbs_tmod]
    exact Nat.mod_lt _ (Int.natAbs_pos.mpr hy)
  · rcases le_total 0 x with hx | hx
    · exact mul_nonneg (Int.tmod_nonneg y hx) hx
    · exact mul_nonneg_of_nonpos_of_nonpos (neg_nonneg.mp (Int.neg_tmod x y ▸ Int.tmod_nonneg y (neg_nonneg.mpr hx))) hx

end Sys2Proof.Machine
end

section
namespace Sys2Proof.Machine

/-! ## What the integer arithmetic instructions leave -/

theorem Completes.imp {r : Result} {P Q : State → Prop} (h : Completes r P) (hPQ : ∀ t, P t → Q t) : Completes r Q :=
  let ⟨t, ht, hP⟩ := h
  ⟨t, ht, hPQ t hP⟩

theorem IntegerEffect.r_eq {s t : State} {d : BitVec 5} {res : Word} {ca ov : Option Bool} {rc : Bool}
    (h : IntegerEffect s t d res ca ov rc) : t.r d = res :=
  let ⟨hres, _⟩ := h
  hres

/-- Where only the meaning of the target is stated, the effect is that of the word it holds. -/
theorem IntegerEffect.self {s t : State} {d : BitVec 5} {res : Word} {ca ov : Option Bool} {rc : Bool}
    (h : IntegerEffect s t d res ca ov rc) : IntegerEffect s t d (t.r d) ca ov rc := by
  rw [h.r_eq]
  exact h

theorem AddEffect.r_eq {s t : State} {d : BitVec 5} {x y : Word} {c withCa oe rc : Bool}
    (h : AddEffect s t d x y c withCa oe rc) : t.r d = sum x y c := by
  obtain ⟨hres, _⟩ := h
  rw [hres, sum_eq_ofNat_wideSum]

theorem AddEffect.ca_eq {s t : State} {d : BitVec 5} {x y : Word} {c oe rc : Bool}
    (h : AddEffect s t d x y c true oe rc) : bit t.xer 2 = carry x y c := by
  obtain ⟨_, _, _, _, _, hca, _⟩ := h
  rw [hca, carry_eq_decide_wideSum]
  rfl

/-- Settles O16: the additions and the subtraction end in a sum form, the immediate operands mean what the fields say. -/
theorem immediateArithmeticResults : Obligations.ImmediateArithmeticResults := by
  intro d a simm s
  refine ⟨arith_completes .., ?addis, addForm_completes .., addForm_completes .., addForm_completes .., ?mulli⟩
  case addis =>
    rw [← shiftedOf_eq_append]
    exact arith_completes ..
  case mulli =>
    rw [← toInt_simmOf]
    exact arith_completes ..

/-- Settles O17: every form is `addForm`; a sum with the complement is the difference, and carries when nothing is
borrowed. -/
theorem registerSumResults : Obligations.RegisterSumResults := by
  intro d a b oe rc s
  refine ⟨addForm_completes .., addForm_completes .., addForm_completes .., addForm_completes .., addForm_completes ..,
    ?subfx, ?subfcx, addForm_completes .., addForm_completes .., addForm_completes .., ?negx⟩
  case subfx => exact (addForm_completes ..).imp fun _ h => ⟨h, h.r_eq.trans (sum_not_eq_sub _ _)⟩
  case subfcx => exact (addForm_completes ..).imp fun _ h => ⟨h, h.ca_eq.trans (carry_not_eq_decide_le _ _)⟩
  case negx =>
    rw [← BitVec.zero_sub, ← sum_not_eq_sub, ← overflows_not_zero]
    exact arith_completes ..

/-- Settles O18: the low word keeps the signed product exactly when it is in range, and the high halves always fit. -/
theorem multiplicationResults : Obligations.MultiplicationResults := by
  intro d a b oe rc s
  refine ⟨?mullwx, ?mulhwx, ?mulhwux⟩
  case mullwx =>
    have hlow : BitVec.ofInt 32 ((s.r a).toInt * (s.r b).toInt) = s.r a * s.r b := by
      rw [BitVec.ofInt_mul, BitVec.ofInt_toInt, BitVec.ofInt_toInt]
    rw [← hlow, ← outOfRange_eq_decide_ne]
    exact arith_completes ..
  case mulhwx =>
    refine (arith_completes ..).imp fun _ h => ⟨h.self, ?_⟩
    rw [h.r_eq, toInt_ofInt_of_inRange (outOfRange_signedProduct_high _ _)]
  case mulhwux =>
    refine (arith_completes ..).imp fun _ h => ⟨h.self, ?_⟩
    rw [h.r_eq, BitVec.toNat_ofNat, Nat.mod_eq_of_lt (unsignedProduct_high_lt _ _)]

/-! ### Divisions -/

theorem execDivwx_defined {d a b : BitVec 5} {s : State} (hb : s.r b ≠ 0)
    (h : ¬ (s.r a = 0x80000000 ∧ s.r b = 0xFFFFFFFF)) (oe rc : Bool) :
    execDivwx d a b oe rc s =
      arith s d (BitVec.ofInt 32 ((s.r a).toInt.tdiv (s.r b).toInt)) none (if oe then some false else none) rc :=
  if_neg (not_or.mpr ⟨hb, h⟩)

theorem execDivwux_defined {d a b : BitVec 5} {s : State} (hb : s.r b ≠ 0) (oe rc : Bool) :
    execDivwux d a b oe rc s = arith s d (s.r a / s.r b) none (if oe then some false else none) rc := by
  rw [BitVec.udiv_def]
  exact if_neg hb

theorem bit_three_append_flag (order : BitVec 3) (so : Bool) : bit (order ++ ofFlag so) 3 = so := by
  revert order so
  decide

/-- CR0 with any LT, GT and EQ: SO is as XER has it, and the other fields stay (10_state.md R25; log 34). -/
theorem State.setCrField_openOrder (s : State) (order : BitVec 3) :
    bit (s.setCrField 0 (order ++ ofFlag (xerSo s.xer))).cr 3 = bit s.xer 0 ∧
      BitsKept s.cr (s.setCrField 0 (order ++ ofFlag (xerSo s.xer))).cr 4 28 := by
  refine ⟨(s.setCrField_bit 0 _ (k := 3) (by omega)).trans (bit_three_append_flag _ _), fun i hi hi' => ?_⟩
  refine s.setCrField_bit_other 0 _ (by omega) ?_
  change i / 4 ≠ 0
  omega

/-- What a division without a defined quotient leaves: only the target and LT, GT and EQ of CR0 are open (R191, R192). -/
def QuotientOpen (s t : State) (d : BitVec 5) (oe rc : Bool) : Prop :=
  GprsKept s t [d] ∧ t.pc = s.pc + 4 ∧ bit t.xer 0 = (bit s.xer 0 || oe) ∧ bit t.xer 1 = (bit s.xer 1 || oe) ∧
    BitsKept s.xer t.xer 2 30 ∧ (if rc then bit t.cr 3 = bit t.xer 0 ∧ BitsKept s.cr t.cr 4 28 else t.cr = s.cr) ∧
    MemoryKept s t ∧ { t with gpr := s.gpr, xer := s.xer, cr := s.cr, pc := s.pc, draws := s.draws } = s

/-- An effect that records nothing leaves a quotient open, whatever the target takes. -/
theorem IntegerEffect.quotientOpen {s t : State} {d : BitVec 5} {res : Word} {oe : Bool}
    (h : IntegerEffect s t d res none (if oe then some true else none) false) : QuotientOpen s t d oe false := by
  obtain ⟨_, hgpr, hpc, hso, hov, hca, hxer, hcr, hmem, hrest⟩ := h
  have hkept : BitsKept s.xer t.xer 2 30 := fun i hi hi' => by
    rcases Nat.eq_or_lt_of_le hi with rfl | hlt
    · exact hca
    · exact hxer i hlt (by omega)
  refine ⟨hgpr, hpc, ?_, ?_, hkept, hcr, hmem, congrArg (fun u : State => { u with draws := s.draws }) hrest⟩
  · cases oe <;> exact hso
  · cases oe
    · exact hov.trans (Bool.or_false _).symm
    · exact hov.trans (Bool.or_true _).symm

/-- The fresh values that have been used are not part of what is stated. -/
theorem QuotientOpen.of_drawn {s t : State} {k : Nat} {d : BitVec 5} {oe rc : Bool}
    (h : QuotientOpen (s.drawn k) t d oe rc) : QuotientOpen s t d oe rc := by
  obtain ⟨hgpr, hpc, hso, hov, hxer, hcr, hmem, hrest⟩ := h
  exact ⟨hgpr, hpc, hso, hov, hxer, hcr, hmem, congrArg (fun u : State => { u with draws := s.draws }) hrest⟩

/-- With Rc the order in CR0 is open as well. -/
theorem QuotientOpen.record {s t : State} {d : BitVec 5} {oe : Bool} (h : QuotientOpen s t d oe false) (order : BitVec 3) :
    QuotientOpen s (t.setCrField 0 (order ++ ofFlag (xerSo t.xer))) d oe true := by
  obtain ⟨hgpr, hpc, hso, hov, hxer, hcr, hmem, hrest⟩ := h
  have hcr' : t.cr = s.cr := hcr
  exact ⟨hgpr, hpc, hso, hov, hxer, hcr' ▸ t.setCrField_openOrder order, hmem, hrest⟩

theorem undefinedQuotient_completes (s : State) (d : BitVec 5) (oe rc : Bool) :
    Completes (undefinedQuotient s d oe rc) fun t => QuotientOpen s t d oe rc := by
  have heffect := (s.drawn 2).writeArith_effect d (s.fresh 32) none (if oe then some true else none) false
  have hopen := heffect.quotientOpen.of_drawn
  dsimp only [undefinedQuotient]
  cases rc with
  | false =>
    rw [if_neg Bool.false_ne_true]
    exact ⟨_, rfl, hopen⟩
  | true =>
    rw [if_pos rfl]
    exact ⟨_, rfl, hopen.record ((s.drawn 1).fresh 3)⟩

/-- Settles O19: a defined quotient is a word, and the remainder is what the division leaves; the other operands end in
`undefinedQuotient`. -/
theorem divisionResults : Obligations.DivisionResults := by
  refine ⟨fun d a b oe rc s hb => ⟨fun hmin => ?divwx, ?divwux⟩, ?undefined⟩
  case divwx =>
    have hb' : (s.r b).toInt ≠ 0 := fun h => hb (BitVec.toInt_inj.mp h)
    rw [exec_divwx, execDivwx_defined hb hmin]
    refine (arith_completes ..).imp fun _ h => ⟨h.self, ?_⟩
    rw [h.r_eq, toInt_ofInt_of_inRange (outOfRange_tdiv hmin)]
    exact exists_tdiv_rest _ hb'
  case divwux =>
    have hb' : (s.r b).toNat ≠ 0 := fun h => hb (BitVec.toNat_inj.mp h)
    rw [exec_divwux, execDivwux_defined hb]
    refine (arith_completes ..).imp fun _ h => ⟨h.self, (s.r a).toNat % (s.r b).toNat, ?_, ?_⟩
    · rw [h.r_eq, BitVec.toNat_udiv, Nat.div_add_mod]
    · exact Nat.mod_lt _ (Nat.pos_of_ne_zero hb')
  case undefined =>
    rintro d a b oe rc s i (⟨rfl, hundef⟩ | ⟨rfl, hb⟩)
    · rw [exec_divwx, execDivwx, if_pos hundef]
      exact undefinedQuotient_completes s d oe rc
    · rw [exec_divwux, execDivwux, if_pos hb]
      exact undefinedQuotient_completes s d oe rc

end Sys2Proof.Machine
end

section
namespace Sys2Proof.Machine

/-! ## Comparisons (41_integer_compare_logical.md R200 to R204) -/

/-- The four bits of a comparison, counted from the left (R200 b, R24). -/
theorem orderField_bits (lt gt eq so : Bool) :
    bit (orderField lt gt eq so) 0 = lt ∧ bit (orderField lt gt eq so) 1 = gt ∧
      bit (orderField lt gt eq so) 2 = eq ∧ bit (orderField lt gt eq so) 3 = so := by
  revert lt gt eq so
  decide

theorem compareInto_completes (s : State) (crfD : BitVec 3) (lt gt eq : Bool) :
    Completes (compareInto s crfD (orderField lt gt eq (xerSo s.xer))) fun t => CompareEffect s t crfD lt gt eq := by
  obtain ⟨hlt, hgt, heq, hso⟩ := orderField_bits lt gt eq (xerSo s.xer)
  have written : ∀ k, k < 4 → bit (s.setCrField crfD (orderField lt gt eq (xerSo s.xer))).cr (4 * crfD.toNat + k) =
      bit (orderField lt gt eq (xerSo s.xer)) k := fun k hk => s.setCrField_bit crfD _ hk
  exact ⟨_, rfl, (written 0 (by omega)).trans hlt, (written 1 (by omega)).trans hgt, (written 2 (by omega)).trans heq,
    (written 3 (by omega)).trans hso, fun n hn => (s.setCrField_crField crfD n _).trans (if_neg hn), rfl, fun _ => rfl, rfl⟩

/-- The unsigned immediate operand means the same number in 16 bits and in 32. -/
theorem toNat_uimmOf (uimm : BitVec 16) : (uimmOf uimm).toNat = uimm.toNat :=
  BitVec.toNat_setWidth_of_le (by omega)

/-- Settles O21: each comparison ends in `compareInto`; two words are equal when their signed, or their unsigned, numbers
are, and an immediate operand means the number its field says. -/
theorem comparisonResults : Obligations.ComparisonResults := by
  intro crfD a b imm s
  refine ⟨?cmpi, compareInto_completes .., ?cmpli, compareInto_completes ..⟩
  case cmpi =>
    simp only [← toInt_simmOf imm, BitVec.toInt_inj]
    exact compareInto_completes ..
  case cmpli =>
    simp only [← toNat_uimmOf imm, BitVec.toNat_inj]
    exact compareInto_completes ..

end Sys2Proof.Machine
end

section
namespace Sys2Proof.Machine

/-! ## Sign extension (41_integer_compare_logical.md R219, R220) -/

/-- Extending the low `n` bits of a word: they stay, and the bits left of them are the leftmost of them. -/
theorem bit_signExtend_setWidth (v : Word) {n i : Nat} (hpos : 0 < n) (hn : n ≤ 32) (hi : i < 32) :
    bit ((v.setWidth n).signExtend 32) i = bit v (if i < 32 - n then 32 - n else i) := by
  rw [bit_eq_getLsbD _ hi, bit_eq_getLsbD v (by split <;> omega), BitVec.getLsbD_signExtend,
    BitVec.msb_eq_getLsbD_last, BitVec.getLsbD_setWidth, BitVec.getLsbD_setWidth]
  by_cases h : i < 32 - n
  · simp [h, show ¬ 31 - i < n by omega, show n - 1 < n by omega, show 31 - (32 - n) = n - 1 by omega,
      show 31 - i < 32 by omega]
  · simp [h, show 31 - i < n by omega, show 31 - i < 32 by omega]

/-! ## The count of leading zeros (R221) -/

theorem leadingZeros_succ_of_one {v : Word} {k : Nat} (h : v.getLsbD k = true) : leadingZeros v (k + 1) = 0 :=
  if_pos h

theorem leadingZeros_succ_of_zero {v : Word} {k : Nat} (h : v.getLsbD k = false) :
    leadingZeros v (k + 1) = leadingZeros v k + 1 :=
  if_neg (by simp [h])

theorem leadingZeros_le (v : Word) (k : Nat) : leadingZeros v k ≤ k := by
  induction k with
  | zero => exact Nat.le_refl 0
  | succ k ih =>
    cases h : v.getLsbD k with
    | true => simp [leadingZeros_succ_of_one h]
    | false => simp [leadingZeros_succ_of_zero h, ih]

/-- The bits that are counted are zeros. -/
theorem getLsbD_of_lt_leadingZeros (v : Word) {k i : Nat} (hi : i < leadingZeros v k) :
    v.getLsbD (k - 1 - i) = false := by
  induction k generalizing i with
  | zero => exact absurd hi (Nat.not_lt_zero i)
  | succ k ih =>
    cases h : v.getLsbD k with
    | true =>
      rw [leadingZeros_succ_of_one h] at hi
      exact absurd hi (Nat.not_lt_zero i)
    | false =>
      rw [leadingZeros_succ_of_zero h] at hi
      cases i with
      | zero => exact h
      | succ i =>
        rw [show k + 1 - 1 - (i + 1) = k - 1 - i by omega]
        exact ih (Nat.lt_of_succ_lt_succ hi)

/-- The bit where the count stops is a one. -/
theorem getLsbD_leadingZeros (v : Word) {k : Nat} (hk : leadingZeros v k < k) :
    v.getLsbD (k - 1 - leadingZeros v k) = true := by
  induction k with
  | zero => exact absurd hk (Nat.not_lt_zero _)
  | succ k ih =>
    cases h : v.getLsbD k with
    | true => rwa [leadingZeros_succ_of_one h]
    | false =>
      rw [leadingZeros_succ_of_zero h] at hk ⊢
      rw [show k + 1 - 1 - (leadingZeros v k + 1) = k - 1 - leadingZeros v k by omega]
      exact ih (Nat.lt_of_succ_lt_succ hk)

/-- The count is a word's number. -/
theorem toNat_ofNat_leadingZeros (v : Word) : (BitVec.ofNat 32 (leadingZeros v 32)).toNat = leadingZeros v 32 := by
  have hle := leadingZeros_le v 32
  rw [BitVec.toNat_ofNat, Nat.mod_eq_of_lt (by omega)]

/-- The count of R221 on the bits of a word, counted from the left. -/
theorem leadingZeros_bits (v : Word) :
    (∀ i, i < leadingZeros v 32 → bit v i = false) ∧
      (leadingZeros v 32 < 32 → bit v (leadingZeros v 32) = true) := by
  have hle := leadingZeros_le v 32
  refine ⟨fun i hi => ?_, fun hlt => ?_⟩
  · rw [bit_eq_getLsbD v (by omega)]
    exact getLsbD_of_lt_leadingZeros v hi
  · rw [bit_eq_getLsbD v hlt]
    exact getLsbD_leadingZeros v hlt

/-! ## What the logical instructions leave -/

theorem signExtension_completes (s : State) (src a : BitVec 5) {n : Nat} (hpos : 0 < n) (hn : n ≤ 32) (rc : Bool) :
    Completes (logical s a (((s.r src).setWidth n).signExtend 32) rc) fun t =>
      IntegerEffect s t a (t.r a) none none rc ∧
        ∀ i, i < 32 → bit (t.r a) i = bit (s.r src) (if i < 32 - n then 32 - n else i) := by
  refine (logical_completes ..).imp fun _ h => ⟨h.self, fun i hi => ?_⟩
  rw [h.r_eq]
  exact bit_signExtend_setWidth _ hpos hn hi

theorem execCntlzwx_completes (s : State) (src a : BitVec 5) (rc : Bool) :
    Completes (execCntlzwx src a rc s) fun t =>
      IntegerEffect s t a (t.r a) none none rc ∧ (t.r a).toNat ≤ 32 ∧
        (∀ i, i < (t.r a).toNat → bit (s.r src) i = false) ∧
        ((t.r a).toNat < 32 → bit (s.r src) (t.r a).toNat = true) := by
  refine (logical_completes ..).imp fun _ h => ⟨h.self, ?_⟩
  rw [h.r_eq, toNat_ofNat_leadingZeros]
  exact ⟨leadingZeros_le _ 32, leadingZeros_bits _⟩

/-- Settles O22: every one of these instructions ends in `logical` with its result; the extensions and the count are read
bit by bit. -/
theorem logicalResults : Obligations.LogicalResults := by
  intro src a b imm rc s
  refine ⟨fun i res rec h => ?_, signExtension_completes s src a (n := 8) (by omega) (by omega) rc,
    signExtension_completes s src a (n := 16) (by omega) (by omega) rc, execCntlzwx_completes s src a rc⟩
  have hexec : exec i s = logical s a res rec := by
    simp only [← shiftedOf_eq_append, List.mem_cons, List.not_mem_nil, or_false, Prod.mk.injEq] at h
    rcases h with ⟨rfl, rfl, rfl⟩ | ⟨rfl, rfl, rfl⟩ | ⟨rfl, rfl, rfl⟩ | ⟨rfl, rfl, rfl⟩ | ⟨rfl, rfl, rfl⟩ |
      ⟨rfl, rfl, rfl⟩ | ⟨rfl, rfl, rfl⟩ | ⟨rfl, rfl, rfl⟩ | ⟨rfl, rfl, rfl⟩ | ⟨rfl, rfl, rfl⟩ | ⟨rfl, rfl, rfl⟩ |
      ⟨rfl, rfl, rfl⟩ | ⟨rfl, rfl, rfl⟩ | ⟨rfl, rfl, rfl⟩ <;> rfl
  rw [hexec]
  exact logical_completes ..

end Sys2Proof.Machine
end

section
namespace Sys2Proof.Machine

/-! ## The mask and the rotation, bit by bit (42_integer_rotate_shift.md R230) -/

/-- The two shifted words of ones that the mask is made of start at bit `mb` and end at bit `me`. -/
theorem bit_maskBits (mb me : BitVec 5) {i : Nat} (hi : i < 32) : bit (maskBits mb me) i = inMask mb me i := by
  have hme := me.isLt
  have fromStart : bit (BitVec.allOnes 32 >>> mb.toNat) i = decide (mb.toNat ≤ i) := by
    rw [bit, BitVec.getMsbD_ushiftRight, BitVec.getMsbD_allOnes, Bool.eq_iff_iff]
    simp only [Bool.and_eq_true, Bool.not_eq_true', decide_eq_true_eq, decide_eq_false_iff_not]
    omega
  have toEnd : bit (BitVec.allOnes 32 <<< (31 - me.toNat)) i = decide (i ≤ me.toNat) := by
    rw [bit, BitVec.getMsbD_shiftLeft, BitVec.getMsbD_allOnes, decide_eq_decide]
    omega
  unfold maskBits inMask
  split
  · rw [bit_and, fromStart, toEnd]
  · rw [bit_or, fromStart, toEnd]

theorem bit_rotateLeft (v : Word) (n : Nat) {i : Nat} (hi : i < 32) :
    bit (v.rotateLeft n) i = bit v ((i + n) % 32) := by
  rw [bit, BitVec.getMsbD_rotateLeft, decide_eq_true hi, Bool.true_and, Nat.add_comm n i]
  rfl

/-! ## The amounts (R233, R234) -/

/-- A field that ends at bit 31 is what is left of the word below it. -/
theorem toNat_field_to_last (w : Word) (first : Nat) : (field w first 31).toNat = w.toNat % 2 ^ (32 - first) := by
  rw [field, BitVec.toNat_setWidth, BitVec.toNat_ushiftRight, Nat.sub_self, Nat.shiftRight_zero]

theorem State.shiftAmount_eq (s : State) (b : BitVec 5) : s.shiftAmount b = (s.r b).toNat % 64 :=
  toNat_field_to_last (s.r b) 26

theorem State.rotateAmount_eq (s : State) (b : BitVec 5) : s.rotateAmount b = (s.r b).toNat % 32 :=
  toNat_field_to_last (s.r b) 27

/-! ## Shifts as products and quotients by powers of two (R234 to R237) -/

theorem shiftLeft_eq_ofNat (v : Word) (n : Nat) : v <<< n = BitVec.ofNat 32 (v.toNat * 2 ^ n) := by
  refine BitVec.eq_of_toNat_eq ?_
  rw [BitVec.toNat_shiftLeft, BitVec.toNat_ofNat, Nat.shiftLeft_eq]

theorem ushiftRight_eq_ofNat (v : Word) (n : Nat) : v >>> n = BitVec.ofNat 32 (v.toNat / 2 ^ n) := by
  rw [← Nat.shiftRight_eq_div_pow, ← BitVec.toNat_ushiftRight, BitVec.ofNat_toNat, BitVec.setWidth_eq]

theorem sshiftRight_eq_ofInt (v : Word) (n : Nat) : v.sshiftRight n = BitVec.ofInt 32 (v.toInt / 2 ^ n) := by
  rw [BitVec.sshiftRight_eq, Int.shiftRight_eq_div_pow, Nat.cast_pow, Nat.cast_ofNat]

/-- The signed and the unsigned number of a word lose a one together: up to 32 places they differ by a multiple, and past
that only 0 loses none. -/
theorem two_pow_dvd_toInt_iff (v : Word) (n : Nat) : (2 ^ n : Int) ∣ v.toInt ↔ 2 ^ n ∣ v.toNat := by
  have hsub := toInt_eq_toNat_sub v
  have hpow : (2 ^ n : Int) = (2 ^ n : Nat) := (Nat.cast_pow 2 n).symm
  rcases Nat.le_total n 32 with hn | hn
  · have hdvd : (2 ^ n : Int) ∣ if bit v 0 then 2 ^ 32 else 0 := by
      split
      · exact pow_dvd_pow 2 hn
      · exact dvd_zero _
    rw [hsub, dvd_sub_left hdvd, hpow, Int.natCast_dvd_natCast]
  · have hword : 2 ^ 32 ≤ 2 ^ n := Nat.pow_le_pow_right (by omega) hn
    have dvd_iff_zero : ∀ {k : Nat}, k < 2 ^ 32 → (2 ^ n ∣ k ↔ k = 0) := fun hk =>
      ⟨fun hd => Nat.eq_zero_of_dvd_of_lt hd (Nat.lt_of_lt_of_le hk hword), fun h => h ▸ dvd_zero _⟩
    have hint : v.toInt.natAbs < 2 ^ 32 := by
      have low := v.le_toInt
      have high := v.toInt_lt
      omega
    rw [hpow, Int.natCast_dvd, dvd_iff_zero hint, dvd_iff_zero v.isLt]
    have hlt := v.isLt
    split at hsub <;> omega

/-- CA of an algebraic shift, on the signed number (R236). -/
theorem shiftedOut_eq (v : Word) (n : Nat) :
    shiftedOut v n = decide (v.toInt < 0 ∧ v.toInt % 2 ^ n ≠ 0) := by
  have hsign : bit v 0 = decide (v.toInt < 0) := by
    rw [← BitVec.msb_eq_toInt, BitVec.msb_eq_decide, bit_zero_eq_decide]
  have hrest : v.toNat % 2 ^ n ≠ 0 ↔ v.toInt % 2 ^ n ≠ 0 := by
    rw [ne_eq, ne_eq, ← Nat.dvd_iff_mod_eq_zero, ← Int.dvd_iff_emod_eq_zero, two_pow_dvd_toInt_iff]
  rw [shiftedOut, hsign, Bool.decide_and, decide_eq_decide.mpr hrest]

/-! ## What the rotates and shifts leave -/

/-- A rotate under a mask, whatever its amount comes from (R231, R233). -/
theorem rotateAndMask_completes (s : State) (src a mb me : BitVec 5) (n : Nat) (rc : Bool) :
    Completes (logical s a ((s.r src).rotateLeft n &&& maskBits mb me) rc) fun t =>
      IntegerEffect s t a (t.r a) none none rc ∧
        ∀ i, i < 32 → bit (t.r a) i = (inMask mb me i && bit (s.r src) ((i + n) % 32)) := by
  refine (logical_completes ..).imp fun _ h => ⟨h.self, fun i hi => ?_⟩
  rw [h.r_eq, bit_and, bit_rotateLeft _ _ hi, bit_maskBits _ _ hi, Bool.and_comm]

/-- A rotate inserted under a mask (R232). -/
theorem execRlwimix_completes (s : State) (src a sh mb me : BitVec 5) (rc : Bool) :
    Completes (execRlwimix src a sh mb me rc s) fun t =>
      IntegerEffect s t a (t.r a) none none rc ∧
        ∀ i, i < 32 → bit (t.r a) i =
          if inMask mb me i then bit (s.r src) ((i + sh.toNat) % 32) else bit (s.r a) i := by
  refine (logical_completes ..).imp fun _ h => ⟨h.self, fun i hi => ?_⟩
  rw [h.r_eq, bit_merge _ _ _ hi, bit_rotateLeft _ _ hi, bit_maskBits _ _ hi]

/-- An algebraic right shift, whatever its amount comes from (R236, R237). -/
theorem shiftAlgebraic_completes (s : State) (src a : BitVec 5) (n : Nat) (rc : Bool) :
    Completes (shiftAlgebraic s src a n rc) fun t =>
      IntegerEffect s t a (BitVec.ofInt 32 ((s.r src).toInt / 2 ^ n))
        (some (decide ((s.r src).toInt < 0 ∧ (s.r src).toInt % 2 ^ n ≠ 0))) none rc := by
  rw [← sshiftRight_eq_ofInt, ← shiftedOut_eq]
  exact arith_completes ..

/-- Settles O23: the rotates are read bit by bit through the mask, and the shifts are products and quotients by powers of
two. -/
theorem rotateAndShiftResults : Obligations.RotateAndShiftResults := by
  intro src a b sh mb me rc s
  simp only [← State.shiftAmount_eq, ← State.rotateAmount_eq]
  refine ⟨rotateAndMask_completes .., execRlwimix_completes .., rotateAndMask_completes .., ?slwx, ?srwx,
    shiftAlgebraic_completes .., shiftAlgebraic_completes ..⟩
  case slwx =>
    rw [← shiftLeft_eq_ofNat]
    exact logical_completes ..
  case srwx =>
    rw [← ushiftRight_eq_ofNat]
    exact logical_completes ..

end Sys2Proof.Machine
end

section
namespace Sys2Proof.Machine

/-! ## Writing FPSCR (43_floating_point.md R244) -/

/-- The places of the exception bits that FX follows (10_state.md R32). -/
def exceptionPlaces : List Nat := [3, 4, 5, 6, 7, 8, 9, 10, 11, 12, 21, 22, 23]

theorem bit_sticky {k : Nat} (hk : k < 32) : bit fpStickyBits k = decide (k ∈ exceptionPlaces) :=
  bit_fpStickyBits k hk

theorem exceptionPlace_lt {k : Nat} (h : k ∈ exceptionPlaces) : k < 32 := by
  have hall : ∀ j ∈ exceptionPlaces, j < 32 := by decide
  exact hall k h

theorem ne_zero_iff_exists_bit (w : Word) : w ≠ 0 ↔ ∃ k, k < 32 ∧ bit w k = true := by
  constructor
  · intro h
    by_contra hno
    refine h (eq_of_bit fun k hk => ?_)
    have hoff : bit w k = false := Bool.eq_false_iff.mpr fun hb => hno ⟨k, hk, hb⟩
    rw [hoff]
    simp [bit]
  · rintro ⟨k, _, hk⟩ rfl
    simp [bit] at hk

/-- Raising exceptions: each exception bit takes its own, FX follows one that was 0, every other bit stays. -/
theorem bit_fpRaise (f raised : Word) {k : Nat} (hk : k < 32) :
    bit (fpRaise f raised) k = (bit f k || (bit raised k && decide (k ∈ exceptionPlaces)) ||
      (decide (k = 0) && exceptionPlaces.any fun j => bit raised j && !bit f j)) := by
  have hnew : (raised &&& fpStickyBits &&& ~~~f != 0) = exceptionPlaces.any fun j => bit raised j && !bit f j := by
    rw [Bool.eq_iff_iff, bne_iff_ne, ne_zero_iff_exists_bit, List.any_eq_true]
    constructor
    · rintro ⟨j, hj, hb⟩
      rw [bit_and, bit_and, bit_not _ hj, bit_sticky hj] at hb
      simp only [Bool.and_eq_true, decide_eq_true_eq] at hb
      obtain ⟨⟨hr, hp⟩, hf⟩ := hb
      exact ⟨j, hp, by rw [hr, hf]; rfl⟩
    · rintro ⟨j, hp, hb⟩
      have hj := exceptionPlace_lt hp
      refine ⟨j, hj, ?_⟩
      rw [Bool.and_eq_true] at hb
      rw [bit_and, bit_and, bit_not _ hj, bit_sticky hj, hb.1, hb.2, decide_eq_true hp]
      rfl
  simp only [fpRaise, hnew]
  cases hany : exceptionPlaces.any fun j => bit raised j && !bit f j
  · simp [bit_or, bit_and, bit_sticky hk]
  · rw [if_pos rfl, bit_writeBit _ (by omega) hk, bit_or, bit_and, bit_sticky hk]
    by_cases h0 : k = 0 <;> simp [h0]

/-- A field written, bit by bit. -/
theorem bit_writeField {n : Nat} (w : Word) (v : BitVec n) {last k : Nat} (hl : last ≤ 31) (hn : n ≤ last + 1)
    (hk : k < 32) :
    bit (writeField w last v) k = if k ≤ last ∧ last < k + n then bit v (k + n - 1 - last) else bit w k := by
  rw [writeField, bit_or, bit_and, bit_not _ hk, bit_fieldMask hl hk]
  have hv : bit (v.setWidth 32 <<< (31 - last)) k = (decide (k ≤ last ∧ last < k + n) && bit v (k + n - 1 - last)) := by
    rw [bit_eq_getLsbD _ hk, BitVec.getLsbD_shiftLeft, BitVec.getLsbD_setWidth, bit, BitVec.getMsbD]
    by_cases hin : k ≤ last ∧ last < k + n
    · have hplace : 31 - k - (31 - last) = n - 1 - (k + n - 1 - last) := by omega
      simp only [hin, hplace, show k + n - 1 - last < n by omega, show ¬ 31 - k < 31 - last by omega,
        show 31 - k < 32 by omega, show n - 1 - (k + n - 1 - last) < 32 by omega]
      simp
    · by_cases hlow : 31 - k < 31 - last
      · simp [hin, hlow]
      · rw [BitVec.getLsbD_of_ge _ _ (by omega)]
        simp [hin]
  rw [hv]
  by_cases hin : k ≤ last ∧ last < k + n <;> simp [hin]

theorem eq_of_bit_five {v w : BitVec 5} (h : ∀ k, k < 5 → bit v k = bit w k) : v = w := by
  refine BitVec.eq_of_getMsbD_eq fun k hk => h k hk

/-- FPRF's place reads back what was written there (43_floating_point.md R241). -/
theorem field_fpClass (f : Word) (c : BitVec 5) : field (fpClass f c) 15 19 = c := by
  refine eq_of_bit_five fun k hk => ?_
  rw [bit_field _ (by omega) hk, fpClass, bit_writeField _ _ (by omega) (by omega) (by omega), if_pos (by omega)]
  congr 1
  omega

theorem field_congr {f g : Word} (h : BitsKept f g 15 5) : field g 15 19 = field f 15 19 := by
  refine eq_of_bit_five fun k hk => ?_
  rw [bit_field _ (by omega) hk, bit_field _ (by omega) hk, h _ (by omega) (by omega)]

/-! ### The update of an arithmetic instruction -/

/-- FPSCR before the exceptions are raised: FR, FI and FPRF of an outcome. -/
def fpResult (f : Word) (o : FpOutcome) : Word :=
  let g := fpRounding f o.fr o.fi
  o.fprf.elim g (fpClass g)

theorem fpUpdate_eq (f : Word) (o : FpOutcome) : fpUpdate f o = fpDerive (fpRaise (fpResult f o) o.raised) := by
  unfold fpUpdate fpResult
  cases o.fprf <;> rfl

theorem bit_fpRounding (f : Word) (fr fi : Bool) {k : Nat} (hk : k < 32) :
    bit (fpRounding f fr fi) k = if k = 14 then fi else if k = 13 then fr else bit f k := by
  rw [fpRounding, bit_writeBit _ (by omega) hk, bit_writeBit _ (by omega) hk]

/-- The places that an outcome's FR, FI and FPRF leave. -/
theorem bit_fpResult_other (f : Word) (o : FpOutcome) {k : Nat} (hk : k < 32) (h : k < 13 ∨ 19 < k) :
    bit (fpResult f o) k = bit f k := by
  have hround : bit (fpRounding f o.fr o.fi) k = bit f k := by
    rw [bit_fpRounding _ _ _ hk, if_neg (by omega), if_neg (by omega)]
  unfold fpResult
  cases o.fprf with
  | none => exact hround
  | some c =>
    refine (bit_writeField _ _ (by omega) (by omega) hk).trans ?_
    rw [if_neg (by omega), hround]

theorem bit_fpResult_rounding (f : Word) (o : FpOutcome) {k : Nat} (h : k = 13 ∨ k = 14) :
    bit (fpResult f o) k = if k = 13 then o.fr else o.fi := by
  have hround : bit (fpRounding f o.fr o.fi) k = if k = 13 then o.fr else o.fi := by
    rw [bit_fpRounding _ _ _ (by omega)]
    rcases h with rfl | rfl <;> rfl
  unfold fpResult
  cases o.fprf with
  | none => exact hround
  | some c =>
    refine (bit_writeField _ _ (by omega) (by omega) (by omega)).trans ?_
    rw [if_neg (by omega), hround]

/-- Places that no exception and no summary bit has. -/
theorem bit_raised_other (f raised : Word) {k : Nat} (h : (13 ≤ k ∧ k ≤ 19) ∨ (24 ≤ k ∧ k < 32)) :
    bit (fpDerive (fpRaise f raised)) k = bit f k := by
  have hplace : k ∉ exceptionPlaces := by
    simp only [exceptionPlaces, List.mem_cons, List.not_mem_nil, or_false]
    omega
  rw [bit_fpDerive_other _ (by omega) (by simp only [List.mem_cons, List.not_mem_nil, or_false]; omega),
    bit_fpRaise _ _ (by omega)]
  simp [hplace, show k ≠ 0 by omega]

/-- Exception bits are sticky: each is set where it was or where it is raised. -/
theorem bit_raised_exception (f raised : Word) {k : Nat} (h : k ∈ exceptionPlaces) :
    bit (fpDerive (fpRaise f raised)) k = (bit f k || bit raised k) := by
  have hne : k ≠ 0 ∧ k ∉ [1, 2, 20] := by
    have hall : ∀ j ∈ exceptionPlaces, j ≠ 0 ∧ j ∉ [1, 2, 20] := by decide
    exact hall k h
  rw [bit_fpDerive_other _ (exceptionPlace_lt h) hne.2, bit_fpRaise _ _ (exceptionPlace_lt h)]
  simp [h, hne.1]

theorem bit_raised_fx (f raised : Word) :
    bit (fpDerive (fpRaise f raised)) 0 =
      (bit f 0 || exceptionPlaces.any fun k => bit (fpDerive (fpRaise f raised)) k && !bit f k) := by
  have hnew : (exceptionPlaces.any fun k => bit (fpDerive (fpRaise f raised)) k && !bit f k) =
      exceptionPlaces.any fun k => bit raised k && !bit f k := by
    rw [Bool.eq_iff_iff, List.any_eq_true, List.any_eq_true]
    refine exists_congr fun k => and_congr_right fun hk => ?_
    rw [bit_raised_exception f raised hk]
    cases bit f k <;> simp
  rw [hnew, bit_fpDerive_other _ (by omega) (by decide), bit_fpRaise _ _ (by omega)]
  simp [show 0 ∉ exceptionPlaces by decide]

section
variable (f : Word) (o : FpOutcome)

theorem bit_fpUpdate_fr : bit (fpUpdate f o) 13 = o.fr := by
  rw [fpUpdate_eq, bit_raised_other _ _ (by omega), bit_fpResult_rounding _ _ (.inl rfl), if_pos rfl]

theorem bit_fpUpdate_fi : bit (fpUpdate f o) 14 = o.fi := by
  rw [fpUpdate_eq, bit_raised_other _ _ (by omega), bit_fpResult_rounding _ _ (.inr rfl), if_neg (by decide)]

theorem bit_fpUpdate_exception {k : Nat} (h : k ∈ exceptionPlaces) :
    bit (fpUpdate f o) k = (bit f k || bit o.raised k) := by
  have hplace : k < 13 ∨ 19 < k := by
    have hall : ∀ j ∈ exceptionPlaces, j < 13 ∨ 19 < j := by decide
    exact hall k h
  rw [fpUpdate_eq, bit_raised_exception _ _ h, bit_fpResult_other _ _ (exceptionPlace_lt h) hplace]

/-- The enables, NI and RN stay. -/
theorem fpUpdate_controls : BitsKept f (fpUpdate f o) 24 8 := fun k h1 h2 => by
  rw [fpUpdate_eq, bit_raised_other _ _ (.inr (by omega)), bit_fpResult_other _ _ (by omega) (by omega)]

theorem fpDerive_fpUpdate : fpDerive (fpUpdate f o) = fpUpdate f o := by
  rw [fpUpdate_eq, fpDerive_fpDerive]

theorem bit_fpUpdate_fx :
    bit (fpUpdate f o) 0 = (bit f 0 || exceptionPlaces.any fun k => bit (fpUpdate f o) k && !bit f k) := by
  have hother : ∀ k, k < 13 ∨ 19 < k → k < 32 → bit (fpResult f o) k = bit f k := fun k h hk =>
    bit_fpResult_other f o hk h
  have hall : ∀ k ∈ exceptionPlaces, (k < 13 ∨ 19 < k) ∧ k < 32 := by decide
  rw [fpUpdate_eq, bit_raised_fx, hother 0 (by omega) (by omega)]
  congr 1
  rw [Bool.eq_iff_iff, List.any_eq_true, List.any_eq_true]
  exact exists_congr fun k => and_congr_right fun hk => by rw [hother k (hall k hk).1 (hall k hk).2]

theorem field_fpUpdate {c : BitVec 5} (h : o.fprf = some c) : field (fpUpdate f o) 15 19 = c := by
  have hres : fpResult f o = fpClass (fpRounding f o.fr o.fi) c := by rw [fpResult, h]; rfl
  refine (field_congr fun k h1 h2 => ?_).trans (field_fpClass (fpRounding f o.fr o.fi) c)
  rw [fpUpdate_eq, bit_raised_other _ _ (by omega), hres]

/-- An outcome without FPRF leaves it (43_floating_point.md R245, R246). -/
theorem fpUpdate_fprf (h : o.fprf = none) : BitsKept f (fpUpdate f o) 15 5 := fun k h1 h2 => by
  rw [fpUpdate_eq, bit_raised_other _ _ (by omega), fpResult, h]
  refine (bit_fpRounding _ _ _ (by omega)).trans ?_
  rw [if_neg (by omega), if_neg (by omega)]

/-- Exception bits that are not raised stay, and so do the enables, NI and RN behind them. -/
theorem fpUpdate_kept {first n : Nat} (hplace : (3 ≤ first ∧ first + n ≤ 13) ∨ (21 ≤ first ∧ first + n ≤ 32))
    (h : ∀ k, first ≤ k → k < first + n → k < 24 → bit o.raised k = false) : BitsKept f (fpUpdate f o) first n :=
  fun k h1 h2 => by
    by_cases hc : 24 ≤ k
    · exact fpUpdate_controls f o k hc (by omega)
    · have hmem : k ∈ exceptionPlaces := by
        simp only [exceptionPlaces, List.mem_cons, List.not_mem_nil, or_false]
        omega
      rw [bit_fpUpdate_exception f o hmem, h k h1 h2 (by omega), Bool.or_false]

end

/-- FEX of an FPSCR whose summary bits are right: an enabled exception bit sets it (10_state.md R33). -/
theorem fex_of_invalid {f : Word} (hf : fpDerive f = f) (hve : bit f 24 = true) {k : Nat} (hk : k < 32)
    (hplace : bit fpInvalidBits k = true) (hb : bit f k = true) : bit f 1 = true := by
  have hvx : fpVx f = true := by
    rw [fpVx, bne_iff_ne, ne_zero_iff_exists_bit]
    exact ⟨k, hk, by rw [bit_and, hb, hplace]; rfl⟩
  rw [← hf, bit_fpDerive _ (by omega), if_pos rfl, fpFex, hvx, hve]
  rfl

theorem fex_of_zeroDivide {f : Word} (hf : fpDerive f = f) (hze : bit f 27 = true) (hb : bit f 5 = true) :
    bit f 1 = true := by
  rw [← hf, bit_fpDerive _ (by omega), if_pos rfl, fpFex, hze, hb]
  simp

/-! ## What an arithmetic instruction writes -/

/-- The state after an arithmetic instruction with this outcome: the target where the outcome has a value, FPSCR, CR field
1 with Rc, the next pc, free values drawn, and nothing else (43_floating_point.md R244). -/
structure FloatWritten (s t : State) (d : BitVec 5) (rc : Bool) (o : FpOutcome) : Prop where
  target : t.f d = o.value.getD (s.f d)
  fprs : FprsKept s t [d]
  fpscr : t.fpscr = fpUpdate s.fpscr o
  pc : t.pc = s.pc + 4
  memory : MemoryKept s t
  crRecorded : rc = true → crField t.cr 1 = crField t.fpscr 0
  crKept : ∀ n, n ≠ 1 ∨ rc = false → crField t.cr n = crField s.cr n
  frame : { t with fpr := s.fpr, fpscr := s.fpscr, cr := s.cr, pc := s.pc, draws := s.draws } = s

/-- The target of an outcome. -/
def State.setFOption (s : State) (d : BitVec 5) (v : Option Dword) : State := v.elim s (s.setF d)

theorem applyFloat_eq (s : State) (d : BitVec 5) (o : FpOutcome) (rc : Bool) :
    s.applyFloat d o rc = State.recordCr1 { s.setFOption d o.value with fpscr := fpUpdate s.fpscr o } rc := by
  unfold State.applyFloat State.setFOption
  cases o.value <;> rfl

theorem applyFloat_written (s : State) (d : BitVec 5) (o : FpOutcome) (rc : Bool) (n : Nat) :
    FloatWritten s ((s.applyFloat d o rc).drawn n).advance d rc o := by
  obtain ⟨hrec, hkeep⟩ := recordCr1_cr { s.setFOption d o.value with fpscr := fpUpdate s.fpscr o } rc
  have hcr : (s.setFOption d o.value).cr = s.cr := by cases o.value <;> rfl
  rw [applyFloat_eq, recordCr1_eq]
  refine ⟨?_, fun j hj => ?_, rfl, ?_, fun a => ?_, fun h => (hrec h).1, fun k hk => ?_, ?_⟩
  · cases o.value with
    | none => rfl
    | some v => exact s.setF_f_same d v
  · cases o.value with
    | none => rfl
    | some v => exact s.setF_f_ne (by simpa using hj) v
  · cases o.value <;> rfl
  · cases o.value <;> rfl
  · change crField (State.recordCr1 _ rc).cr k = _
    cases rc with
    | false => rw [hkeep rfl]; exact congrArg (crField · k) hcr
    | true => rw [(hrec rfl).2 k (by simpa using hk)]; exact congrArg (crField · k) hcr
  · cases o.value <;> rfl

theorem applyFloat_msr (s : State) (d : BitVec 5) (o : FpOutcome) (rc : Bool) : (s.applyFloat d o rc).msr = s.msr := by
  rw [applyFloat_eq, recordCr1_msr]
  cases o.value <;> rfl

theorem FloatWritten.fx {s t : State} {d : BitVec 5} {rc : Bool} {o : FpOutcome} (h : FloatWritten s t d rc o) :
    FxFollows s t := by
  unfold FxFollows
  rw [h.fpscr]
  exact bit_fpUpdate_fx s.fpscr o

/-- What every arithmetic instruction leaves, whatever its outcome. -/
theorem FloatWritten.completes {s t : State} {d : BitVec 5} {rc : Bool} {o : FpOutcome} (h : FloatWritten s t d rc o) :
    t.pc = s.pc + 4 ∧ FprsKept s t [d] ∧ MemoryKept s t ∧ BitsKept s.fpscr t.fpscr 24 8 ∧
      (∀ k, k ∈ [0, 3, 4, 5, 6, 7, 8, 9, 10, 11, 12, 21, 22, 23] → bit s.fpscr k = true → bit t.fpscr k = true) ∧
      FxFollows s t ∧ fpDerive t.fpscr = t.fpscr ∧ (∀ n, n ≠ 1 ∨ rc = false → crField t.cr n = crField s.cr n) ∧
      (rc = true → crField t.cr 1 = crField t.fpscr 0) ∧
      { t with fpr := s.fpr, fpscr := s.fpscr, cr := s.cr, pc := s.pc, draws := s.draws } = s := by
  refine ⟨h.pc, h.fprs, h.memory, ?_, fun k hk hb => ?_, h.fx, ?_, h.crKept, h.crRecorded, h.frame⟩
  · rw [h.fpscr]
    exact fpUpdate_controls _ _
  · rcases List.mem_cons.mp hk with rfl | hk
    · rw [h.fx, hb]
      rfl
    · rw [h.fpscr, bit_fpUpdate_exception _ _ hk, hb]
      rfl
  · rw [h.fpscr, fpDerive_fpUpdate]

/-- The outcome of a conversion as that of an arithmetic instruction: free values for the high word and for FPRF. -/
def convertOutcome (s : State) (b : BitVec 5) (rn : BitVec 2) : FpOutcome :=
  let o := fpToInteger (s.f b) rn (bit s.fpscr 24)
  ⟨o.word.map ((s.fresh 32 : Word) ++ ·), some ((s.drawn 1).fresh 5), o.fr, o.fi, o.raised⟩

section
variable {s : State} (hq : s.FloatQuiet)
include hq

/-- With the enabled exceptions off every arithmetic instruction writes its outcome (43_floating_point.md R285). -/
theorem floatArith_written (single : Bool) (d : BitVec 5) (operands : List Dword) (rc : Bool)
    (compute : FpControl → FpOutcome) :
    Completes (floatArith s single d operands rc compute) fun t =>
      FloatWritten s t d rc (arithmeticOutcome s single operands compute) := by
  obtain ⟨hf, h0, h1⟩ := hq
  have hmsr := applyFloat_msr s d (arithmeticOutcome s single operands compute) rc
  refine .of_next ((floatOnly_on hf _).trans (finishFloat_quiet ?_ ?_)) (applyFloat_written s d _ rc arithmeticDraws)
  · exact (congrArg (bit · 20) hmsr).trans h0
  · exact (congrArg (bit · 23) hmsr).trans h1

theorem floatConvert_written (d b : BitVec 5) (rn : Word → BitVec 2) (rc : Bool) :
    Completes (floatConvert s d b rn rc) fun t => FloatWritten s t d rc (convertOutcome s b (rn s.fpscr)) := by
  obtain ⟨hf, h0, h1⟩ := hq
  have hmsr := applyFloat_msr s d (convertOutcome s b (rn s.fpscr)) rc
  refine .of_next ((floatOnly_on hf _).trans (finishFloat_quiet ?_ ?_)) (applyFloat_written s d _ rc 2)
  · exact (congrArg (bit · 20) hmsr).trans h0
  · exact (congrArg (bit · 23) hmsr).trans h1

/-- Where NI = 0 and a single-precision instruction has single-precision operands, the outcome is the computed one. -/
theorem floatArith_computed {single : Bool} {operands : List Dword} (hni : bit s.fpscr 29 = false)
    (hsingle : single = true → operands.all isSingle = true) (d : BitVec 5) (rc : Bool)
    (compute : FpControl → FpOutcome) :
    Completes (floatArith s single d operands rc compute) fun t =>
      FloatWritten s t d rc (compute (fpControl s.fpscr (bit (s.fresh 1) 0))) := by
  have hok : (single && !operands.all isSingle) = false := by
    cases single
    · rfl
    · rw [hsingle rfl]
      rfl
  have hout : arithmeticOutcome s single operands compute = compute (fpControl s.fpscr (bit (s.fresh 1) 0)) := by
    simp [arithmeticOutcome, hok, hni]
  exact (floatArith_written hq single d operands rc compute).imp fun t ht => hout ▸ ht

end

/-- Settles O47: every one of these instructions writes an outcome, whatever it is. -/
theorem floatArithmeticCompletes : Obligations.FloatArithmeticCompletes := by
  intro i d ops rc s hi hq
  have arith (single : Bool) (operands : List Dword) (compute : FpControl → FpOutcome) :=
    (floatArith_written hq single d operands rc compute).imp fun _ h => h.completes
  have convert (b : BitVec 5) (rn : Word → BitVec 2) :=
    (floatConvert_written hq d b rn rc).imp fun _ h => h.completes
  cases i with
  | faddx | faddsx | fsubx | fsubsx | fdivx | fdivsx | fmulx | fmulsx | fresx | frsqrtex | fmaddx | fmaddsx | fmsubx
  | fmsubsx | fnmaddx | fnmaddsx | fnmsubx | fnmsubsx | frspx =>
    cases hi
    exact arith _ _ _
  | fctiwx =>
    cases hi
    exact convert _ _
  | fctiwzx d b rc =>
    cases hi
    exact convert b fun _ => 1
  | _ => cases hi

end Sys2Proof.Machine
end

section
namespace Sys2Proof.Machine

/-! ## Enabled floating-point exceptions (43_floating_point.md R285) -/

/-- The state with other MSR bits. -/
def State.withMsr (s : State) (msr : Word) : State := { s with msr := msr }

/-- An MSR with MSR[FP] set and the enabled exceptions off. -/
def QuietMsr (msr : Word) : Prop := bit msr 18 = true ∧ bit msr 20 = false ∧ bit msr 23 = false

theorem quietMsr_cleared {msr : Word} (hf : bit msr 18 = true) :
    QuietMsr (msr &&& ~~~(bitMask 20 ||| bitMask 23)) := by
  have hmask : bit (bitMask 20 ||| bitMask 23) 18 = false ∧ bit (bitMask 20 ||| bitMask 23) 20 = true ∧
      bit (bitMask 20 ||| bitMask 23) 23 = true := by decide
  obtain ⟨h18, h20, h23⟩ := hmask
  refine ⟨?_, ?_, ?_⟩
  · rw [bit_and, bit_not _ (by omega), h18, hf]
    rfl
  · rw [bit_and, bit_not _ (by omega), h20, Bool.not_true, Bool.and_false]
  · rw [bit_and, bit_not _ (by omega), h23, Bool.not_true, Bool.and_false]

/-- What an instruction does with the enabled exceptions on, told by the state `u` it leaves with them off: where FEX is
then 1 the program exception with SRR0 at `resume`. -/
def enabledOutcome (s u : State) (resume : Word) : State :=
  if bit u.fpscr 1 && (bit s.msr 20 || bit s.msr 23) then
    takeException .program resume (bitMask 11) { u with msr := s.msr, pc := s.pc }
  else { u with msr := s.msr }

/-- The two runs of an instruction that leaves `v` before it ends with `finishFloat`. -/
theorem finishFloat_enabled {s v : State} {r quiet : Result} {msr : Word} (hm : QuietMsr msr) (hmsr : v.msr = s.msr)
    (hpc : v.pc = s.pc) (hr : r = finishFloat v) (hquiet : quiet = finishFloat (v.withMsr msr)) :
    Completes quiet fun u => r = .next (enabledOutcome s u s.pc) := by
  obtain ⟨_, h20, h23⟩ := hm
  refine .of_next (hquiet.trans (finishFloat_quiet (s := v.withMsr msr) h20 h23)) ?_
  rw [hr, finishFloat_eq, enabledOutcome, State.floatTraps, ← hmsr, ← hpc]
  rfl

/-- The two runs of an instruction that leaves `v` before it ends with `finishFpscrWrite`. -/
theorem finishFpscrWrite_enabled {s v : State} {r quiet : Result} {msr : Word} (hm : QuietMsr msr) (hmsr : v.msr = s.msr)
    (hpc : v.pc = s.pc) (hr : r = finishFpscrWrite s.fpscr v)
    (hquiet : quiet = finishFpscrWrite s.fpscr (v.withMsr msr)) :
    Completes quiet fun u => r = .next (enabledOutcome s u (if bit s.fpscr 1 then s.pc else s.pc + 4)) := by
  obtain ⟨_, h20, h23⟩ := hm
  refine .of_next (hquiet.trans (finishFpscrWrite_quiet (s := v.withMsr msr) h20 h23 _)) ?_
  rw [hr, finishFpscrWrite, enabledOutcome, State.floatTraps, ← hmsr, ← hpc]
  change _ = Host.Outcome.next (if (bit v.fpscr 1 && (bit v.msr 20 || bit v.msr 23)) = true then _ else _)
  split
  · split <;> rfl
  · rfl

/-! ### Meanings that do not look at MSR -/

/-- FPSCR after a compare: the result in FPCC, the exceptions raised. -/
def fpCompareWord (f : Word) (c : BitVec 4) (raised : Word) : Word := fpDerive (fpRaise (writeField f 19 c) raised)

theorem applyFloat_withMsr (s : State) (msr : Word) (d : BitVec 5) (o : FpOutcome) (rc : Bool) :
    (s.withMsr msr).applyFloat d o rc = (s.applyFloat d o rc).withMsr msr := by
  rw [applyFloat_eq, applyFloat_eq]
  cases o.value <;> cases rc <;> rfl

theorem applyFloat_pc (s : State) (d : BitVec 5) (o : FpOutcome) (rc : Bool) : (s.applyFloat d o rc).pc = s.pc := by
  rw [applyFloat_eq]
  cases o.value <;> cases rc <;> rfl

theorem recordCr1_withMsr (s : State) (msr : Word) (rc : Bool) :
    (s.withMsr msr).recordCr1 rc = (s.recordCr1 rc).withMsr msr := by
  cases rc <;> rfl

theorem recordCr1_pc (s : State) (rc : Bool) : (s.recordCr1 rc).pc = s.pc := by cases rc <;> rfl

theorem arithmeticOutcome_withMsr (s : State) (msr : Word) (single : Bool) (operands : List Dword)
    (compute : FpControl → FpOutcome) :
    arithmeticOutcome (s.withMsr msr) single operands compute = arithmeticOutcome s single operands compute := rfl

theorem drawn_withMsr (s : State) (msr : Word) (n : Nat) : (s.withMsr msr).drawn n = (s.drawn n).withMsr msr := rfl

section
variable {s : State} {msr : Word} (hf : bit s.msr 18 = true) (hm : QuietMsr msr)
include hf hm

/-- An instruction whose effect `v` does not look at MSR and that ends with `finishFloat`. -/
theorem floatOnly_enabled {go : State → Result} (v : State) (hmsr : v.msr = s.msr) (hpc : v.pc = s.pc)
    (hgo : go s = finishFloat v) (hquiet : go (s.withMsr msr) = finishFloat (v.withMsr msr)) :
    Completes (floatOnly (s.withMsr msr) go) fun u => floatOnly s go = .next (enabledOutcome s u s.pc) := by
  rw [floatOnly_on hf, floatOnly_on (s := s.withMsr msr) hm.1]
  exact finishFloat_enabled hm hmsr hpc hgo hquiet

/-- An instruction that writes `f[d]` and FPSCR by an outcome that does not look at MSR. -/
theorem applyFloat_enabled {go : State → Result} (d : BitVec 5) (o : FpOutcome) (rc : Bool) (n : Nat)
    (hgo : go s = finishFloat ((s.applyFloat d o rc).drawn n))
    (hquiet : go (s.withMsr msr) = finishFloat (((s.withMsr msr).applyFloat d o rc).drawn n)) :
    Completes (floatOnly (s.withMsr msr) go) fun u => floatOnly s go = .next (enabledOutcome s u s.pc) := by
  rw [applyFloat_withMsr, drawn_withMsr] at hquiet
  refine floatOnly_enabled hf hm _ ?_ ?_ hgo hquiet
  · rw [State.drawn_msr, applyFloat_msr]
  · rw [State.drawn_pc, applyFloat_pc]

theorem floatArith_enabled (single : Bool) (d : BitVec 5) (operands : List Dword) (rc : Bool)
    (compute : FpControl → FpOutcome) :
    Completes (floatArith (s.withMsr msr) single d operands rc compute) fun u =>
      floatArith s single d operands rc compute = .next (enabledOutcome s u s.pc) := by
  refine applyFloat_enabled hf hm d (arithmeticOutcome s single operands compute) rc arithmeticDraws rfl ?_
  rw [arithmeticOutcome_withMsr]

theorem floatConvert_enabled (d b : BitVec 5) (rn : Word → BitVec 2) (rc : Bool) :
    Completes (floatConvert (s.withMsr msr) d b rn rc) fun u =>
      floatConvert s d b rn rc = .next (enabledOutcome s u s.pc) :=
  applyFloat_enabled hf hm d (convertOutcome s b (rn s.fpscr)) rc 2 rfl rfl

theorem floatCompare_enabled (crfD : BitVec 3) (a b : BitVec 5) (raised : Word → Word) :
    Completes (floatCompare (s.withMsr msr) crfD a b raised) fun u =>
      floatCompare s crfD a b raised = .next (enabledOutcome s u s.pc) :=
  floatOnly_enabled hf hm { s.setCrField crfD (fpCompare (s.f a) (s.f b)) with
    fpscr := fpCompareWord s.fpscr (fpCompare (s.f a) (s.f b)) (raised s.fpscr) } rfl rfl rfl rfl

theorem execMcrfs_enabled (crfD crfS : BitVec 3) :
    Completes (execMcrfs crfD crfS (s.withMsr msr)) fun u =>
      execMcrfs crfD crfS s = .next (enabledOutcome s u s.pc) :=
  floatOnly_enabled hf hm { s.setCrField crfD (crField s.fpscr crfS) with
    fpscr := fpDerive (s.fpscr &&& ~~~(clearedByMcrfs crfS)) } rfl rfl rfl rfl

/-- A write of FPSCR that ends as an arithmetic instruction does. -/
theorem fpscrBit_enabled {go : State → Result} (f : Word) (rc : Bool)
    (hgo : go s = finishFloat (State.recordCr1 { s with fpscr := f } rc))
    (hquiet : go (s.withMsr msr) = finishFloat ((State.withMsr { s with fpscr := f } msr).recordCr1 rc)) :
    Completes (floatOnly (s.withMsr msr) go) fun u => floatOnly s go = .next (enabledOutcome s u s.pc) := by
  rw [recordCr1_withMsr] at hquiet
  exact floatOnly_enabled hf hm _ (recordCr1_msr { s with fpscr := f } rc) (recordCr1_pc { s with fpscr := f } rc) hgo hquiet

/-- A write of FPSCR's fields, which resumes after itself where it newly sets FEX. -/
theorem fpscrFields_enabled {go : State → Result} (f : Word) (rc : Bool)
    (hgo : go s = finishFpscrWrite s.fpscr (State.recordCr1 { s with fpscr := f } rc))
    (hquiet : go (s.withMsr msr) =
      finishFpscrWrite s.fpscr ((State.withMsr { s with fpscr := f } msr).recordCr1 rc)) :
    Completes (floatOnly (s.withMsr msr) go) fun u =>
      floatOnly s go = .next (enabledOutcome s u (if bit s.fpscr 1 then s.pc else s.pc + 4)) := by
  rw [recordCr1_withMsr] at hquiet
  rw [floatOnly_on hf, floatOnly_on (s := s.withMsr msr) hm.1]
  exact finishFpscrWrite_enabled hm (recordCr1_msr { s with fpscr := f } rc) (recordCr1_pc { s with fpscr := f } rc) hgo hquiet

theorem arithmetic_enabled {i : Instr} (hi : (arithmeticShape i).isSome = true) :
    Completes (exec i (s.withMsr msr)) fun u => exec i s = .next (enabledOutcome s u s.pc) := by
  cases i with
  | faddx | faddsx | fsubx | fsubsx | fdivx | fdivsx | fmulx | fmulsx | fresx | frsqrtex | fmaddx | fmaddsx | fmsubx
  | fmsubsx | fnmaddx | fnmaddsx | fnmsubx | fnmsubsx | frspx => exact floatArith_enabled hf hm _ _ _ _ _
  | fctiwx => exact floatConvert_enabled hf hm _ _ _ _
  | fctiwzx d b rc => exact floatConvert_enabled hf hm d b (fun _ => 1) rc
  | _ => cases hi

end

/-- Settles O48: the instruction's own effect does not look at MSR, and its end looks at FEX, FE0 and FE1. -/
theorem enabledFloatExceptionsTrapAfterwards : Obligations.EnabledFloatExceptionsTrapAfterwards := by
  intro i s crfD crfS x y imm fm rc after hi hf
  obtain ⟨msr, hmsr⟩ : ∃ msr, msr = s.msr &&& ~~~(bitMask 20 ||| bitMask 23) := ⟨_, rfl⟩
  have hm : QuietMsr msr := hmsr ▸ quietMsr_cleared hf
  rw [← hmsr]
  change Completes (exec i (s.withMsr msr)) fun u => exec i s =
    .next (enabledOutcome s u (if after && !bit s.fpscr 1 then s.pc + 4 else s.pc))
  have hresume : (if true && !bit s.fpscr 1 then s.pc + 4 else s.pc) = if bit s.fpscr 1 then s.pc else s.pc + 4 := by
    cases bit s.fpscr 1 <;> rfl
  simp only [List.mem_cons, List.not_mem_nil, or_false, Prod.mk.injEq] at hi
  rcases hi with ⟨hshape, rfl⟩ | ⟨rfl, rfl⟩ | ⟨rfl, rfl⟩ | ⟨rfl, rfl⟩ | ⟨rfl, rfl⟩ | ⟨rfl, rfl⟩ | ⟨rfl, rfl⟩ | ⟨rfl, rfl⟩
  · exact arithmetic_enabled hf hm hshape
  · exact floatCompare_enabled hf hm crfD x y fun _ => unorderedCause (s.f x) (s.f y)
  · exact floatCompare_enabled hf hm crfD x y (orderedCause (s.f x) (s.f y))
  · exact execMcrfs_enabled hf hm crfD crfS
  · simp only [exec_mtfsb0x, execMtfsb0x]
    exact fpscrBit_enabled hf hm (fpDerive (mtfsb0Bits s.fpscr x)) rc rfl rfl
  · simp only [exec_mtfsb1x, execMtfsb1x]
    exact fpscrBit_enabled hf hm (fpDerive (mtfsb1Bits s.fpscr x)) rc rfl rfl
  · simp only [exec_mtfsfix, execMtfsfix, hresume]
    exact fpscrFields_enabled hf hm
      (fpReplace s.fpscr (fieldMask (4 * crfD.toNat + 3) 4) (writeField 0 (4 * crfD.toNat + 3) imm)) rc rfl rfl
  · simp only [exec_mtfsfx, execMtfsfx, hresume]
    exact fpscrFields_enabled hf hm (fpReplace s.fpscr (fieldsMask fm) ((s.f x).setWidth 32)) rc rfl rfl

/-! ## Compares (43_floating_point.md R273, R274) -/

/-- The exceptions of a compare, by their places: VXSNAN, and VXVC of an ordered one. -/
theorem bit_unorderedCause (x y : Dword) {k : Nat} (hk : k < 32) :
    bit (unorderedCause x y) k = (decide (k = 7) && (fpIsSignaling x || fpIsSignaling y)) := by
  have hzero : bit (0#32) k = false := by simp [bit]
  unfold unorderedCause
  cases fpIsSignaling x || fpIsSignaling y
  · simp [hzero]
  · simp [fpVXSNAN, bit_bitMask (show 7 < 32 by omega) hk]

theorem signaling_isNaN {v : Dword} (h : fpIsSignaling v = true) : fpIsNaN v = true := by
  rw [fpIsSignaling, Bool.and_eq_true] at h
  exact h.1

theorem bit_orderedCause (x y : Dword) (f : Word) {k : Nat} (hk : k < 32) :
    bit (orderedCause x y f) k =
      ((decide (k = 7) && (fpIsSignaling x || fpIsSignaling y)) ||
        (decide (k = 12) && ((fpIsNaN x || fpIsNaN y) && !((fpIsSignaling x || fpIsSignaling y) && bit f 24)))) := by
  have hzero : bit (0#32) k = false := by simp [bit]
  have hsnan : bit fpVXSNAN k = decide (k = 7) := bit_bitMask (by omega) hk
  have hvc : bit fpVXVC k = decide (k = 12) := bit_bitMask (by omega) hk
  unfold orderedCause
  cases hs : fpIsSignaling x || fpIsSignaling y
  · cases hn : fpIsNaN x || fpIsNaN y <;> simp [hzero, hvc]
  · have hn : (fpIsNaN x || fpIsNaN y) = true := by
      rw [Bool.or_eq_true] at hs ⊢
      exact hs.imp signaling_isNaN signaling_isNaN
    cases bit f 24 <;> simp [hn, bit_or, hsnan, hvc]

theorem bit_writeFpcc (f : Word) (c : BitVec 4) {k : Nat} (hk : k < 32) (h : k < 16 ∨ 19 < k) :
    bit (writeField f 19 c) k = bit f k := by
  rw [bit_writeField f c (by omega) (by omega) hk, if_neg (by omega)]

/-- What a compare leaves of FPSCR, by its places. -/
theorem bit_fpCompareWord (f : Word) (c : BitVec 4) (raised : Word) {k : Nat} (hk : k < 32)
    (h : 3 ≤ k ∧ k < 16 ∨ 21 ≤ k) :
    bit (fpCompareWord f c raised) k = (bit f k || (decide (k ∈ exceptionPlaces) && bit raised k)) := by
  rw [fpCompareWord]
  by_cases hp : k ∈ exceptionPlaces
  · rw [bit_raised_exception _ _ hp, bit_writeFpcc _ _ hk (by omega), decide_eq_true hp, Bool.true_and]
  · have hrest : (13 ≤ k ∧ k ≤ 19) ∨ (24 ≤ k ∧ k < 32) := by
      simp only [exceptionPlaces, List.mem_cons, List.not_mem_nil, or_false, not_or] at hp
      omega
    rw [bit_raised_other _ _ hrest, bit_writeFpcc _ _ hk (by omega), decide_eq_false hp, Bool.false_and, Bool.or_false]

theorem field_fpCompareWord (f : Word) (c : BitVec 4) (raised : Word) : field (fpCompareWord f c raised) 16 19 = c := by
  refine BitVec.eq_of_getMsbD_eq fun k hk => ?_
  have hk4 : k < 4 := hk
  change bit (field (fpCompareWord f c raised) 16 19) k = bit c k
  rw [bit_field _ (by omega) hk, fpCompareWord, bit_raised_other _ _ (by omega),
    bit_writeField _ _ (by omega) (by omega) (by omega), if_pos (by omega)]
  congr 1
  omega

/-- The compare's FX: set where an exception bit is newly set (R244). -/
theorem fx_fpCompareWord (f : Word) (c : BitVec 4) (raised : Word) :
    bit (fpCompareWord f c raised) 0 =
      (bit f 0 || exceptionPlaces.any fun k => bit (fpCompareWord f c raised) k && !bit f k) := by
  have hall : ∀ k ∈ exceptionPlaces, k < 32 ∧ (k < 16 ∨ 19 < k) := by decide
  rw [fpCompareWord, bit_raised_fx, bit_writeFpcc _ _ (by omega) (by omega)]
  congr 1
  rw [Bool.eq_iff_iff, List.any_eq_true, List.any_eq_true]
  exact exists_congr fun k => and_congr_right fun hk => by rw [bit_writeFpcc _ _ (hall k hk).1 (hall k hk).2]

/-- What a compare leaves, whatever exceptions it raises; `signaling` and `invalid` say whether VXSNAN and VXVC are. -/
theorem floatCompare_completes {s : State} (hq : s.FloatQuiet) (crfD : BitVec 3) (a b : BitVec 5) {raised : Word → Word}
    {signaling invalid : Bool}
    (hraised : ∀ k, k < 32 → bit (raised s.fpscr) k = (decide (k = 7) && signaling || decide (k = 12) && invalid)) :
    Completes (floatCompare s crfD a b raised) fun t =>
      crField t.cr crfD = fpCompare (s.f a) (s.f b) ∧
      (∀ n, n ≠ crfD → crField t.cr n = crField s.cr n) ∧ field t.fpscr 16 19 = crField t.cr crfD ∧
      bit t.fpscr 7 = (bit s.fpscr 7 || signaling) ∧ bit t.fpscr 12 = (bit s.fpscr 12 || invalid) ∧
      BitsKept s.fpscr t.fpscr 3 4 ∧ BitsKept s.fpscr t.fpscr 8 4 ∧ BitsKept s.fpscr t.fpscr 13 3 ∧
      BitsKept s.fpscr t.fpscr 21 11 ∧ FxFollows s t ∧ fpDerive t.fpscr = t.fpscr ∧ t.pc = s.pc + 4 ∧ MemoryKept s t ∧
      { t with cr := s.cr, fpscr := s.fpscr, pc := s.pc } = s := by
  obtain ⟨hf, h0, h1⟩ := hq
  have hword := fun k => bit_fpCompareWord s.fpscr (fpCompare (s.f a) (s.f b)) (raised s.fpscr) (k := k)
  have hkept : ∀ k, k < 32 → (3 ≤ k ∧ k < 16 ∨ 21 ≤ k) → k ≠ 7 ∧ k ≠ 12 →
      bit (fpCompareWord s.fpscr (fpCompare (s.f a) (s.f b)) (raised s.fpscr)) k = bit s.fpscr k := fun k hk h hne => by
    rw [hword k hk h, hraised k hk]
    simp [hne]
  have hcr := (s.setCrField_crField crfD crfD (fpCompare (s.f a) (s.f b))).trans (if_pos rfl)
  refine .of_next ((floatOnly_on hf _).trans (finishFloat_quiet h0 h1))
    ⟨hcr, fun n hn => (s.setCrField_crField crfD n _).trans (if_neg hn),
      (field_fpCompareWord _ _ _).trans hcr.symm, ?_, ?_, fun k _ _ => hkept k (by omega) (by omega) (by omega),
      fun k _ _ => hkept k (by omega) (by omega) (by omega), fun k _ _ => hkept k (by omega) (by omega) (by omega),
      fun k _ _ => hkept k (by omega) (by omega) (by omega), fx_fpCompareWord _ _ _, fpDerive_fpDerive _, rfl,
      fun _ => rfl, rfl⟩
  · refine (hword 7 (by omega) (by omega)).trans ?_
    rw [hraised 7 (by omega)]
    simp [exceptionPlaces]
  · refine (hword 12 (by omega) (by omega)).trans ?_
    rw [hraised 12 (by omega)]
    simp [exceptionPlaces]

/-- Settles O55: both compares are `floatCompare`, with the exceptions of their own. -/
theorem floatCompareResults : Obligations.FloatCompareResults := by
  intro crfD a b s i hq hi
  rcases hi with rfl | rfl
  · refine (floatCompare_completes hq crfD a b (raised := fun _ => unorderedCause (s.f a) (s.f b))
      (signaling := fpIsSignaling (s.f a) || fpIsSignaling (s.f b)) (invalid := false) fun k hk => ?_).imp ?_
    · rw [bit_unorderedCause _ _ hk, Bool.and_false, Bool.or_false]
    · have hne : decide (Instr.fcmpu crfD a b = .fcmpo crfD a b) = false := decide_eq_false Instr.noConfusion
      rw [hne]
      exact fun _ ht => ht
  · refine (floatCompare_completes hq crfD a b (raised := orderedCause (s.f a) (s.f b))
      fun k hk => bit_orderedCause _ _ _ hk).imp ?_
    rw [decide_eq_true rfl]
    exact fun _ ht => ht

end Sys2Proof.Machine
end

section
namespace Sys2Proof.Machine

/-! ## Exact values as rational numbers (43_floating_point.md R240, R242) -/

/-- The number that an exact fraction stands for. -/
def Exact.value (x : Exact) : Rat := (x.signed : Rat) / (x.den : Rat)

/-- The factor of a sign. -/
def signFactor (neg : Bool) : Rat := if neg then -1 else 1

theorem realOf_eq_value (v : Dword) : realOf v = (exactOf v).value := rfl

theorem powerOfTwo_eq (e : Int) : powerOfTwo e = (2 : Rat) ^ e := by
  unfold powerOfTwo
  split
  · rename_i h
    rw [← zpow_natCast, Int.toNat_of_nonneg h]
  · rename_i h
    rw [one_div, ← zpow_natCast, ← zpow_neg, Int.toNat_of_nonneg (by omega), neg_neg]

theorem magnitude_eq (x : Rat) : magnitude x = |x| := by
  unfold magnitude
  split
  · rename_i h
    exact (abs_of_neg h).symm
  · rename_i h
    exact (abs_of_nonneg (not_lt.mp h)).symm

theorem two_zpow_pos (e : Int) : (0 : Rat) < 2 ^ e := zpow_pos (by norm_num) e

theorem abs_signFactor (neg : Bool) : |signFactor neg| = 1 := by cases neg <;> simp [signFactor]

theorem abs_signFactor_mul (neg : Bool) {x : Rat} (hx : 0 ≤ x) : |signFactor neg * x| = x := by
  rw [abs_mul, abs_signFactor, one_mul, abs_of_nonneg hx]

/-- The size of an exact value. -/
def Exact.size (x : Exact) : Rat := (x.num : Rat) / (x.den : Rat)

theorem Exact.size_nonneg (x : Exact) : 0 ≤ x.size := by unfold Exact.size; positivity

theorem Exact.value_eq (x : Exact) : x.value = signFactor x.neg * x.size := by
  unfold Exact.value Exact.signed signFactor Exact.size
  cases x.neg <;> simp [neg_div]

theorem Exact.abs_value (x : Exact) : |x.value| = x.size := by
  rw [x.value_eq, abs_signFactor_mul _ x.size_nonneg]

theorem scaled_den_pos (neg : Bool) (m : Nat) (e : Int) : 0 < (scaled neg m e).den := by
  unfold scaled
  split
  · exact Nat.one_pos
  · exact Nat.two_pow_pos _

@[simp] theorem scaled_neg (neg : Bool) (m : Nat) (e : Int) : (scaled neg m e).neg = neg := by
  unfold scaled
  split <;> rfl

theorem scaled_size (neg : Bool) (m : Nat) (e : Int) : (scaled neg m e).size = m * (2 : Rat) ^ e := by
  unfold scaled Exact.size
  split
  · rename_i h
    obtain ⟨n, rfl⟩ := Int.eq_ofNat_of_zero_le h
    simp
  · rename_i h
    obtain ⟨n, hn⟩ := Int.eq_ofNat_of_zero_le (show 0 ≤ -e by omega)
    obtain rfl : e = -n := by omega
    simp [div_eq_mul_inv]

theorem scaled_value (neg : Bool) (m : Nat) (e : Int) : (scaled neg m e).value = signFactor neg * (m * (2 : Rat) ^ e) := by
  rw [Exact.value_eq, scaled_neg, scaled_size]

theorem Exact.shift_den_pos {x : Exact} (h : 0 < x.den) (q : Int) : 0 < (x.shift q).den := by
  unfold Exact.shift
  split
  · exact Nat.mul_pos h (Nat.two_pow_pos _)
  · exact h

theorem Exact.shift_size (x : Exact) (q : Int) : (x.shift q).size = x.size / (2 : Rat) ^ q := by
  unfold Exact.shift Exact.size
  split
  · rename_i h
    obtain ⟨n, rfl⟩ := Int.eq_ofNat_of_zero_le h
    simp [div_div]
  · rename_i h
    obtain ⟨n, hn⟩ := Int.eq_ofNat_of_zero_le (show 0 ≤ -q by omega)
    obtain rfl : q = -n := by omega
    simp [div_eq_mul_inv]
    ring

theorem Exact.num_ne_zero_iff {x : Exact} (h : 0 < x.den) : x.num ≠ 0 ↔ x.value ≠ 0 := by
  rw [← abs_ne_zero, x.abs_value, Exact.size, div_ne_zero_iff, Nat.cast_ne_zero, Nat.cast_ne_zero]
  exact ⟨fun hn => ⟨hn, h.ne'⟩, fun hn => hn.1⟩

/-! ### Exponents -/

theorem natCast_lt_two_zpow (n : Nat) : (n : Rat) < 2 ^ ((n.log2 : Int) + 1) := by
  have h : n < 2 ^ (n.log2 + 1) := Nat.lt_log2_self
  exact_mod_cast h

theorem two_zpow_le_natCast {n : Nat} (hn : n ≠ 0) : (2 : Rat) ^ (n.log2 : Int) ≤ n := by
  have h : 2 ^ n.log2 ≤ n := Nat.log2_self_le hn
  exact_mod_cast h

/-- The exponent of a nonzero exact value is the one of R242 (a). -/
theorem Exact.exponent_spec {x : Exact} (hn : x.num ≠ 0) (hd : 0 < x.den) :
    (2 : Rat) ^ x.exponent ≤ x.size ∧ x.size < 2 ^ (x.exponent + 1) := by
  have hdpos : (0 : Rat) < x.den := by exact_mod_cast hd
  have hlow : (2 : Rat) ^ ((x.num.log2 : Int) - x.den.log2 - 1) < x.size := by
    rw [Exact.size, lt_div_iff₀ hdpos]
    calc (2 : Rat) ^ ((x.num.log2 : Int) - x.den.log2 - 1) * x.den
        < 2 ^ ((x.num.log2 : Int) - x.den.log2 - 1) * 2 ^ ((x.den.log2 : Int) + 1) :=
          mul_lt_mul_of_pos_left (natCast_lt_two_zpow _) (two_zpow_pos _)
      _ = 2 ^ (x.num.log2 : Int) := by rw [← zpow_add₀ (by norm_num)]; congr 1; ring
      _ ≤ x.num := two_zpow_le_natCast hn
  have hhigh : x.size < (2 : Rat) ^ ((x.num.log2 : Int) - x.den.log2 + 1) := by
    rw [Exact.size, div_lt_iff₀ hdpos]
    calc (x.num : Rat) < 2 ^ ((x.num.log2 : Int) + 1) := natCast_lt_two_zpow _
      _ = 2 ^ ((x.num.log2 : Int) - x.den.log2 + 1) * 2 ^ (x.den.log2 : Int) := by
        rw [← zpow_add₀ (by norm_num)]; congr 1; ring
      _ ≤ _ := mul_le_mul_of_nonneg_left (two_zpow_le_natCast hd.ne') (two_zpow_pos _).le
  have hbelow : (x.shift ((x.num.log2 : Int) - x.den.log2)).num < (x.shift ((x.num.log2 : Int) - x.den.log2)).den ↔
      x.size < 2 ^ ((x.num.log2 : Int) - x.den.log2) := by
    have hsize := x.shift_size ((x.num.log2 : Int) - x.den.log2)
    have hpos : (0 : Rat) < (x.shift ((x.num.log2 : Int) - x.den.log2)).den := by exact_mod_cast Exact.shift_den_pos hd _
    rw [← div_lt_one (two_zpow_pos _), ← hsize, Exact.size, div_lt_one hpos, Nat.cast_lt]
  simp only [Exact.exponent]
  split
  · rename_i h
    exact ⟨hlow.le, by rw [sub_add_cancel]; exact hbelow.mp h⟩
  · rename_i h
    exact ⟨not_lt.mp fun hlt => h (hbelow.mpr hlt), hhigh⟩

theorem exponent_unique {a b : Int} {x : Rat} (ha : (2 : Rat) ^ a ≤ x) (ha' : x < 2 ^ (a + 1)) (hb : (2 : Rat) ^ b ≤ x)
    (hb' : x < 2 ^ (b + 1)) : a = b := by
  have h1 : a < b + 1 := (zpow_lt_zpow_iff_right₀ (by norm_num)).mp (ha.trans_lt hb')
  have h2 : b < a + 1 := (zpow_lt_zpow_iff_right₀ (by norm_num)).mp (hb.trans_lt ha')
  omega

/-! ### Rounding (R242 a, b) -/

/-- Whether the magnitude grows in the mode `rn`, by the quotient `low` and the rest of the shifted fraction. -/
def roundsUp (rn : BitVec 2) (neg : Bool) (low rest den : Nat) : Bool :=
  if rn = 0 then decide (den < 2 * rest) || (2 * rest == den && low % 2 == 1)
  else if rn = 1 then false
  else if rn = 2 then !neg && rest != 0
  else neg && rest != 0

theorem Exact.roundTo_eq (x : Exact) (q : Int) (rn : BitVec 2) :
    x.roundTo q rn =
      let y := x.shift q
      let up := roundsUp rn x.neg (y.num / y.den) (y.num % y.den) y.den
      ⟨y.num / y.den + up.toNat, y.num % y.den != 0, up⟩ := rfl

theorem roundsUp_nearest (neg : Bool) (low rest den : Nat) :
    roundsUp 0 neg low rest den = true ↔ den < 2 * rest ∨ (2 * rest = den ∧ low % 2 = 1) := by
  simp [roundsUp]

theorem roundsUp_zero (neg : Bool) (low rest den : Nat) : roundsUp 1 neg low rest den = false := rfl

theorem roundsUp_above (neg : Bool) (low rest den : Nat) :
    roundsUp 2 neg low rest den = true ↔ neg = false ∧ rest ≠ 0 := by
  simp [roundsUp]

theorem roundsUp_below (neg : Bool) (low rest den : Nat) :
    roundsUp 3 neg low rest den = true ↔ neg = true ∧ rest ≠ 0 := by
  simp [roundsUp]

/-- The four modes. -/
theorem mode_cases (rn : BitVec 2) : rn = 0 ∨ rn = 1 ∨ rn = 2 ∨ rn = 3 := by
  revert rn
  decide

/-- Without a rest nothing is added. -/
theorem rest_ne_zero_of_roundsUp {rn : BitVec 2} {neg : Bool} {low rest den : Nat} (hd : 0 < den)
    (h : roundsUp rn neg low rest den = true) : rest ≠ 0 := by
  rcases mode_cases rn with rfl | rfl | rfl | rfl
  · rw [roundsUp_nearest] at h
    omega
  · rw [roundsUp_zero] at h
    cases h
  · exact ((roundsUp_above ..).mp h).2
  · exact ((roundsUp_below ..).mp h).2

/-- The significand of a rounding is the fraction `num / den` rounded in the mode `rn`; `product` is the significand times
`den` (R242 a). -/
structure IsRounding (num den product : Nat) (neg : Bool) (rn : BitVec 2) (r : Rounded) : Prop where
  below : product < num + den
  above : num < product + den
  inexact : r.inexact = true ↔ product ≠ num
  incremented : r.incremented = true ↔ num < product
  nearest : rn = 0 → 2 * product ≤ 2 * num + den ∧ 2 * num ≤ 2 * product + den
  even : rn = 0 → 2 * product = 2 * num + den ∨ 2 * num = 2 * product + den → r.significand % 2 = 0
  towardZero : rn = 1 → product ≤ num
  towardAbove : rn = 2 → if neg then product ≤ num else num ≤ product
  towardBelow : rn = 3 → if neg then num ≤ product else product ≤ num

/-- The quotient where the magnitude does not grow: `num = product + rest`. -/
theorem isRounding_down {num den product rest low : Nat} {neg : Bool} {rn : BitVec 2} (hp : num = product + rest)
    (hlt : rest < den) (hup : roundsUp rn neg low rest den = false) :
    IsRounding num den product neg rn ⟨low, rest != 0, false⟩ := by
  have hzero : (rest != 0) = true ↔ rest ≠ 0 := bne_iff_ne
  rw [← Bool.not_eq_true] at hup
  refine ⟨by omega, by omega, hzero.trans (by omega), by simp; omega, ?_, ?_, by omega, ?_, ?_⟩ <;> rintro rfl
  · rw [roundsUp_nearest] at hup
    omega
  · rw [roundsUp_nearest] at hup
    change _ → low % 2 = 0
    omega
  · rw [roundsUp_above] at hup
    cases neg
    · simp only [true_and, not_not] at hup
      exact (by omega : num ≤ product)
    · exact (by omega : product ≤ num)
  · rw [roundsUp_below] at hup
    cases neg
    · exact (by omega : product ≤ num)
    · simp only [true_and, not_not] at hup
      exact (by omega : num ≤ product)

/-- The next number where the magnitude grows: `num + den = product + rest`. -/
theorem isRounding_up {num den product rest low : Nat} {neg : Bool} {rn : BitVec 2} (hp : num + den = product + rest)
    (hlt : rest < den) (hup : roundsUp rn neg low rest den = true) :
    IsRounding num den product neg rn ⟨low + 1, rest != 0, true⟩ := by
  have hzero : (rest != 0) = true ↔ rest ≠ 0 := bne_iff_ne
  have hne := rest_ne_zero_of_roundsUp (by omega) hup
  refine ⟨by omega, by omega, hzero.trans (by omega), by simp; omega, ?_, ?_, ?_, ?_, ?_⟩ <;> rintro rfl
  · rw [roundsUp_nearest] at hup
    omega
  · rw [roundsUp_nearest] at hup
    change _ → (low + 1) % 2 = 0
    omega
  · rw [roundsUp_zero] at hup
    cases hup
  · obtain ⟨rfl, _⟩ := (roundsUp_above ..).mp hup
    exact (by omega : num ≤ product)
  · obtain ⟨rfl, _⟩ := (roundsUp_below ..).mp hup
    exact (by omega : num ≤ product)

theorem Exact.roundTo_isRounding {x : Exact} (hd : 0 < x.den) (q : Int) (rn : BitVec 2) :
    IsRounding (x.shift q).num (x.shift q).den ((x.roundTo q rn).significand * (x.shift q).den) x.neg rn
      (x.roundTo q rn) := by
  have hlt := Nat.mod_lt (x.shift q).num (Exact.shift_den_pos hd q)
  have hdiv := Nat.div_add_mod' (x.shift q).num (x.shift q).den
  rw [Exact.roundTo_eq]
  dsimp only
  cases hup : roundsUp rn x.neg ((x.shift q).num / (x.shift q).den) ((x.shift q).num % (x.shift q).den) (x.shift q).den
  · exact isRounding_down hdiv.symm hlt hup
  · refine isRounding_up ?_ hlt hup
    rw [Bool.toNat_true, Nat.succ_mul]
    omega

/-- Settles O52: the rounded fraction is the quotient, or the next number where the mode says so, and the rest decides. -/
theorem roundingPicksTheRightNeighbour : Obligations.RoundingPicksTheRightNeighbour := by
  intro x q rn hd y r
  have h : IsRounding y.num y.den (r.significand * y.den) x.neg rn r := x.roundTo_isRounding hd q rn
  refine ⟨⟨h.below, (Nat.succ_mul r.significand y.den).symm ▸ h.above⟩, h.inexact, h.incremented, fun hm => ?_,
    h.towardZero, h.towardAbove, h.towardBelow⟩
  have hnear := h.nearest hm
  have heven := h.even hm
  rw [← Nat.cast_mul]
  omega

end Sys2Proof.Machine
end

section
namespace Sys2Proof.Machine

/-! ### Rounding in terms of rational numbers -/

/-- The scale of a rounding: the exact size, the rounded size and the unit are the numerator, the significand's product and
the denominator of the shifted fraction times one positive number. -/
theorem Exact.roundTo_scale {x : Exact} (hd : 0 < x.den) (q : Int) (rn : BitVec 2) :
    ∃ k : Rat, 0 < k ∧ x.size = (x.shift q).num * k ∧ (2 : Rat) ^ q = (x.shift q).den * k ∧
      ((x.roundTo q rn).significand : Rat) * 2 ^ q = ((x.roundTo q rn).significand * (x.shift q).den : Nat) * k := by
  have hden : (0 : Rat) < (x.shift q).den := by exact_mod_cast Exact.shift_den_pos hd q
  have hunit : (2 : Rat) ^ q = (x.shift q).den * (2 ^ q / (x.shift q).den) := by field_simp
  refine ⟨2 ^ q / (x.shift q).den, div_pos (two_zpow_pos q) hden, ?_, hunit, ?_⟩
  · have hsize := x.shift_size q
    rw [eq_div_iff (two_zpow_pos q).ne', Exact.size] at hsize
    rw [← hsize]
    ring
  · rw [Nat.cast_mul, mul_assoc, ← hunit]

section
variable {x : Exact} (hd : 0 < x.den) (q : Int) (rn : BitVec 2)
include hd

/-- A rounding is inexact where it differs from the exact size (43_floating_point.md R242 c). -/
theorem Exact.roundTo_inexact_iff :
    (x.roundTo q rn).inexact = true ↔ ((x.roundTo q rn).significand : Rat) * 2 ^ q ≠ x.size := by
  obtain ⟨k, hk, hsize, _, hround⟩ := x.roundTo_scale hd q rn
  rw [hround, hsize, (x.roundTo_isRounding hd q rn).inexact, ne_eq, ne_eq, mul_left_inj' hk.ne', Nat.cast_inj]

theorem Exact.roundTo_incremented_iff :
    (x.roundTo q rn).incremented = true ↔ x.size < ((x.roundTo q rn).significand : Rat) * 2 ^ q := by
  obtain ⟨k, hk, hsize, _, hround⟩ := x.roundTo_scale hd q rn
  rw [hround, hsize, (x.roundTo_isRounding hd q rn).incremented, mul_lt_mul_iff_left₀ hk, Nat.cast_lt]

/-- The rounded size lies less than one unit from the exact one. -/
theorem Exact.roundTo_near :
    ((x.roundTo q rn).significand : Rat) * 2 ^ q < x.size + 2 ^ q ∧
      x.size < ((x.roundTo q rn).significand : Rat) * 2 ^ q + 2 ^ q := by
  obtain ⟨k, hk, hsize, hunit, hround⟩ := x.roundTo_scale hd q rn
  have h := x.roundTo_isRounding hd q rn
  rw [hround, hsize, hunit, ← add_mul, ← add_mul]
  exact ⟨mul_lt_mul_of_pos_right (by exact_mod_cast h.below) hk, mul_lt_mul_of_pos_right (by exact_mod_cast h.above) hk⟩

/-- The size in each mode, the sign given: the nearest multiple of the unit, the even one of two; the one below; the one on
the mode's side. -/
theorem Exact.roundTo_modes :
    let rounded := ((x.roundTo q rn).significand : Rat) * 2 ^ q
    (rn = 0 → 2 * |rounded - x.size| ≤ 2 ^ q ∧
      (2 * |rounded - x.size| = 2 ^ q → (x.roundTo q rn).significand % 2 = 0)) ∧
    (rn = 1 → rounded ≤ x.size) ∧
    (rn = 2 → if x.neg then rounded ≤ x.size else x.size ≤ rounded) ∧
    (rn = 3 → if x.neg then x.size ≤ rounded else rounded ≤ x.size) := by
  obtain ⟨k, hk, hsize, hunit, hround⟩ := x.roundTo_scale hd q rn
  have h := x.roundTo_isRounding hd q rn
  dsimp only
  rw [hround, hsize, hunit]
  generalize (x.roundTo q rn).significand * (x.shift q).den = product at h
  generalize (x.shift q).num = num, (x.shift q).den = den at h
  have hle : ∀ {a b : Nat}, a ≤ b → (a : Rat) * k ≤ b * k := fun hab =>
    mul_le_mul_of_nonneg_right (by exact_mod_cast hab) hk.le
  have habs : |(product : Rat) * k - num * k| = |(product : Rat) - num| * k := by
    rw [← sub_mul, abs_mul, abs_of_pos hk]
  refine ⟨fun hm => ?_, fun hm => hle (h.towardZero hm), fun hm => ?_, fun hm => ?_⟩
  · obtain ⟨hlow, hhigh⟩ := h.nearest hm
    have hlow' : (2 : Rat) * product ≤ 2 * num + den := by exact_mod_cast hlow
    have hhigh' : (2 : Rat) * num ≤ 2 * product + den := by exact_mod_cast hhigh
    rw [habs, ← mul_assoc, mul_left_inj' hk.ne']
    refine ⟨mul_le_mul_of_nonneg_right ?_ hk.le, fun heq => h.even hm ?_⟩
    · rcases abs_cases ((product : Rat) - num) with ⟨ha, _⟩ | ⟨ha, _⟩ <;> rw [ha] <;> linarith
    · rcases abs_cases ((product : Rat) - num) with ⟨ha, _⟩ | ⟨ha, _⟩ <;> rw [ha] at heq
      · exact .inl (by exact_mod_cast (by linarith : (2 : Rat) * product = 2 * num + den))
      · exact .inr (by exact_mod_cast (by linarith : (2 : Rat) * num = 2 * product + den))
  · have hside := h.towardAbove hm
    cases hneg : x.neg <;> rw [hneg] at hside <;> exact hle hside
  · have hside := h.towardBelow hm
    cases hneg : x.neg <;> rw [hneg] at hside <;> exact hle hside

/-- The rounded value, its sign given back, is the exact value rounded as R242 (a) says. -/
theorem Exact.roundTo_roundsTo :
    RoundsTo (powerOfTwo q) rn x.value (signFactor x.neg * (((x.roundTo q rn).significand : Rat) * 2 ^ q)) := by
  obtain ⟨hnearest, hzero, habove, hbelow⟩ := x.roundTo_modes hd q rn
  obtain ⟨hlt, hgt⟩ := x.roundTo_near hd q rn
  have hnonneg : 0 ≤ ((x.roundTo q rn).significand : Rat) * 2 ^ q := by positivity
  have hsize := x.size_nonneg
  have hunit := two_zpow_pos q
  rw [powerOfTwo_eq]
  refine ⟨if x.neg then -((x.roundTo q rn).significand : Int) else (x.roundTo q rn).significand, ?_, fun hm => ?_,
    fun hm => ?_, fun hm => ?_, fun hm => ?_⟩
  · unfold signFactor
    split <;> push_cast <;> ring
  · obtain ⟨hnear, heven⟩ := hnearest hm
    rw [magnitude_eq, x.value_eq, ← mul_sub, abs_mul, abs_signFactor, one_mul]
    refine ⟨hnear, fun h => ?_⟩
    have hpar := heven h
    split <;> omega
  · have := hzero hm
    rw [magnitude_eq, magnitude_eq, x.abs_value, abs_signFactor_mul _ hnonneg, x.value_eq]
    refine ⟨this, hgt, ?_⟩
    have hsq : signFactor x.neg * signFactor x.neg = 1 := by cases x.neg <;> norm_num [signFactor]
    calc (0 : Rat) ≤ x.size * (((x.roundTo q rn).significand : Rat) * 2 ^ q) := mul_nonneg hsize hnonneg
      _ = signFactor x.neg * signFactor x.neg * (x.size * (((x.roundTo q rn).significand : Rat) * 2 ^ q)) := by
        rw [hsq, one_mul]
      _ = _ := by ring
  · have hmode := habove hm
    rw [x.value_eq, signFactor]
    cases hneg : x.neg
    · rw [hneg] at hmode
      exact ⟨by simpa using hmode, by simpa using hlt⟩
    · rw [hneg] at hmode
      have : ((x.roundTo q rn).significand : Rat) * 2 ^ q ≤ x.size := hmode
      exact ⟨by rw [if_pos rfl]; linarith, by rw [if_pos rfl]; linarith⟩
  · have hmode := hbelow hm
    rw [x.value_eq, signFactor]
    cases hneg : x.neg
    · rw [hneg] at hmode
      exact ⟨by simpa using hmode, by simpa using hgt⟩
    · rw [hneg] at hmode
      have : x.size ≤ ((x.roundTo q rn).significand : Rat) * 2 ^ q := hmode
      exact ⟨by rw [if_pos rfl]; linarith, by rw [if_pos rfl]; linarith⟩

end

end Sys2Proof.Machine
end

section
namespace Sys2Proof.Machine

/-! ## Doubles and their fields (43_floating_point.md R240) -/

/-- The double with these fields. -/
def doubleWord (neg : Bool) (exponent fraction : Nat) : Dword :=
  BitVec.ofNat 64 (signBits neg + exponent * 2 ^ 52 + fraction)

theorem bit_zero_dword (v : Dword) : bit v 0 = decide (2 ^ 63 ≤ v.toNat) := by
  have hmsb : bit v 0 = v.msb := by simp [bit, BitVec.msb]
  rw [hmsb, BitVec.msb_eq_decide]

theorem fpSign_eq (v : Dword) : (fpSign v).toNat = v.toNat / 2 ^ 63 := by
  have hlt := v.isLt
  rw [fpSign, bit_zero_dword]
  by_cases h : 2 ^ 63 ≤ v.toNat
  · rw [decide_eq_true h, Bool.toNat_true]
    omega
  · rw [decide_eq_false h, Bool.toNat_false]
    omega

theorem fpExponent_lt (v : Dword) : fpExponent v < 2048 := Nat.mod_lt _ (by omega)

theorem fpFraction_lt (v : Dword) : fpFraction v < 2 ^ 52 := Nat.mod_lt _ (by omega)

/-- A double is the number that its fields make. -/
theorem toNat_eq_fields (v : Dword) :
    v.toNat = (fpSign v).toNat * 2 ^ 63 + fpExponent v * 2 ^ 52 + fpFraction v := by
  have hlt := v.isLt
  rw [fpSign_eq, fpExponent, fpFraction]
  omega

theorem doubleWord_fields (v : Dword) : doubleWord (fpSign v) (fpExponent v) (fpFraction v) = v := by
  rw [doubleWord, signBits, ← toNat_eq_fields, BitVec.ofNat_toNat, BitVec.setWidth_eq]

/-- Doubles with the same fields are equal. -/
theorem dword_ext {v w : Dword} (hs : fpSign v = fpSign w) (he : fpExponent v = fpExponent w)
    (hf : fpFraction v = fpFraction w) : v = w := by
  rw [← doubleWord_fields v, hs, he, hf, doubleWord_fields]

section
variable {neg : Bool} {e f : Nat} (he : e < 2048) (hf : f < 2 ^ 52)
include he hf

theorem toNat_doubleWord : (doubleWord neg e f).toNat = neg.toNat * 2 ^ 63 + e * 2 ^ 52 + f := by
  have hneg : neg.toNat ≤ 1 := Bool.toNat_le neg
  rw [doubleWord, BitVec.toNat_ofNat, signBits]
  exact Nat.mod_eq_of_lt (by omega)

theorem fpSign_doubleWord : fpSign (doubleWord neg e f) = neg := by
  have hsign : (fpSign (doubleWord neg e f)).toNat = neg.toNat := by
    rw [fpSign_eq, toNat_doubleWord he hf]
    omega
  have hinj : ∀ a b : Bool, a.toNat = b.toNat → a = b := by decide
  exact hinj _ _ hsign

theorem fpExponent_doubleWord : fpExponent (doubleWord neg e f) = e := by
  have hneg : neg.toNat ≤ 1 := Bool.toNat_le neg
  rw [fpExponent, toNat_doubleWord he hf]
  omega

theorem fpFraction_doubleWord : fpFraction (doubleWord neg e f) = f := by
  rw [fpFraction, toNat_doubleWord he hf]
  omega

end

theorem infinityOf_eq (neg : Bool) : infinityOf neg = doubleWord neg 2047 0 := by
  rw [infinityOf, doubleWord, Nat.add_zero]

theorem zeroOf_eq (neg : Bool) : zeroOf neg = doubleWord neg 0 0 := by
  rw [zeroOf, doubleWord, Nat.zero_mul, Nat.add_zero]

theorem isNaN_iff (v : Dword) : fpIsNaN v = true ↔ fpExponent v = 2047 ∧ fpFraction v ≠ 0 := by
  simp [fpIsNaN]

theorem isInf_iff (v : Dword) : fpIsInf v = true ↔ fpExponent v = 2047 ∧ fpFraction v = 0 := by
  simp [fpIsInf]

theorem isZero_iff (v : Dword) : fpIsZero v = true ↔ fpExponent v = 0 ∧ fpFraction v = 0 := by
  simp [fpIsZero]

/-- A finite double: no NaN and no infinity. -/
theorem finite_iff (v : Dword) : fpIsNaN v = false ∧ fpIsInf v = false ↔ fpExponent v < 2047 := by
  have hlt := fpExponent_lt v
  rw [← Bool.not_eq_true, ← Bool.not_eq_true, isNaN_iff, isInf_iff]
  by_cases h : fpExponent v = 2047 <;> by_cases hf : fpFraction v = 0 <;> simp [h, hf] <;> omega

theorem isInf_eq {v : Dword} (h : fpIsInf v = true) : v = infinityOf (fpSign v) := by
  obtain ⟨he, hf⟩ := (isInf_iff v).mp h
  have hv := doubleWord_fields v
  rw [he, hf] at hv
  rw [infinityOf_eq, hv]

theorem isZero_eq {v : Dword} (h : fpIsZero v = true) : v = zeroOf (fpSign v) := by
  obtain ⟨he, hf⟩ := (isZero_iff v).mp h
  have hv := doubleWord_fields v
  rw [he, hf] at hv
  rw [zeroOf_eq, hv]

/-! ### The sign bit inverted -/

theorem fpSign_negate (v : Dword) : fpSign (fpNegate v) = !fpSign v := by
  have hmask : bit ((1 : Dword) <<< 63) 0 = true := by decide
  have hxor : bit (fpNegate v) 0 = (bit v 0 ^^ bit ((1 : Dword) <<< 63) 0) := by simp [fpNegate, bit]
  rw [fpSign, hxor, hmask, Bool.xor_true, fpSign]

/-- The bits below the sign stay. -/
theorem fpNegate_mod (v : Dword) : (fpNegate v).toNat % 2 ^ 63 = v.toNat % 2 ^ 63 := by
  have hmask : ((1 : Dword) <<< 63).toNat % 2 ^ 63 = 0 := by decide
  rw [fpNegate, BitVec.toNat_xor, Nat.xor_mod_two_pow, hmask, Nat.xor_zero]

theorem fpExponent_negate (v : Dword) : fpExponent (fpNegate v) = fpExponent v := by
  have hmod := fpNegate_mod v
  rw [fpExponent, fpExponent]
  omega

theorem fpFraction_negate (v : Dword) : fpFraction (fpNegate v) = fpFraction v := by
  have hmod := fpNegate_mod v
  rw [fpFraction, fpFraction]
  omega

theorem fpNegate_doubleWord {e f : Nat} (neg : Bool) (he : e < 2048) (hf : f < 2 ^ 52) :
    fpNegate (doubleWord neg e f) = doubleWord (!neg) e f := by
  refine dword_ext ?_ ?_ ?_
  · rw [fpSign_negate, fpSign_doubleWord he hf, fpSign_doubleWord he hf]
  · rw [fpExponent_negate, fpExponent_doubleWord he hf, fpExponent_doubleWord he hf]
  · rw [fpFraction_negate, fpFraction_doubleWord he hf, fpFraction_doubleWord he hf]

/-- Every class but the sign is that of the number negated. -/
theorem class_negate (v : Dword) :
    fpIsNaN (fpNegate v) = fpIsNaN v ∧ fpIsInf (fpNegate v) = fpIsInf v ∧ fpIsZero (fpNegate v) = fpIsZero v ∧
      ∀ fmt, classIn fmt (fpNegate v) = classIn fmt v := by
  have he := fpExponent_negate v
  have hf := fpFraction_negate v
  have hnan : fpIsNaN (fpNegate v) = fpIsNaN v := by rw [fpIsNaN, he, hf, fpIsNaN]
  have hinf : fpIsInf (fpNegate v) = fpIsInf v := by rw [fpIsInf, he, hf, fpIsInf]
  have hzero : fpIsZero (fpNegate v) = fpIsZero v := by rw [fpIsZero, he, hf, fpIsZero]
  exact ⟨hnan, hinf, hzero, fun fmt => by rw [classIn, hnan, hinf, hzero, he, classIn]⟩

theorem fpSignificand_negate (v : Dword) : fpSignificand (fpNegate v) = fpSignificand v := by
  rw [fpSignificand, fpExponent_negate, fpFraction_negate, fpSignificand]

theorem fpScale_negate (v : Dword) : fpScale (fpNegate v) = fpScale v := by
  rw [fpScale, fpExponent_negate, fpScale]

/-! ## The number that a double stands for -/

theorem two_pow_mul_two_zpow (n : Nat) (e : Int) : (2 : Rat) ^ n * 2 ^ e = 2 ^ ((n : Int) + e) := by
  rw [zpow_add₀ (by norm_num), zpow_natCast]

theorem realOf_eq (v : Dword) :
    realOf v = signFactor (fpSign v) * ((fpSignificand v : Rat) * 2 ^ fpScale v) := by
  rw [realOf_eq_value, exactOf, scaled_value]


theorem realOf_negate (v : Dword) : realOf (fpNegate v) = -realOf v := by
  rw [realOf_eq, realOf_eq, fpSign_negate, fpSignificand_negate, fpScale_negate]
  cases fpSign v <;> simp [signFactor]

/-- The size of a double. -/
theorem abs_realOf (v : Dword) : |realOf v| = (fpSignificand v : Rat) * 2 ^ fpScale v := by
  rw [realOf_eq, abs_signFactor_mul _ (by positivity)]

theorem significand_lt (v : Dword) : fpSignificand v < 2 ^ 53 := by
  have hf := fpFraction_lt v
  unfold fpSignificand
  split <;> omega

/-- The significand is normalized, or the scale is the smallest. -/
theorem significand_normalized (v : Dword) : 2 ^ 52 ≤ fpSignificand v ∨ fpScale v = -1074 := by
  unfold fpSignificand fpScale
  split
  · exact .inr rfl
  · exact .inl (by omega)

theorem scale_ge (v : Dword) : -1074 ≤ fpScale v := by
  unfold fpScale
  split <;> omega

/-- A normalized double is larger than any double of a smaller scale. -/
theorem abs_realOf_lt_of_scale {v w : Dword} (h : fpScale v < fpScale w) : |realOf v| < |realOf w| := by
  have hnorm : 2 ^ 52 ≤ fpSignificand w := (significand_normalized w).resolve_right (by have := scale_ge v; omega)
  have hbig : (2 : Rat) ^ 52 ≤ fpSignificand w := by exact_mod_cast hnorm
  have hsmall : (fpSignificand v : Rat) < 2 ^ 53 := by exact_mod_cast significand_lt v
  rw [abs_realOf, abs_realOf]
  calc (fpSignificand v : Rat) * 2 ^ fpScale v < 2 ^ 53 * 2 ^ fpScale v :=
        mul_lt_mul_of_pos_right hsmall (two_zpow_pos _)
    _ = 2 ^ 52 * 2 ^ (fpScale v + 1) := by rw [zpow_add_one₀ (by norm_num)]; ring
    _ ≤ 2 ^ 52 * 2 ^ fpScale w := mul_le_mul_of_nonneg_left (zpow_le_zpow_right₀ (by norm_num) h) (by norm_num)
    _ ≤ fpSignificand w * 2 ^ fpScale w := mul_le_mul_of_nonneg_right hbig (two_zpow_pos _).le

/-- Fields from significand and scale. -/
theorem fields_of_significand {v w : Dword} (hm : fpSignificand v = fpSignificand w) (hq : fpScale v = fpScale w) :
    fpExponent v = fpExponent w ∧ fpFraction v = fpFraction w := by
  have hv := fpFraction_lt v
  have hw := fpFraction_lt w
  unfold fpSignificand at hm
  unfold fpScale at hq
  split at hm <;> split at hm <;> rename_i h1 h2 <;> simp only [h1, h2, if_true, if_false] at hq <;> omega

theorem signFactor_injective {a b : Bool} {x y : Rat} (hx : 0 < x) (hy : 0 < y)
    (h : signFactor a * x = signFactor b * y) : a = b := by
  cases a <;> cases b <;> simp only [signFactor, Bool.false_eq_true, if_true, if_false] at h
  · rfl
  · exfalso; linarith
  · exfalso; linarith
  · rfl

/-- Two doubles that stand for the same number other than zero are the same. -/
theorem realOf_injective {v w : Dword} (h : realOf v = realOf w) (hne : realOf v ≠ 0) : v = w := by
  have hsize : |realOf v| = |realOf w| := by rw [h]
  have hscale : fpScale v = fpScale w := by
    rcases lt_trichotomy (fpScale v) (fpScale w) with hlt | heq | hgt
    · exact absurd hsize (abs_realOf_lt_of_scale hlt).ne
    · exact heq
    · exact absurd hsize (abs_realOf_lt_of_scale hgt).ne'
  have hsig : fpSignificand v = fpSignificand w := by
    rw [abs_realOf, abs_realOf, hscale, mul_left_inj' (two_zpow_pos _).ne', Nat.cast_inj] at hsize
    exact hsize
  obtain ⟨he, hf⟩ := fields_of_significand hsig hscale
  have hpos : 0 < |realOf v| := abs_pos.mpr hne
  have hsign : fpSign v = fpSign w := by
    rw [abs_realOf] at hpos
    refine signFactor_injective hpos (hscale ▸ hsig ▸ hpos) ?_
    rw [← realOf_eq, ← realOf_eq, h]
  exact dword_ext hsign he hf

theorem realOf_eq_zero_iff (v : Dword) : realOf v = 0 ↔ fpIsZero v = true := by
  rw [← abs_eq_zero, abs_realOf, mul_eq_zero, or_iff_left (two_zpow_pos _).ne', Nat.cast_eq_zero, isZero_iff,
    fpSignificand]
  split
  · rename_i he
    exact ⟨fun h => ⟨he, h⟩, fun h => h.2⟩
  · rename_i he
    exact ⟨fun h => by omega, fun h => absurd h.1 he⟩

theorem fpSign_of_realOf {v : Dword} (hne : realOf v ≠ 0) : fpSign v = decide (realOf v < 0) := by
  have hpos : 0 < |realOf v| := abs_pos.mpr hne
  rw [abs_realOf] at hpos
  rw [realOf_eq]
  cases fpSign v <;> simp [signFactor] <;> linarith

/-- A finite double is smaller than `2^1024`, and one with the largest exponent is not. -/
theorem abs_realOf_lt_iff (v : Dword) : |realOf v| < 2 ^ (1024 : Int) ↔ fpExponent v < 2047 := by
  have hlt := fpExponent_lt v
  have hsig : (fpSignificand v : Rat) < 2 ^ 53 := by exact_mod_cast significand_lt v
  rw [abs_realOf]
  constructor
  · intro h
    by_contra hge
    have he : fpExponent v = 2047 := by omega
    have hbig : (2 : Rat) ^ 52 ≤ fpSignificand v := by
      have : 2 ^ 52 ≤ fpSignificand v := by
        unfold fpSignificand
        split <;> omega
      exact_mod_cast this
    have hscale : fpScale v = 972 := by
      unfold fpScale
      split <;> omega
    have hle := mul_le_mul_of_nonneg_right hbig (two_zpow_pos (fpScale v)).le
    rw [hscale] at h hle
    exact absurd ((two_pow_mul_two_zpow 52 972).symm.le.trans hle) (not_le.mpr h)
  · intro h
    have hscale : fpScale v ≤ 971 := by
      unfold fpScale
      split <;> omega
    calc (fpSignificand v : Rat) * 2 ^ fpScale v < 2 ^ 53 * 2 ^ fpScale v :=
          mul_lt_mul_of_pos_right hsig (two_zpow_pos _)
      _ ≤ 2 ^ 53 * 2 ^ (971 : Int) := mul_le_mul_of_nonneg_left (zpow_le_zpow_right₀ (by norm_num) hscale) (by norm_num)
      _ = 2 ^ (1024 : Int) := two_pow_mul_two_zpow 53 971

end Sys2Proof.Machine
end

section
namespace Sys2Proof.Machine

/-! ## Packing a double (R240 b, R398) -/

theorem packDouble_zero (neg : Bool) (q : Int) : packDouble neg 0 q = zeroOf neg := rfl

/-- The whole number that a scaled value stands for. -/
theorem scaled_quotient {neg : Bool} {m n : Nat} {e : Int} (h : (m : Rat) * 2 ^ e = n) :
    (scaled neg m e).num / (scaled neg m e).den = n := by
  have hden := scaled_den_pos neg m e
  have hsize : ((scaled neg m e).num : Rat) / (scaled neg m e).den = n := (scaled_size neg m e).trans h
  rw [div_eq_iff (by exact_mod_cast hden.ne')] at hsize
  have hnum : (scaled neg m e).num = n * (scaled neg m e).den := by exact_mod_cast hsize
  rw [hnum, Nat.mul_div_cancel _ hden]

/-- A significand and a scale whose double is exact: the significand has at most 53 bits, the number is in range, and it is
a multiple of the smallest denormal (R240 b). -/
structure Packable (m : Nat) (q : Int) : Prop where
  bits : m ≤ 2 ^ 53
  range : (m : Rat) * 2 ^ q < 2 ^ (1024 : Int)
  unit : -1074 ≤ q ∨ (2 : Rat) ^ (-1022 : Int) ≤ m * 2 ^ q

theorem log2_le_of_bits {m : Nat} (hm : m ≠ 0) (h : m ≤ 2 ^ 53) : m.log2 ≤ 53 :=
  (Nat.pow_le_pow_iff_right (by omega)).mp ((Nat.log2_self_le hm).trans h)

theorem Packable.top {m : Nat} {q : Int} (hm : m ≠ 0) (h : Packable m q) : (m.log2 : Int) + q < 1024 := by
  have hlt := (mul_le_mul_of_nonneg_right (two_zpow_le_natCast hm) (two_zpow_pos q).le).trans_lt h.range
  rwa [← zpow_add₀ (by norm_num), zpow_lt_zpow_iff_right₀ (by norm_num)] at hlt

/-- A number below the normalized range is a multiple of the smallest denormal. -/
theorem Packable.scale {m : Nat} {q : Int} (h : Packable m q) (hlow : (m.log2 : Int) + q < -1022) : -1074 ≤ q := by
  refine h.unit.resolve_right fun hle => ?_
  have hlt := hle.trans_lt (mul_lt_mul_of_pos_right (natCast_lt_two_zpow m) (two_zpow_pos q))
  rw [← zpow_add₀ (by norm_num), zpow_lt_zpow_iff_right₀ (by norm_num)] at hlt
  omega

/-- A significand of at most 53 bits, shifted so that it has 53. -/
theorem exists_normalized {m : Nat} (hm : m ≠ 0) (h : m ≤ 2 ^ 53) :
    ∃ n : Nat, (m : Rat) * 2 ^ (52 - (m.log2 : Int)) = n ∧ 2 ^ 52 ≤ n ∧ n < 2 ^ 53 := by
  have hn : ∃ n : Nat, (m : Rat) * 2 ^ (52 - (m.log2 : Int)) = n := by
    rcases Nat.lt_or_eq_of_le (log2_le_of_bits hm h) with hlt | heq
    · refine ⟨m * 2 ^ (52 - m.log2), ?_⟩
      rw [Nat.cast_mul, Nat.cast_pow, ← zpow_natCast, Nat.cast_sub (by omega)]
      rfl
    · refine ⟨2 ^ 52, ?_⟩
      obtain rfl : m = 2 ^ 53 := le_antisymm h (heq ▸ Nat.log2_self_le hm)
      rw [heq]
      norm_num
  obtain ⟨n, hn⟩ := hn
  have hlow := mul_le_mul_of_nonneg_right (two_zpow_le_natCast hm) (two_zpow_pos (52 - (m.log2 : Int))).le
  have hhigh := mul_lt_mul_of_pos_right (natCast_lt_two_zpow m) (two_zpow_pos (52 - (m.log2 : Int)))
  rw [← zpow_add₀ (by norm_num), hn] at hlow hhigh
  rw [show (m.log2 : Int) + (52 - m.log2) = 52 by omega] at hlow
  rw [show (m.log2 : Int) + 1 + (52 - m.log2) = 53 by omega] at hhigh
  exact ⟨n, hn, by exact_mod_cast hlow, by exact_mod_cast hhigh⟩

theorem packDouble_denormal {neg : Bool} {m : Nat} {q : Int} (hm : m ≠ 0) (h : Packable m q)
    (hlow : (m.log2 : Int) + q < -1022) :
    ∃ f, f < 2 ^ 52 ∧ packDouble neg m q = doubleWord neg 0 f ∧ (f : Rat) * 2 ^ (-1074 : Int) = m * 2 ^ q := by
  obtain ⟨k, hk⟩ := Int.eq_ofNat_of_zero_le (show 0 ≤ q + 1074 by have := h.scale hlow; omega)
  have hn : (m : Rat) * 2 ^ (q + 1074) = (m * 2 ^ k : Nat) := by
    rw [hk]
    push_cast
    rfl
  have hlt : ((m * 2 ^ k : Nat) : Rat) < 2 ^ (52 : Int) := by
    rw [← hn]
    calc (m : Rat) * 2 ^ (q + 1074) < 2 ^ ((m.log2 : Int) + 1) * 2 ^ (q + 1074) :=
          mul_lt_mul_of_pos_right (natCast_lt_two_zpow m) (two_zpow_pos _)
      _ = 2 ^ ((m.log2 : Int) + 1 + (q + 1074)) := (zpow_add₀ (by norm_num) _ _).symm
      _ ≤ 2 ^ (52 : Int) := zpow_le_zpow_right₀ (by norm_num) (by omega)
  refine ⟨m * 2 ^ k, by exact_mod_cast hlt, ?_, ?_⟩
  · unfold packDouble doubleWord
    rw [if_neg hm, if_pos hlow, scaled_quotient hn, Nat.zero_mul, Nat.add_zero]
  · rw [← hn, mul_assoc, ← zpow_add₀ (by norm_num)]
    congr 2
    omega

theorem packDouble_normal {neg : Bool} {m : Nat} {q : Int} (hm : m ≠ 0) (h : Packable m q)
    (hnormal : -1022 ≤ (m.log2 : Int) + q) :
    ∃ e f : Nat, 0 < e ∧ (e : Int) = m.log2 + q + 1023 ∧ e < 2047 ∧ f < 2 ^ 52 ∧
      packDouble neg m q = doubleWord neg e f ∧
      ((2 ^ 52 + f : Nat) : Rat) * 2 ^ ((e : Int) - 1075) = m * 2 ^ q := by
  obtain ⟨n, hn, hlow, hhigh⟩ := exists_normalized hm h.bits
  have htop := h.top hm
  obtain ⟨e, he⟩ := Int.eq_ofNat_of_zero_le (show 0 ≤ (m.log2 : Int) + q + 1023 by omega)
  refine ⟨e, n % 2 ^ 52, by omega, by omega, by omega, Nat.mod_lt _ (by omega), ?_, ?_⟩
  · unfold packDouble doubleWord
    dsimp only
    rw [if_neg hm, if_neg (by omega), scaled_quotient hn, he, Int.toNat_natCast]
  · rw [show 2 ^ 52 + n % 2 ^ 52 = n by omega, ← hn, mul_assoc, ← zpow_add₀ (by norm_num)]
    congr 2
    omega

theorem fpSignificand_doubleWord {neg : Bool} {e f : Nat} (he : e < 2048) (hf : f < 2 ^ 52) :
    fpSignificand (doubleWord neg e f) = if e = 0 then f else 2 ^ 52 + f := by
  rw [fpSignificand, fpExponent_doubleWord he hf, fpFraction_doubleWord he hf]

theorem fpScale_doubleWord {neg : Bool} {e f : Nat} (he : e < 2048) (hf : f < 2 ^ 52) :
    fpScale (doubleWord neg e f) = if e = 0 then -1074 else (e : Int) - 1075 := by
  rw [fpScale, fpExponent_doubleWord he hf]

/-- A packed double has the sign and stands for the number it was packed from. -/
theorem packDouble_spec {neg : Bool} {m : Nat} {q : Int} (h : Packable m q) :
    fpSign (packDouble neg m q) = neg ∧ fpExponent (packDouble neg m q) < 2047 ∧
      realOf (packDouble neg m q) = signFactor neg * (m * 2 ^ q) := by
  rcases Nat.eq_zero_or_pos m with rfl | hpos
  · rw [packDouble_zero, zeroOf_eq, realOf_eq, fpSign_doubleWord (by omega) (by omega),
      fpExponent_doubleWord (by omega) (by omega), fpSignificand_doubleWord (by omega) (by omega)]
    simp
  · rcases lt_or_ge ((m.log2 : Int) + q) (-1022) with hlow | hnormal
    · obtain ⟨f, hf, hpack, hreal⟩ := packDouble_denormal (neg := neg) hpos.ne' h hlow
      rw [hpack, realOf_eq, fpSign_doubleWord (by omega) hf, fpExponent_doubleWord (by omega) hf,
        fpSignificand_doubleWord (by omega) hf, fpScale_doubleWord (by omega) hf, if_pos rfl, if_pos rfl, hreal]
      exact ⟨rfl, by omega, rfl⟩
    · obtain ⟨e, f, he0, _, he, hf, hpack, hreal⟩ := packDouble_normal (neg := neg) hpos.ne' h hnormal
      rw [hpack, realOf_eq, fpSign_doubleWord (by omega) hf, fpExponent_doubleWord (by omega) hf,
        fpSignificand_doubleWord (by omega) hf, fpScale_doubleWord (by omega) hf, if_neg he0.ne', if_neg he0.ne', hreal]
      exact ⟨rfl, he, rfl⟩

/-- The significand and scale of a finite double pack. -/
theorem packable_fields {v : Dword} (h : fpExponent v < 2047) : Packable (fpSignificand v) (fpScale v) where
  bits := (significand_lt v).le
  range := abs_realOf v ▸ (abs_realOf_lt_iff v).mpr h
  unit := .inl (scale_ge v)

theorem packDouble_fields {v : Dword} (hn : fpIsNaN v = false) (hi : fpIsInf v = false) :
    packDouble (fpSign v) (fpSignificand v) (fpScale v) = v := by
  obtain ⟨hsign, _, hreal⟩ := packDouble_spec (neg := fpSign v) (packable_fields ((finite_iff v).mp ⟨hn, hi⟩))
  rw [← realOf_eq] at hreal
  by_cases hz : realOf v = 0
  · have hzero := (realOf_eq_zero_iff v).mp hz
    rw [isZero_eq ((realOf_eq_zero_iff _).mp (hreal.trans hz)), hsign, ← isZero_eq hzero]
  · exact realOf_injective hreal (hreal ▸ hz)

/-! ## Single and double format (R381, R389) -/

/-- The fields of a word in single format. -/
theorem toNat_eq_single (w : Word) :
    w.toNat = (bit w 0).toNat * 2 ^ 31 + w.toNat / 2 ^ 23 % 256 * 2 ^ 23 + w.toNat % 2 ^ 23 := by
  have hlt := w.isLt
  have hbit : (bit w 0).toNat = w.toNat / 2 ^ 31 := by
    rw [bit_zero_eq_decide]
    by_cases h : 2 ^ 31 ≤ w.toNat
    · rw [decide_eq_true h, Bool.toNat_true]
      omega
    · rw [decide_eq_false h, Bool.toNat_false]
      omega
  omega

/-- `stfs` of a double in the range of the normalized singles, or of an infinity or NaN, takes the highest bit and the
seven lowest bits of the exponent. -/
theorem singleOf_normalized {neg : Bool} {e f : Nat} (he : 896 < e) (hlt : e < 2048) (hf : f < 2 ^ 23) :
    singleOf (doubleWord neg e (f * 2 ^ 29)) =
      some (BitVec.ofNat 32 (neg.toNat * 2 ^ 31 + (e / 1024 * 128 + e % 128) * 2 ^ 23 + f)) := by
  have hf' : f * 2 ^ 29 < 2 ^ 52 := by omega
  have hhigh : (neg.toNat * 2 ^ 63 + e * 2 ^ 52 + f * 2 ^ 29) / 2 ^ 62 = neg.toNat * 2 + e / 1024 := by omega
  have hlow : (neg.toNat * 2 ^ 63 + e * 2 ^ 52 + f * 2 ^ 29) / 2 ^ 29 = neg.toNat * 2 ^ 34 + e * 2 ^ 23 + f := by omega
  unfold singleOf
  dsimp only
  rw [fpExponent_doubleWord hlt hf', if_pos (.inl he), toNat_doubleWord hlt hf', hhigh, hlow]
  refine congrArg (fun n => some (BitVec.ofNat 32 n)) ?_
  omega

theorem singleOf_zero (neg : Bool) : singleOf (zeroOf neg) = some (BitVec.ofNat 32 (neg.toNat * 2 ^ 31)) := by
  cases neg <;> decide

/-- `stfs` of a double in the range of the denormalized singles shifts the significand back. -/
theorem singleOf_denormalized {neg : Bool} {m : Nat} (hm : m ≠ 0) (hlt : m < 2 ^ 23) :
    singleOf (packDouble neg m (-149)) = some (BitVec.ofNat 32 (neg.toNat * 2 ^ 31 + m)) := by
  have hlog : m.log2 < 23 := (Nat.log2_lt hm).mpr hlt
  have hrange : (m : Rat) * 2 ^ (-149 : Int) < 2 ^ (1024 : Int) := by
    have hm' : (m : Rat) < 2 ^ 23 := by exact_mod_cast hlt
    calc (m : Rat) * 2 ^ (-149 : Int) < 2 ^ 23 * 2 ^ (-149 : Int) := mul_lt_mul_of_pos_right hm' (two_zpow_pos _)
      _ = 2 ^ (((23 : Nat) : Int) + -149) := two_pow_mul_two_zpow 23 (-149)
      _ ≤ 2 ^ (1024 : Int) := zpow_le_zpow_right₀ (by norm_num) (by norm_num)
  obtain ⟨e, f, _, hexp, he, hf, hpack, hreal⟩ :=
    packDouble_normal (neg := neg) (q := -149) hm ⟨by omega, hrange, .inl (by omega)⟩ (by omega)
  have hsig : 2 ^ 52 + f = m * 2 ^ (926 - e) := by
    have hscale : ((2 ^ 52 + f : Nat) : Rat) = m * 2 ^ (926 - e) := by
      rw [← mul_left_inj' (two_zpow_pos ((e : Int) - 1075)).ne', hreal, mul_assoc, two_pow_mul_two_zpow]
      congr 2
      omega
    exact_mod_cast hscale
  have hnonzero : (doubleWord neg e f).toNat % 2 ^ 63 ≠ 0 := by
    rw [toNat_doubleWord (by omega) hf]
    omega
  rw [hpack]
  unfold singleOf
  dsimp only
  rw [fpExponent_doubleWord (by omega) hf, if_neg (by omega), if_pos (by omega), fpSign_doubleWord (by omega) hf,
    fpFraction_doubleWord (by omega) hf, hsig, Nat.mul_div_cancel _ (Nat.two_pow_pos _)]

/-- The three kinds of a single: infinity or NaN, zero or denormalized, normalized (R381). -/
theorem singleOf_doubleOf (w : Word) : singleOf (doubleOf w) = some w := by
  have hw := toNat_eq_single w
  have hf : w.toNat % 2 ^ 23 < 2 ^ 23 := Nat.mod_lt _ (by omega)
  have he : w.toNat / 2 ^ 23 % 256 < 256 := Nat.mod_lt _ (by omega)
  have hback : ∀ n, n = w.toNat → some (BitVec.ofNat 32 n) = some w := by
    rintro _ rfl
    rw [BitVec.ofNat_toNat, BitVec.setWidth_eq]
  unfold doubleOf
  dsimp only
  generalize w.toNat / 2 ^ 23 % 256 = e, w.toNat % 2 ^ 23 = f at hw hf he
  split
  · refine (singleOf_normalized (neg := bit w 0) (e := 2047) (by omega) (by omega) hf).trans (hback _ ?_)
    rw [hw]
    omega
  · split
    · by_cases hz : f = 0
      · rw [hz, packDouble_zero, singleOf_zero]
        exact hback _ (by omega)
      · rw [singleOf_denormalized hz hf]
        exact hback _ (by omega)
    · refine (singleOf_normalized (neg := bit w 0) (e := e + 896) (by omega) (by omega) hf).trans (hback _ ?_)
      omega

/-- Settles O38. -/
theorem formatsRoundTrip : Obligations.FormatsRoundTrip :=
  ⟨singleOf_doubleOf, fun _ hn hi => packDouble_fields hn hi⟩

end Sys2Proof.Machine
end

section
namespace Sys2Proof.Machine

/-! ## Conversions to an integer word (43_floating_point.md R271, R272) -/

/-- The masks of single exception bits, bit by bit. -/
theorem bit_exceptionMask {k : Nat} (hk : k < 32) :
    bit fpOX k = decide (k = 3) ∧ bit fpUX k = decide (k = 4) ∧ bit fpZX k = decide (k = 5) ∧
      bit fpXX k = decide (k = 6) ∧ bit fpVXSNAN k = decide (k = 7) ∧ bit fpVXISI k = decide (k = 8) ∧
      bit fpVXIDI k = decide (k = 9) ∧ bit fpVXZDZ k = decide (k = 10) ∧ bit fpVXIMZ k = decide (k = 11) ∧
      bit fpVXSQRT k = decide (k = 22) ∧ bit fpVXCVI k = decide (k = 23) :=
  ⟨bit_bitMask (by omega) hk, bit_bitMask (by omega) hk, bit_bitMask (by omega) hk, bit_bitMask (by omega) hk,
    bit_bitMask (by omega) hk, bit_bitMask (by omega) hk, bit_bitMask (by omega) hk, bit_bitMask (by omega) hk,
    bit_bitMask (by omega) hk, bit_bitMask (by omega) hk, bit_bitMask (by omega) hk⟩

/-- A mask that is raised under a condition. -/
theorem bit_ite_mask (c : Prop) [Decidable c] (m : Word) (k : Nat) : bit (if c then m else 0) k = (decide c && bit m k) := by
  by_cases h : c <;> simp [h, bit]

/-- The integer that a number rounds to. -/
def roundedInteger (b : Dword) (rn : BitVec 2) : Int :=
  if fpSign b then -(((exactOf b).roundTo 0 rn).significand : Int) else ((exactOf b).roundTo 0 rn).significand

/-- The number converts to a word: no NaN, no infinity, and its rounding is in range. -/
def converts (b : Dword) (rn : BitVec 2) : Bool :=
  !fpIsNaN b && !fpIsInf b && decide (-(2 ^ 31) ≤ roundedInteger b rn) && decide (roundedInteger b rn < 2 ^ 31)

theorem converts_iff (b : Dword) (rn : BitVec 2) :
    converts b rn = true ↔
      fpIsNaN b = false ∧ fpIsInf b = false ∧ -(2 ^ 31) ≤ roundedInteger b rn ∧ roundedInteger b rn < 2 ^ 31 := by
  simp only [converts, Bool.and_eq_true, Bool.not_eq_true', decide_eq_true_eq, and_assoc]

theorem fpToInteger_inRange {b : Dword} {rn : BitVec 2} (h : converts b rn = true) (ve : Bool) :
    fpToInteger b rn ve =
      let r := (exactOf b).roundTo 0 rn
      ⟨some (BitVec.ofInt 32 (roundedInteger b rn)), r.incremented, r.inexact, inexactBits r⟩ := by
  obtain ⟨hn, hi, hlow, hhigh⟩ := (converts_iff b rn).mp h
  unfold roundedInteger at *
  simp only [fpToInteger, hn, hi, Bool.false_eq_true, if_false]
  rw [if_neg (by omega), if_neg (by omega)]

theorem signaling_eq_false {b : Dword} (h : fpIsNaN b = false) : fpIsSignaling b = false := by
  rw [fpIsSignaling, h, Bool.false_and]

theorem fpToInteger_outOfRange {b : Dword} {rn : BitVec 2} (h : converts b rn = false) (ve : Bool) :
    fpToInteger b rn ve =
      ⟨if ve then none
        else some (if fpIsNaN b = true ∨ fpSign b = true then (0x80000000 : Word) else 0x7FFFFFFF),
        false, false, fpVXCVI ||| if fpIsSignaling b = true then fpVXSNAN else 0⟩ := by
  have hzero : fpVXCVI ||| 0 = fpVXCVI := BitVec.or_zero
  have hsize : 0 ≤ (((exactOf b).roundTo 0 rn).significand : Int) := Int.natCast_nonneg _
  cases hn : fpIsNaN b
  · have hs := signaling_eq_false hn
    cases hi : fpIsInf b
    · have hrange : ¬ (-(2 ^ 31) ≤ roundedInteger b rn ∧ roundedInteger b rn < 2 ^ 31) := fun hr => by
        rw [(converts_iff b rn).mpr ⟨hn, hi, hr⟩] at h
        cases h
      unfold roundedInteger at hrange
      cases hsign : fpSign b <;>
        simp only [hsign, Bool.false_eq_true, if_false, if_true] at hrange <;>
        simp only [fpToInteger, hn, hi, hs, hsign, Bool.false_eq_true, if_false, if_true, or_true, or_false, hzero]
      · rw [if_pos (by omega)]
      · rw [if_neg (by omega), if_pos (by omega)]
    · simp only [fpToInteger, hn, hi, hs, Bool.false_eq_true, if_false, if_true, false_or, hzero]
  · cases hs : fpIsSignaling b <;>
      simp only [fpToInteger, hn, hs, Bool.false_eq_true, if_false, if_true, true_or, hzero]

theorem bit_inexactBits (r : Rounded) {k : Nat} (hk : k < 32) : bit (inexactBits r) k = (decide (k = 6) && r.inexact) := by
  obtain ⟨_, _, _, hxx, _⟩ := bit_exceptionMask hk
  rw [inexactBits, bit_ite_mask, hxx, Bool.and_comm]
  cases r.inexact <;> rfl

/-- The exceptions of a conversion: XX where it is inexact, VXSNAN, and VXCVI out of range. -/
theorem bit_fpToInteger_raised (b : Dword) (rn : BitVec 2) (ve : Bool) {k : Nat} (hk : k < 32) :
    bit (fpToInteger b rn ve).raised k =
      (decide (k = 6) && (fpToInteger b rn ve).fi || decide (k = 7) && fpIsSignaling b ||
        decide (k = 23) && !converts b rn) := by
  obtain ⟨_, _, _, _, hsnan, _, _, _, _, _, hcvi⟩ := bit_exceptionMask hk
  cases h : converts b rn
  · rw [fpToInteger_outOfRange h]
    simp only [bit_or, bit_ite_mask, hsnan, hcvi]
    cases fpIsSignaling b <;> simp [Bool.or_comm]
  · rw [fpToInteger_inRange h, signaling_eq_false ((converts_iff b rn).mp h).1]
    simp [bit_inexactBits _ hk]

/-- A conversion is inexact where the number is not the integer, and FR says that the integer is the larger one. -/
theorem roundedInteger_inexact (b : Dword) (rn : BitVec 2) :
    ((exactOf b).roundTo 0 rn).inexact = decide (realOf b ≠ roundedInteger b rn) ∧
      ((exactOf b).roundTo 0 rn).incremented =
        decide (magnitude (realOf b) < (((exactOf b).roundTo 0 rn).significand : Int)) := by
  have hd : 0 < (exactOf b).den := scaled_den_pos _ _ _
  have hinexact := Exact.roundTo_inexact_iff hd 0 rn
  have hincremented := Exact.roundTo_incremented_iff hd 0 rn
  rw [zpow_zero, mul_one] at hinexact hincremented
  have hneg : (exactOf b).neg = fpSign b := scaled_neg _ _ _
  have hvalue : realOf b = (roundedInteger b rn : Rat) ↔
      (((exactOf b).roundTo 0 rn).significand : Rat) = (exactOf b).size := by
    rw [realOf_eq_value, Exact.value_eq, hneg, roundedInteger]
    cases fpSign b
    · simp [signFactor, eq_comm]
    · simp [signFactor, eq_comm]
  constructor
  · rw [Bool.eq_iff_iff, decide_eq_true_iff, hinexact, ne_eq, ne_eq, hvalue]
  · rw [Bool.eq_iff_iff, decide_eq_true_iff, hincremented, magnitude_eq, realOf_eq_value, Exact.abs_value,
      Int.cast_natCast]

/-- What a conversion leaves, in range and out of it. -/
theorem FloatWritten.converted {s t : State} {d b : BitVec 5} {rc : Bool} {rn : BitVec 2}
    (h : FloatWritten s t d rc (convertOutcome s b rn)) :
    (converts (s.f b) rn = true → (t.f d).setWidth 32 = BitVec.ofInt 32 (roundedInteger (s.f b) rn)) ∧
    (converts (s.f b) rn = false → (bit s.fpscr 24 = true → t.f d = s.f d) ∧
      (bit s.fpscr 24 = false → (t.f d).setWidth 32 =
        if fpIsNaN (s.f b) = true ∨ fpSign (s.f b) = true then (0x80000000 : Word) else 0x7FFFFFFF)) := by
  have hlow : ∀ high low : Word, (high ++ low).setWidth 32 = low := fun high low => by
    rw [BitVec.setWidth_append_eq_right]
  rw [h.target, convertOutcome]
  refine ⟨fun hc => ?_, fun hc => ⟨fun hve => ?_, fun hve => ?_⟩⟩
  · rw [fpToInteger_inRange hc]
    exact hlow _ _
  · rw [fpToInteger_outOfRange hc, hve]
    rfl
  · rw [fpToInteger_outOfRange hc, hve]
    exact hlow _ _

theorem convertOutcome_fi (s : State) (b : BitVec 5) (rn : BitVec 2) :
    (convertOutcome s b rn).fi = (converts (s.f b) rn && ((exactOf (s.f b)).roundTo 0 rn).inexact) ∧
      (convertOutcome s b rn).fr = (converts (s.f b) rn && ((exactOf (s.f b)).roundTo 0 rn).incremented) := by
  unfold convertOutcome
  cases h : converts (s.f b) rn
  · rw [fpToInteger_outOfRange h]
    exact ⟨rfl, rfl⟩
  · rw [fpToInteger_inRange h]
    exact ⟨rfl, rfl⟩

/-- FPSCR after a conversion. -/
theorem FloatWritten.converted_fpscr {s t : State} {d b : BitVec 5} {rc : Bool} {rn : BitVec 2}
    (h : FloatWritten s t d rc (convertOutcome s b rn)) :
    bit t.fpscr 6 = (bit s.fpscr 6 || (convertOutcome s b rn).fi) ∧
      bit t.fpscr 7 = (bit s.fpscr 7 || fpIsSignaling (s.f b)) ∧
      bit t.fpscr 23 = (bit s.fpscr 23 || !converts (s.f b) rn) ∧ BitsKept s.fpscr t.fpscr 3 3 ∧
      BitsKept s.fpscr t.fpscr 8 5 ∧ BitsKept s.fpscr t.fpscr 21 2 := by
  have hraised : ∀ k, k < 32 → bit (convertOutcome s b rn).raised k =
      (decide (k = 6) && (convertOutcome s b rn).fi || decide (k = 7) && fpIsSignaling (s.f b) ||
        decide (k = 23) && !converts (s.f b) rn) := fun k hk => bit_fpToInteger_raised _ _ _ hk
  have hother : ∀ k, k < 32 → k ≠ 6 → k ≠ 7 → k ≠ 23 → bit (convertOutcome s b rn).raised k = false :=
    fun k hk h6 h7 h23 => by rw [hraised k hk]; simp [h6, h7, h23]
  rw [h.fpscr]
  refine ⟨?_, ?_, ?_, ?_, ?_, ?_⟩
  · rw [bit_fpUpdate_exception _ _ (by decide), hraised 6 (by omega)]
    simp
  · rw [bit_fpUpdate_exception _ _ (by decide), hraised 7 (by omega)]
    simp
  · rw [bit_fpUpdate_exception _ _ (by decide), hraised 23 (by omega)]
    simp
  · exact fpUpdate_kept _ _ (by omega) fun k _ _ _ => hother k (by omega) (by omega) (by omega) (by omega)
  · exact fpUpdate_kept _ _ (by omega) fun k _ _ _ => hother k (by omega) (by omega) (by omega) (by omega)
  · exact fpUpdate_kept _ _ (by omega) fun k _ _ _ => hother k (by omega) (by omega) (by omega) (by omega)

/-- Settles O56: both conversions write `convertOutcome`, in their own rounding mode. -/
theorem floatConvertResults : Obligations.FloatConvertResults := by
  intro d b rc s i rn hq hi
  have hwritten : Completes (exec i s) fun t => FloatWritten s t d rc (convertOutcome s b rn) := by
    rcases hi with ⟨rfl, rfl⟩ | ⟨rfl, rfl⟩
    · exact floatConvert_written hq d b (fun f => field f 30 31) rc
    · exact floatConvert_written hq d b (fun _ => 1) rc
  refine hwritten.imp fun t h => ?_
  obtain ⟨hin, hout⟩ := h.converted
  obtain ⟨h6, h7, h23, hlow, hmid, hhigh⟩ := h.converted_fpscr
  obtain ⟨hfi, hfr⟩ := convertOutcome_fi s b rn
  obtain ⟨hinexact, hincremented⟩ := roundedInteger_inexact (s.f b) rn
  have h13 : bit t.fpscr 13 = (convertOutcome s b rn).fr := h.fpscr ▸ bit_fpUpdate_fr _ _
  have h14 : bit t.fpscr 14 = (convertOutcome s b rn).fi := h.fpscr ▸ bit_fpUpdate_fi _ _
  refine ⟨fun hn hinf hle hlt => ?_, fun hwrong => ?_, h7, hlow, hmid, hhigh, h.fpscr ▸ fpUpdate_controls _ _, h.fx⟩
  · have hc : converts (s.f b) rn = true := (converts_iff _ _).mpr ⟨hn, hinf, hle, hlt⟩
    rw [hc, Bool.true_and] at hfi hfr
    rw [h13, h14, h6, h23, hfi, hfr, hinexact, hincremented, hc]
    exact ⟨hin hc, Bool.or_false _, rfl, rfl, rfl⟩
  · have hc : converts (s.f b) rn = false := by
      rw [← Bool.not_eq_true, converts_iff]
      rintro ⟨hn, hinf, hle, hlt⟩
      rcases hwrong with h' | h' | h' | h'
      · rw [hn] at h'; cases h'
      · rw [hinf] at h'; cases h'
      · exact absurd hle (not_le.mpr h')
      · exact absurd hlt (not_lt.mpr h')
    rw [hc, Bool.false_and] at hfi hfr
    obtain ⟨hkeep, hset⟩ := hout hc
    rw [h13, h14, h6, h23, hfi, hfr, hc]
    exact ⟨Bool.or_true _, rfl, rfl, Bool.or_false _, hkeep, hset⟩

end Sys2Proof.Machine
end

section
namespace Sys2Proof.Machine

/-! ## Outcomes that are delivered or withheld (43_floating_point.md R243 to R246) -/

/-- An outcome with exceptions raised whose value is withheld where one of them is enabled. -/
def flagged (withheld : Bool) (v : Dword) (fprf : BitVec 5) (raised : Word) : FpOutcome :=
  if withheld then withhold raised else ⟨some v, some fprf, false, false, raised⟩

section
variable {s t : State} {d : BitVec 5} {rc withheld : Bool} {v : Dword} {fprf : BitVec 5} {raised : Word}

theorem flagged_raised (withheld : Bool) (v : Dword) (fprf : BitVec 5) (raised : Word) :
    (flagged withheld v fprf raised).raised = raised ∧ (flagged withheld v fprf raised).fr = false ∧
      (flagged withheld v fprf raised).fi = false := by
  cases withheld <;> exact ⟨rfl, rfl, rfl⟩

/-- FPSCR after such an outcome: FR and FI are 0, and the exception bits raised are added. -/
theorem FloatWritten.flagged_fpscr (h : FloatWritten s t d rc (flagged withheld v fprf raised)) :
    bit t.fpscr 13 = false ∧ bit t.fpscr 14 = false ∧
      ∀ k ∈ exceptionPlaces, bit t.fpscr k = (bit s.fpscr k || bit raised k) := by
  obtain ⟨hraised, hfr, hfi⟩ := flagged_raised withheld v fprf raised
  rw [h.fpscr, bit_fpUpdate_fr, bit_fpUpdate_fi]
  exact ⟨hfr, hfi, fun k hk => by rw [bit_fpUpdate_exception _ _ hk, hraised]⟩

theorem FloatWritten.flagged_kept (h : FloatWritten s t d rc (flagged withheld v fprf raised)) {first n : Nat}
    (hplace : (3 ≤ first ∧ first + n ≤ 13) ∨ (21 ≤ first ∧ first + n ≤ 32))
    (hraised : ∀ k, first ≤ k → k < first + n → k < 24 → bit raised k = false) :
    BitsKept s.fpscr t.fpscr first n := by
  rw [h.fpscr]
  refine fpUpdate_kept _ _ hplace ?_
  rwa [(flagged_raised withheld v fprf raised).1]

theorem FloatWritten.flagged_delivered (h : FloatWritten s t d rc (flagged false v fprf raised)) :
    t.f d = v ∧ field t.fpscr 15 19 = fprf :=
  ⟨h.target, h.fpscr ▸ field_fpUpdate _ _ rfl⟩

theorem FloatWritten.flagged_withheld (h : FloatWritten s t d rc (flagged true v fprf raised)) :
    t.f d = s.f d ∧ BitsKept s.fpscr t.fpscr 15 5 :=
  ⟨h.target, h.fpscr ▸ fpUpdate_fprf _ _ rfl⟩

/-- An enabled invalid operation sets FEX. -/
theorem FloatWritten.fex_of_invalid (h : FloatWritten s t d rc (flagged withheld v fprf raised))
    (hve : bit s.fpscr 24 = true) {k : Nat} (hplace : bit fpInvalidBits k = true) (hk : k ∈ exceptionPlaces)
    (hraised : bit raised k = true) : bit t.fpscr 1 = true := by
  obtain ⟨_, _, hbits⟩ := h.flagged_fpscr
  have hderive : fpDerive t.fpscr = t.fpscr := h.fpscr ▸ fpDerive_fpUpdate _ _
  have hve' : bit t.fpscr 24 = true := (h.fpscr ▸ fpUpdate_controls _ _ 24 (by omega) (by omega)).trans hve
  exact Machine.fex_of_invalid hderive hve' (exceptionPlace_lt hk) hplace (by rw [hbits k hk, hraised, Bool.or_true])

/-- An enabled division by zero sets FEX. -/
theorem FloatWritten.fex_of_zeroDivide (h : FloatWritten s t d rc (flagged withheld v fprf raised))
    (hze : bit s.fpscr 27 = true) (hraised : bit raised 5 = true) : bit t.fpscr 1 = true := by
  obtain ⟨_, _, hbits⟩ := h.flagged_fpscr
  have hderive : fpDerive t.fpscr = t.fpscr := h.fpscr ▸ fpDerive_fpUpdate _ _
  have hze' : bit t.fpscr 27 = true := (h.fpscr ▸ fpUpdate_controls _ _ 27 (by omega) (by omega)).trans hze
  exact Machine.fex_of_zeroDivide hderive hze' (by rw [hbits 5 (by decide), hraised, Bool.or_true])

end

/-! ## NaN operands (R243, R245) -/

/-- A NaN made quiet is a NaN. -/
theorem isNaN_quiet {v : Dword} (h : fpExponent v = 2047) : fpIsNaN (fpQuiet v) = true := by
  have hmask : ((1 : Dword) <<< 51).toNat = 2 ^ 51 := by decide
  rw [isNaN_iff, fpExponent, fpFraction, fpQuiet, BitVec.toNat_or, hmask, Nat.or_div_two_pow, Nat.or_mod_two_pow]
  rw [fpExponent] at h
  refine ⟨by rw [show 2 ^ 51 / 2 ^ 52 = 0 by norm_num, Nat.or_zero, h], fun hz => ?_⟩
  have hle : 2 ^ 51 % 2 ^ 52 ≤ v.toNat % 2 ^ 52 ||| 2 ^ 51 % 2 ^ 52 := Nat.right_le_or
  omega

theorem fprfOf_quiet {v : Dword} (h : fpExponent v = 2047) (fmt : Format) : fprfOf fmt (fpQuiet v) = 0b10001 := by
  rw [fprfOf, classIn, if_pos (isNaN_quiet h)]
  rfl

/-- The exceptions of a NaN operand: VXSNAN, and VXIMZ of an infinity times zero. -/
def nanRaised (signaling product : Bool) : Word :=
  (if signaling then fpVXSNAN else 0) ||| (if product then fpVXIMZ else 0)

theorem bit_nanRaised (signaling product : Bool) {k : Nat} (hk : k < 32) :
    bit (nanRaised signaling product) k = (decide (k = 7) && signaling || decide (k = 11) && product) := by
  obtain ⟨_, _, _, _, hsnan, _, _, _, himz, _⟩ := bit_exceptionMask hk
  rw [nanRaised, bit_or, bit_ite_mask, bit_ite_mask, hsnan, himz, Bool.decide_eq_true, Bool.decide_eq_true,
    Bool.and_comm signaling, Bool.and_comm product]

theorem nanRaised_ne_zero (signaling product : Bool) : nanRaised signaling product ≠ 0 ↔ (signaling || product) = true := by
  cases signaling <;> cases product <;> decide

/-- The first NaN is passed on, made quiet. -/
theorem nanOutcome_eq {operands : List Dword} {v : Dword} (hv : operands.find? fpIsNaN = some v) (fmt : Format)
    (ctl : FpControl) (product : Bool) :
    nanOutcome fmt ctl operands (if product then fpVXIMZ else 0) =
      flagged (ctl.ve && (operands.any fpIsSignaling || product)) (fpQuiet v) 0b10001
        (nanRaised (operands.any fpIsSignaling) product) := by
  have hnan : fpExponent v = 2047 := ((isNaN_iff v).mp (List.find?_some hv)).1
  have hprop : propagated operands = fpQuiet v := by rw [propagated, hv, Option.getD_some]
  have hcond : nanRaised (operands.any fpIsSignaling) product ≠ 0 ∧ ctl.ve = true ↔
      (ctl.ve && (operands.any fpIsSignaling || product)) = true := by
    rw [nanRaised_ne_zero, Bool.and_eq_true, and_comm]
  simp only [nanOutcome, flagged, deliver, hprop, fprfOf_quiet hnan]
  change (if nanRaised (operands.any fpIsSignaling) product ≠ 0 ∧ ctl.ve = true then _ else _) = _
  rw [if_congr hcond rfl rfl]
  rfl

theorem any_of_find {operands : List Dword} {v : Dword} (hv : operands.find? fpIsNaN = some v) :
    operands.any fpIsNaN = true := by
  rw [List.any_eq_true]
  exact ⟨v, List.mem_of_find?_eq_some hv, List.find?_some hv⟩

section
variable {a b c v : Dword} (fmt : Format) (ctl : FpControl)

theorem fpAdd_nan (hv : [a, b].find? fpIsNaN = some v) : fpAdd fmt a b ctl = nanOutcome fmt ctl [a, b] 0 :=
  if_pos (by simpa using any_of_find hv)

theorem fpSub_nan (hv : [a, b].find? fpIsNaN = some v) : fpSub fmt a b ctl = nanOutcome fmt ctl [a, b] 0 :=
  if_pos (by simpa using any_of_find hv)

theorem fpMul_nan (hv : [a, b].find? fpIsNaN = some v) : fpMul fmt a b ctl = nanOutcome fmt ctl [a, b] 0 :=
  if_pos (by simpa using any_of_find hv)

theorem fpDiv_nan (hv : [a, b].find? fpIsNaN = some v) : fpDiv fmt a b ctl = nanOutcome fmt ctl [a, b] 0 :=
  if_pos (by simpa using any_of_find hv)

theorem fpMulAdd_nan (subtract negate : Bool) (hv : [a, b, c].find? fpIsNaN = some v) :
    fpMulAdd fmt subtract negate a c b ctl =
      nanOutcome fmt ctl [a, b, c] (if infinityTimesZero a c then fpVXIMZ else 0) :=
  if_pos (by simpa [or_assoc] using any_of_find hv)

theorem fpReciprocal_nan (free : BitVec 3) (hv : [b].find? fpIsNaN = some v) :
    fpReciprocal free b ctl = nanOutcome singleFormat ctl [b] 0 :=
  if_pos (by simpa using any_of_find hv)

theorem fpReciprocalSqrt_nan (free : BitVec 3) (hv : [b].find? fpIsNaN = some v) :
    fpReciprocalSqrt free b ctl = nanOutcome doubleFormat ctl [b] 0 :=
  if_pos (by simpa using any_of_find hv)

end

/-- `frsp` of a NaN keeps its upper 35 bits and makes it quiet (R270). -/
theorem fpRoundSingle_nan {b : Dword} (hn : fpIsNaN b = true) (ctl : FpControl) :
    fpRoundSingle b ctl =
      flagged (ctl.ve && (fpIsSignaling b || false)) (fpQuiet (b &&& 0xFFFFFFFFE0000000)) 0b10001
        (nanRaised (fpIsSignaling b) false) := by
  have hmask : ~~~((BitVec.allOnes 29).setWidth 64) = (0xFFFFFFFFE0000000 : Dword) := by decide
  have hupper : (0xFFFFFFFFE0000000 : Dword).toNat / 2 ^ 52 = 2 ^ 12 - 1 := by decide
  have hexp : fpExponent (b &&& 0xFFFFFFFFE0000000) = 2047 := by
    have he : fpExponent b = 2047 := ((isNaN_iff b).mp hn).1
    have hlt := b.isLt
    rw [fpExponent] at he
    rw [fpExponent, BitVec.toNat_and, Nat.and_div_two_pow, hupper, Nat.and_two_pow_sub_one_eq_mod]
    omega
  have hfprf := fprfOf_quiet hexp singleFormat
  simp only [fpRoundSingle, hn, if_true, hmask, deliver, hfprf, flagged, Bool.or_false]
  cases fpIsSignaling b <;> cases ctl.ve <;> rfl

/-- What an instruction leaves that passes a NaN on. -/
theorem FloatWritten.nan {s t : State} {d : BitVec 5} {rc signaling product : Bool} {v : Dword}
    (h : FloatWritten s t d rc
      (flagged (bit s.fpscr 24 && (signaling || product)) v 0b10001 (nanRaised signaling product))) :
    ((bit s.fpscr 24 && (signaling || product)) = false → t.f d = v ∧ field t.fpscr 15 19 = 0b10001) ∧
      ((bit s.fpscr 24 && (signaling || product)) = true →
        t.f d = s.f d ∧ bit t.fpscr 1 = true ∧ BitsKept s.fpscr t.fpscr 15 5) ∧
      bit t.fpscr 13 = false ∧ bit t.fpscr 14 = false ∧ bit t.fpscr 7 = (bit s.fpscr 7 || signaling) ∧
      bit t.fpscr 11 = (bit s.fpscr 11 || product) ∧ BitsKept s.fpscr t.fpscr 3 4 ∧ BitsKept s.fpscr t.fpscr 8 3 ∧
      BitsKept s.fpscr t.fpscr 12 1 ∧ BitsKept s.fpscr t.fpscr 21 11 ∧ FxFollows s t := by
  obtain ⟨hfr, hfi, hbits⟩ := h.flagged_fpscr
  have hother : ∀ k, k < 32 → k ≠ 7 → k ≠ 11 → bit (nanRaised signaling product) k = false := fun k hk h7 h11 => by
    rw [bit_nanRaised _ _ hk]
    simp [h7, h11]
  refine ⟨fun hw => ?_, fun hw => ?_, hfr, hfi, ?_, ?_, ?_, ?_, ?_, ?_, h.fx⟩
  · rw [hw] at h
    exact h.flagged_delivered
  · have hcause := hw
    rw [Bool.and_eq_true, Bool.or_eq_true] at hcause
    obtain ⟨hve, hcause⟩ := hcause
    have hfex : bit t.fpscr 1 = true := by
      rcases hcause with hs | hp
      · exact h.fex_of_invalid hve (k := 7) (by decide) (by decide) (by rw [bit_nanRaised _ _ (by omega), hs]; rfl)
      · exact h.fex_of_invalid hve (k := 11) (by decide) (by decide)
          (by rw [bit_nanRaised _ _ (by omega), hp, Bool.and_true]; exact Bool.or_true _)
    rw [hw] at h
    exact ⟨h.flagged_withheld.1, hfex, h.flagged_withheld.2⟩
  · rw [hbits 7 (by decide), bit_nanRaised _ _ (by omega)]
    simp
  · rw [hbits 11 (by decide), bit_nanRaised _ _ (by omega)]
    simp
  · exact h.flagged_kept (by omega) fun k _ _ _ => hother k (by omega) (by omega) (by omega)
  · exact h.flagged_kept (by omega) fun k _ _ _ => hother k (by omega) (by omega) (by omega)
  · exact h.flagged_kept (by omega) fun k _ _ _ => hother k (by omega) (by omega) (by omega)
  · exact h.flagged_kept (by omega) fun k _ _ _ => hother k (by omega) (by omega) (by omega)

/-- An instruction that passes on the NaN `w`, made quiet; `product` says whether it multiplies an infinity by zero. -/
def PassesNaN (s : State) (i : Instr) (d : BitVec 5) (ops : List (BitVec 5)) (rc single product : Bool) (w : Dword) : Prop :=
  ∃ compute : FpControl → FpOutcome, exec i s = floatArith s single d (ops.map s.f) rc compute ∧
    ∀ ctl, compute ctl = flagged (ctl.ve && ((ops.map s.f).any fpIsSignaling || product)) (fpQuiet w) 0b10001
      (nanRaised ((ops.map s.f).any fpIsSignaling) product)

theorem PassesNaN.completes {s : State} {i : Instr} {d : BitVec 5} {ops : List (BitVec 5)} {rc single product : Bool}
    {w : Dword} (h : PassesNaN s i d ops rc single product w) (hq : s.FloatQuiet) (hni : bit s.fpscr 29 = false)
    (hsingle : single = true → (ops.map s.f).all isSingle = true) :
    Completes (exec i s) fun t => FloatWritten s t d rc
      (flagged (bit s.fpscr 24 && ((ops.map s.f).any fpIsSignaling || product)) (fpQuiet w) 0b10001
        (nanRaised ((ops.map s.f).any fpIsSignaling) product)) := by
  obtain ⟨compute, hexec, hcompute⟩ := h
  rw [hexec]
  refine (floatArith_computed hq hni hsingle d rc compute).imp fun t ht => ?_
  rw [hcompute] at ht
  exact ht

/-- Every instruction of the statement passes the first NaN on, `frsp` without its low bits. -/
theorem passesNaN_of_mem {s : State} {d a b c : BitVec 5} {rc single : Bool} {i : Instr} {ops : List (BitVec 5)}
    {v : Dword} (hv : (ops.map s.f).find? fpIsNaN = some v)
    (hi : (i, ops, single) ∈
      [(Instr.faddx d a b rc, [a, b], false), (.fsubx d a b rc, [a, b], false), (.fmulx d a c rc, [a, c], false),
        (.fdivx d a b rc, [a, b], false), (.fmaddx d a b c rc, [a, b, c], false), (.fmsubx d a b c rc, [a, b, c], false),
        (.fnmaddx d a b c rc, [a, b, c], false), (.fnmsubx d a b c rc, [a, b, c], false),
        (.frsqrtex d b rc, [b], false), (.frspx d b rc, [b], false),
        (.faddsx d a b rc, [a, b], true), (.fsubsx d a b rc, [a, b], true), (.fmulsx d a c rc, [a, c], true),
        (.fdivsx d a b rc, [a, b], true), (.fmaddsx d a b c rc, [a, b, c], true), (.fmsubsx d a b c rc, [a, b, c], true),
        (.fnmaddsx d a b c rc, [a, b, c], true), (.fnmsubsx d a b c rc, [a, b, c], true), (.fresx d b rc, [b], true)]) :
    PassesNaN s i d ops rc single (decide (ops = [a, b, c]) && infinityTimesZero (s.f a) (s.f c))
      (if i = .frspx d b rc then v &&& 0xFFFFFFFFE0000000 else v) := by
  simp only [List.mem_cons, List.not_mem_nil, or_false, Prod.mk.injEq] at hi
  have few (hlen : ops.length < 3) (hne : i ≠ .frspx d b rc) {compute : FpControl → FpOutcome} {fmt : Format}
      (hexec : exec i s = floatArith s single d (ops.map s.f) rc compute)
      (hnan : ∀ ctl, compute ctl = nanOutcome fmt ctl (ops.map s.f) 0) :
      PassesNaN s i d ops rc single (decide (ops = [a, b, c]) && infinityTimesZero (s.f a) (s.f c))
        (if i = .frspx d b rc then v &&& 0xFFFFFFFFE0000000 else v) := by
    have hops : decide (ops = [a, b, c]) = false := decide_eq_false fun h => by rw [h] at hlen; simp at hlen
    rw [hops, Bool.false_and, if_neg hne]
    exact ⟨compute, hexec, fun ctl => (hnan ctl).trans (nanOutcome_eq hv fmt ctl false)⟩
  have three (hops : ops = [a, b, c]) (hne : i ≠ .frspx d b rc) {compute : FpControl → FpOutcome} {fmt : Format}
      (hexec : exec i s = floatArith s single d (ops.map s.f) rc compute)
      (hnan : ∀ ctl, compute ctl =
        nanOutcome fmt ctl (ops.map s.f) (if infinityTimesZero (s.f a) (s.f c) then fpVXIMZ else 0)) :
      PassesNaN s i d ops rc single (decide (ops = [a, b, c]) && infinityTimesZero (s.f a) (s.f c))
        (if i = .frspx d b rc then v &&& 0xFFFFFFFFE0000000 else v) := by
    rw [decide_eq_true hops, Bool.true_and, if_neg hne]
    exact ⟨compute, hexec, fun ctl => (hnan ctl).trans (nanOutcome_eq hv fmt ctl _)⟩
  have rounds (hops : ops = [b]) :
      PassesNaN s (.frspx d b rc) d ops rc false (decide (ops = [a, b, c]) && infinityTimesZero (s.f a) (s.f c))
        (if Instr.frspx d b rc = .frspx d b rc then v &&& 0xFFFFFFFFE0000000 else v) := by
    subst hops
    obtain ⟨hn, hb⟩ : fpIsNaN (s.f b) = true ∧ s.f b = v := by
      rw [List.map_singleton, List.find?_singleton] at hv
      split at hv
      · exact ⟨‹_›, Option.some.inj hv⟩
      · cases hv
    have hany : ([b].map s.f).any fpIsSignaling = fpIsSignaling (s.f b) := Bool.or_false _
    rw [decide_eq_false (by simp), Bool.false_and, if_pos rfl, ← hb]
    refine ⟨fpRoundSingle (s.f b), rfl, fun ctl => ?_⟩
    rw [hany]
    exact fpRoundSingle_nan hn ctl
  rcases hi with ⟨rfl, rfl, rfl⟩ | ⟨rfl, rfl, rfl⟩ | ⟨rfl, rfl, rfl⟩ | ⟨rfl, rfl, rfl⟩ | ⟨rfl, rfl, rfl⟩ |
    ⟨rfl, rfl, rfl⟩ | ⟨rfl, rfl, rfl⟩ | ⟨rfl, rfl, rfl⟩ | ⟨rfl, rfl, rfl⟩ | ⟨rfl, rfl, rfl⟩ | ⟨rfl, rfl, rfl⟩ |
    ⟨rfl, rfl, rfl⟩ | ⟨rfl, rfl, rfl⟩ | ⟨rfl, rfl, rfl⟩ | ⟨rfl, rfl, rfl⟩ | ⟨rfl, rfl, rfl⟩ | ⟨rfl, rfl, rfl⟩ |
    ⟨rfl, rfl, rfl⟩ | ⟨rfl, rfl, rfl⟩
  · exact few (by simp) nofun rfl fun ctl => fpAdd_nan _ ctl hv
  · exact few (by simp) nofun rfl fun ctl => fpSub_nan _ ctl hv
  · exact few (by simp) nofun rfl fun ctl => fpMul_nan _ ctl hv
  · exact few (by simp) nofun rfl fun ctl => fpDiv_nan _ ctl hv
  · exact three rfl nofun rfl fun ctl => fpMulAdd_nan _ ctl false false hv
  · exact three rfl nofun rfl fun ctl => fpMulAdd_nan _ ctl true false hv
  · exact three rfl nofun rfl fun ctl => fpMulAdd_nan _ ctl false true hv
  · exact three rfl nofun rfl fun ctl => fpMulAdd_nan _ ctl true true hv
  · exact few (by simp) nofun rfl fun ctl => fpReciprocalSqrt_nan ctl _ hv
  · exact rounds rfl
  · exact few (by simp) nofun rfl fun ctl => fpAdd_nan _ ctl hv
  · exact few (by simp) nofun rfl fun ctl => fpSub_nan _ ctl hv
  · exact few (by simp) nofun rfl fun ctl => fpMul_nan _ ctl hv
  · exact few (by simp) nofun rfl fun ctl => fpDiv_nan _ ctl hv
  · exact three rfl nofun rfl fun ctl => fpMulAdd_nan _ ctl false false hv
  · exact three rfl nofun rfl fun ctl => fpMulAdd_nan _ ctl true false hv
  · exact three rfl nofun rfl fun ctl => fpMulAdd_nan _ ctl false true hv
  · exact three rfl nofun rfl fun ctl => fpMulAdd_nan _ ctl true true hv
  · exact few (by simp) nofun rfl fun ctl => fpReciprocal_nan ctl _ hv

/-- Settles O49. -/
theorem naNOperandsPropagate : Obligations.NaNOperandsPropagate := by
  intro d a b c rc s i ops single v hi hq hni hsingle hv
  have hquiet : ∀ w : Dword, fpQuiet w = w ||| 0x0008000000000000 := fun w => congrArg (w ||| ·) (by decide)
  refine ((passesNaN_of_mem hv hi).completes hq hni hsingle).imp fun t h => ?_
  rw [hquiet] at h
  exact h.nan

end Sys2Proof.Machine
end

section
namespace Sys2Proof.Machine

/-! ## Invalid operations and the division by zero (43_floating_point.md R245, R246) -/

/-- The format of an instruction. -/
def formatOf (single : Bool) : Format := if single then singleFormat else doubleFormat

theorem isInf_notNaN {v : Dword} (h : fpIsInf v = true) : fpIsNaN v = false ∧ fpIsZero v = false := by
  obtain ⟨he, hf⟩ := (isInf_iff v).mp h
  rw [← Bool.not_eq_true, ← Bool.not_eq_true, isNaN_iff, isZero_iff]
  omega

theorem isZero_notNaN {v : Dword} (h : fpIsZero v = true) : fpIsNaN v = false ∧ fpIsInf v = false := by
  obtain ⟨he, hf⟩ := (isZero_iff v).mp h
  rw [← Bool.not_eq_true, ← Bool.not_eq_true, isNaN_iff, isInf_iff]
  omega

/-- Infinities and zeros are single-precision values (R240 c). -/
theorem isSingle_of_isInf {v : Dword} (h : fpIsInf v = true) : isSingle v = true := by
  obtain ⟨he, hf⟩ := (isInf_iff v).mp h
  simp [isSingle, he, hf]

theorem isSingle_of_isZero {v : Dword} (h : fpIsZero v = true) : isSingle v = true := by
  obtain ⟨he, _⟩ := (isZero_iff v).mp h
  simp [isSingle, he, h]

theorem invalid_eq (fmt : Format) (ctl : FpControl) (cause : Word) :
    invalid fmt ctl cause = flagged ctl.ve defaultNaN (fprfOf fmt defaultNaN) cause := rfl

theorem zeroDivide_eq (fmt : Format) (ctl : FpControl) (neg : Bool) :
    zeroDivide fmt ctl neg = flagged ctl.ze (infinityOf neg) (fprfOf fmt (infinityOf neg)) fpZX := rfl

section
variable {a b c : Dword} (fmt : Format) (ctl : FpControl)

theorem addNumbers_infinities (ha : fpIsInf a = true) (hb : fpIsInf b = true) (hs : fpSign a ≠ fpSign b) :
    addNumbers fmt ctl a b = invalid fmt ctl fpVXISI := by
  have hsign : (fpSign a != fpSign b) = true := bne_iff_ne.mpr hs
  simp [addNumbers, ha, hb, hsign]

/-- Infinities of different signs added (R251). -/
theorem fpAdd_infinities (ha : fpIsInf a = true) (hb : fpIsInf b = true) (hs : fpSign a ≠ fpSign b) :
    fpAdd fmt a b ctl = invalid fmt ctl fpVXISI := by
  simp [fpAdd, (isInf_notNaN ha).1, (isInf_notNaN hb).1, addNumbers_infinities fmt ctl ha hb hs]

/-- Infinities of one sign subtracted (R253). -/
theorem fpSub_infinities (ha : fpIsInf a = true) (hb : fpIsInf b = true) (hs : fpSign a = fpSign b) :
    fpSub fmt a b ctl = invalid fmt ctl fpVXISI := by
  obtain ⟨_, hinf, _⟩ := class_negate b
  have hne : fpSign a ≠ fpSign (fpNegate b) := by
    rw [fpSign_negate, hs]
    cases fpSign b <;> decide
  simp [fpSub, (isInf_notNaN ha).1, (isInf_notNaN hb).1, addNumbers_infinities fmt ctl ha (hinf.trans hb) hne]

theorem infinityTimesZero_iff :
    infinityTimesZero a c = true ↔
      (fpIsInf a = true ∧ fpIsZero c = true) ∨ (fpIsZero a = true ∧ fpIsInf c = true) := by
  simp [infinityTimesZero]

theorem notNaN_of_infinityTimesZero (h : infinityTimesZero a c = true) : fpIsNaN a = false ∧ fpIsNaN c = false := by
  rcases infinityTimesZero_iff.mp h with ⟨ha, hc⟩ | ⟨ha, hc⟩
  · exact ⟨(isInf_notNaN ha).1, (isZero_notNaN hc).1⟩
  · exact ⟨(isZero_notNaN ha).1, (isInf_notNaN hc).1⟩

theorem isSingle_of_infinityTimesZero (h : infinityTimesZero a c = true) : isSingle a = true ∧ isSingle c = true := by
  rcases infinityTimesZero_iff.mp h with ⟨ha, hc⟩ | ⟨ha, hc⟩
  · exact ⟨isSingle_of_isInf ha, isSingle_of_isZero hc⟩
  · exact ⟨isSingle_of_isZero ha, isSingle_of_isInf hc⟩

/-- Infinity times zero (R255). -/
theorem fpMul_infinityTimesZero (h : infinityTimesZero a c = true) :
    fpMul fmt a c ctl = invalid fmt ctl fpVXIMZ := by
  obtain ⟨ha, hc⟩ := notNaN_of_infinityTimesZero h
  simp [fpMul, ha, hc, h]

/-- Infinity divided by infinity (R257). -/
theorem fpDiv_infinities (ha : fpIsInf a = true) (hb : fpIsInf b = true) :
    fpDiv fmt a b ctl = invalid fmt ctl fpVXIDI := by
  simp [fpDiv, ha, hb, (isInf_notNaN ha).1, (isInf_notNaN hb).1]

/-- Zero divided by zero (R257). -/
theorem fpDiv_zeros (ha : fpIsZero a = true) (hb : fpIsZero b = true) : fpDiv fmt a b ctl = invalid fmt ctl fpVXZDZ := by
  simp [fpDiv, ha, hb, (isZero_notNaN ha).1, (isZero_notNaN hb).1, (isZero_notNaN ha).2, (isZero_notNaN hb).2]

/-- A finite number other than zero divided by zero (R246, R257). -/
theorem fpDiv_by_zero (hn : fpIsNaN a = false) (hi : fpIsInf a = false) (hz : fpIsZero a = false)
    (hb : fpIsZero b = true) : fpDiv fmt a b ctl = zeroDivide fmt ctl (fpSign a != fpSign b) := by
  simp [fpDiv, hn, hi, hz, hb, (isZero_notNaN hb).1, (isZero_notNaN hb).2]

theorem fpReciprocal_zero (free : BitVec 3) (hb : fpIsZero b = true) :
    fpReciprocal free b ctl = zeroDivide singleFormat ctl (fpSign b) := by
  simp [fpReciprocal, hb, (isZero_notNaN hb).1, (isZero_notNaN hb).2]

theorem fpReciprocalSqrt_zero (free : BitVec 3) (hb : fpIsZero b = true) :
    fpReciprocalSqrt free b ctl = zeroDivide doubleFormat ctl (fpSign b) := by
  simp [fpReciprocalSqrt, hb, (isZero_notNaN hb).1]

/-- The square root of a negative number (R260). -/
theorem fpReciprocalSqrt_negative (free : BitVec 3) (hn : fpIsNaN b = false) (hz : fpIsZero b = false)
    (hs : fpSign b = true) : fpReciprocalSqrt free b ctl = invalid doubleFormat ctl fpVXSQRT := by
  simp [fpReciprocalSqrt, hn, hz, hs]

/-- The default NaN and a withheld target keep their form under the final negation (R243 e). -/
theorem negateOutcome_invalid (cause : Word) : negateOutcome (invalid fmt ctl cause) = invalid fmt ctl cause := by
  have hnan : fpIsNaN defaultNaN = true := by decide
  unfold invalid
  split
  · rfl
  · simp only [negateOutcome, deliver, hnan, if_true]

/-- Infinity times zero in a multiply-add (section 4). -/
theorem fpMulAdd_infinityTimesZero (subtract negate : Bool) (hb : fpIsNaN b = false)
    (h : infinityTimesZero a c = true) : fpMulAdd fmt subtract negate a c b ctl = invalid fmt ctl fpVXIMZ := by
  obtain ⟨ha, hc⟩ := notNaN_of_infinityTimesZero h
  have hnumbers : ∀ b, mulAddNumbers fmt ctl a c b = invalid fmt ctl fpVXIMZ := fun _ => if_pos h
  simp only [fpMulAdd, ha, hb, hc, Bool.or_self, Bool.false_eq_true, if_false, hnumbers, negateOutcome_invalid, ite_self]

/-- The sign of the addend of a multiply-add. -/
theorem fpSign_addend (subtract : Bool) (b : Dword) :
    fpSign (if subtract then fpNegate b else b) = (fpSign b != subtract) := by
  cases subtract
  · simp
  · simp [fpSign_negate]

/-- An infinite product and an infinity of the other sign (section 4). -/
theorem fpMulAdd_infinities (subtract negate : Bool) (hac : (fpIsInf a || fpIsInf c) = true)
    (ha : fpIsNaN a = false ∧ fpIsZero a = false) (hc : fpIsNaN c = false ∧ fpIsZero c = false)
    (hb : fpIsInf b = true) (hs : (fpSign a ^^ fpSign c ^^ fpSign b) ≠ subtract) :
    fpMulAdd fmt subtract negate a c b ctl = invalid fmt ctl fpVXISI := by
  obtain ⟨_, hinf, _⟩ := class_negate b
  have himz : infinityTimesZero a c = false := by simp [infinityTimesZero, ha.2, hc.2]
  have hb' : fpIsInf (if subtract then fpNegate b else b) = true := by
    split
    · exact hinf.trans hb
    · exact hb
  have hsign : (fpSign (if subtract then fpNegate b else b) != (fpSign a != fpSign c)) = true := by
    rw [fpSign_addend]
    revert hs
    cases fpSign a <;> cases fpSign b <;> cases fpSign c <;> cases subtract <;> decide
  have hnumbers : mulAddNumbers fmt ctl a c (if subtract then fpNegate b else b) = invalid fmt ctl fpVXISI := by
    simp only [mulAddNumbers, himz, hac, hb', hsign, Bool.false_eq_true, if_false, if_true, Bool.and_self]
  simp only [fpMulAdd, ha.1, (isInf_notNaN hb).1, hc.1, Bool.or_self, Bool.false_eq_true, if_false, hnumbers,
    negateOutcome_invalid, ite_self]

end

/-- The exceptions of these operations with their enables (R245, R246). -/
abbrev Enables (cause enable : Nat) : Prop := (cause, enable) ∈ [(8, 24), (9, 24), (10, 24), (11, 24), (22, 24), (5, 27)]

/-- What an instruction leaves that raises one exception. -/
theorem FloatWritten.flagged_one {s t : State} {d : BitVec 5} {rc : Bool} {v : Dword} {fprf : BitVec 5}
    {cause enable : Nat} (hcause : Enables cause enable)
    (h : FloatWritten s t d rc (flagged (bit s.fpscr enable) v fprf (bitMask cause))) :
    bit t.fpscr cause = true ∧ bit t.fpscr 13 = false ∧ bit t.fpscr 14 = false ∧
      (bit s.fpscr cause = false → bit t.fpscr 0 = true) ∧ FxFollows s t ∧
      (∀ k, k ∈ [3, 4, 5, 6, 7, 8, 9, 10, 11, 12, 21, 22, 23] → k ≠ cause → bit t.fpscr k = bit s.fpscr k) ∧
      (bit s.fpscr enable = false → t.f d = v) ∧
      (bit s.fpscr enable = true → t.f d = s.f d ∧ bit t.fpscr 1 = true ∧ BitsKept s.fpscr t.fpscr 15 5) := by
  have hplaces : ∀ p ∈ [(8, 24), (9, 24), (10, 24), (11, 24), (22, 24), (5, 27)],
      p.1 ∈ exceptionPlaces ∧ (p.2 = 24 ∧ bit fpInvalidBits p.1 = true ∨ p = (5, 27)) := by decide
  obtain ⟨hplace, hkind⟩ := hplaces (cause, enable) hcause
  have hlt := exceptionPlace_lt hplace
  obtain ⟨hfr, hfi, hbits⟩ := h.flagged_fpscr
  have hmask : bit (bitMask cause) cause = true := by rw [bit_bitMask hlt hlt, decide_eq_true rfl]
  have hset : bit t.fpscr cause = true := by rw [hbits cause hplace, hmask, Bool.or_true]
  refine ⟨hset, hfr, hfi, fun hoff => ?_, h.fx, fun k hk hne => ?_, fun hoff => ?_, fun hon => ?_⟩
  · rw [h.fx, Bool.or_eq_true, List.any_eq_true]
    exact .inr ⟨cause, hplace, by rw [hset, hoff]; rfl⟩
  · rw [hbits k hk, bit_bitMask hlt (exceptionPlace_lt hk), decide_eq_false hne, Bool.or_false]
  · rw [hoff] at h
    exact h.flagged_delivered.1
  · have hfex : bit t.fpscr 1 = true := by
      rcases hkind with ⟨rfl, hinvalid⟩ | hzero
      · exact h.fex_of_invalid hon hinvalid hplace hmask
      · obtain ⟨rfl, rfl⟩ := Prod.mk.inj hzero
        exact h.fex_of_zeroDivide hon hmask
    rw [hon] at h
    exact ⟨h.flagged_withheld.1, hfex, h.flagged_withheld.2⟩

/-- An instruction that raises one exception and delivers `v` where it is not enabled. -/
def RaisesOne (s : State) (i : Instr) (d : BitVec 5) (rc : Bool) (cause enable : Nat) (v : Dword) : Prop :=
  ∃ (single : Bool) (operands : List Dword) (compute : FpControl → FpOutcome) (fprf : BitVec 5),
    exec i s = floatArith s single d operands rc compute ∧ (single = true → operands.all isSingle = true) ∧
      ∀ free, compute (fpControl s.fpscr free) = flagged (bit s.fpscr enable) v fprf (bitMask cause)

theorem RaisesOne.completes {s : State} {i : Instr} {d : BitVec 5} {rc : Bool} {cause enable : Nat} {v : Dword}
    (h : RaisesOne s i d rc cause enable v) (hq : s.FloatQuiet) (hni : bit s.fpscr 29 = false) :
    Completes (exec i s) fun t =>
      ∃ fprf, FloatWritten s t d rc (flagged (bit s.fpscr enable) v fprf (bitMask cause)) := by
  obtain ⟨single, operands, compute, fprf, hexec, hsingle, hcompute⟩ := h
  rw [hexec]
  refine (floatArith_computed hq hni hsingle d rc compute).imp fun t ht => ⟨fprf, ?_⟩
  rw [hcompute] at ht
  exact ht

/-! ### Instructions of either precision -/

section
variable (s : State) (single : Bool) (d a b c : BitVec 5) (rc : Bool)

theorem exec_add_of : exec (if single then .faddsx d a b rc else .faddx d a b rc) s =
    floatArith s single d [s.f a, s.f b] rc (fpAdd (formatOf single) (s.f a) (s.f b)) := by cases single <;> rfl

theorem exec_sub_of : exec (if single then .fsubsx d a b rc else .fsubx d a b rc) s =
    floatArith s single d [s.f a, s.f b] rc (fpSub (formatOf single) (s.f a) (s.f b)) := by cases single <;> rfl

theorem exec_mul_of : exec (if single then .fmulsx d a c rc else .fmulx d a c rc) s =
    floatArith s single d [s.f a, s.f c] rc (fpMul (formatOf single) (s.f a) (s.f c)) := by cases single <;> rfl

theorem exec_div_of : exec (if single then .fdivsx d a b rc else .fdivx d a b rc) s =
    floatArith s single d [s.f a, s.f b] rc (fpDiv (formatOf single) (s.f a) (s.f b)) := by cases single <;> rfl

/-- Every multiply-add of one precision. -/
theorem exec_mulAdd_of {i : Instr} {subtract : Bool}
    (h : (i, subtract) ∈
      (if single then
        [(Instr.fmaddsx d a b c rc, false), (.fnmaddsx d a b c rc, false), (.fmsubsx d a b c rc, true),
          (.fnmsubsx d a b c rc, true)]
      else
        [(Instr.fmaddx d a b c rc, false), (.fnmaddx d a b c rc, false), (.fmsubx d a b c rc, true),
          (.fnmsubx d a b c rc, true)])) :
    ∃ negate, exec i s = floatArith s single d [s.f a, s.f b, s.f c] rc
      (fpMulAdd (formatOf single) subtract negate (s.f a) (s.f c) (s.f b)) := by
  cases single with
  | false =>
    simp only [Bool.false_eq_true, if_false, List.mem_cons, List.not_mem_nil, or_false, Prod.mk.injEq] at h
    rcases h with ⟨rfl, rfl⟩ | ⟨rfl, rfl⟩ | ⟨rfl, rfl⟩ | ⟨rfl, rfl⟩
    exacts [⟨false, rfl⟩, ⟨true, rfl⟩, ⟨false, rfl⟩, ⟨true, rfl⟩]
  | true =>
    simp only [if_true, List.mem_cons, List.not_mem_nil, or_false, Prod.mk.injEq] at h
    rcases h with ⟨rfl, rfl⟩ | ⟨rfl, rfl⟩ | ⟨rfl, rfl⟩ | ⟨rfl, rfl⟩
    exacts [⟨false, rfl⟩, ⟨true, rfl⟩, ⟨false, rfl⟩, ⟨true, rfl⟩]

end

theorem infinityOf_cases (neg : Bool) : infinityOf neg = if neg then 0xFFF0000000000000 else 0x7FF0000000000000 := by
  cases neg <;> decide

section
variable {s : State} {i : Instr} {d : BitVec 5} {rc single : Bool} {operands : List Dword}
  {compute : FpControl → FpOutcome} (hexec : exec i s = floatArith s single d operands rc compute)
  (hsingle : single = true → operands.all isSingle = true)
include hexec hsingle

/-- An instruction whose outcome is an invalid operation. -/
theorem RaisesOne.of_invalid {fmt : Format} {cause : Nat}
    (hcompute : ∀ ctl, compute ctl = invalid fmt ctl (bitMask cause)) :
    RaisesOne s i d rc cause 24 0x7FF8000000000000 :=
  ⟨single, operands, compute, _, hexec, hsingle, fun _ => hcompute _⟩

/-- An instruction whose outcome is a division by zero. -/
theorem RaisesOne.of_zeroDivide {fmt : Format} {neg : Bool} (hcompute : ∀ ctl, compute ctl = zeroDivide fmt ctl neg) :
    RaisesOne s i d rc 5 27 (if neg then 0xFFF0000000000000 else 0x7FF0000000000000) := by
  rw [← infinityOf_cases]
  exact ⟨single, operands, compute, _, hexec, hsingle, fun _ => hcompute _⟩

end

/-- Settles O50: each case names the operation's equation and the exception it raises. -/
theorem invalidOperationsAndZeroDivide : Obligations.InvalidOperationsAndZeroDivide := by
  intro d a b c rc single subtract s i cause enable result hq hni hsingle hi
  suffices h : RaisesOne s i d rc cause enable result ∧ Enables cause enable from
    (h.1.completes hq hni).imp fun t ⟨_, ht⟩ => ht.flagged_one h.2
  have two : single = true → [s.f a, s.f b].all isSingle = true := fun h => by
    obtain ⟨ha, hb⟩ := hsingle h
    simp [ha, hb]
  rcases hi with ⟨rfl, ha, hb, hs, rfl, rfl, rfl⟩ | ⟨rfl, ha, hb, hs, rfl, rfl, rfl⟩ | ⟨rfl, himz, rfl, rfl, rfl⟩ |
    ⟨rfl, ha, hb, rfl, rfl, rfl⟩ | ⟨rfl, ha, hb, rfl, rfl, rfl⟩ | ⟨rfl, hn, hinf, hz, hb, rfl, rfl, rfl⟩ |
    ⟨hi, hb, rfl, rfl, rfl⟩ | ⟨rfl, hn, hz, hs, rfl, rfl, rfl⟩ | ⟨hi, hc, rfl, rfl, hops⟩
  · exact ⟨.of_invalid (exec_add_of s single d a b rc) two fun ctl => fpAdd_infinities _ ctl ha hb hs, by decide⟩
  · exact ⟨.of_invalid (exec_sub_of s single d a b rc) two fun ctl => fpSub_infinities _ ctl ha hb hs, by decide⟩
  · exact ⟨.of_invalid (exec_mul_of s single d a b rc) two fun ctl =>
      fpMul_infinityTimesZero _ ctl (infinityTimesZero_iff.mpr himz), by decide⟩
  · exact ⟨.of_invalid (exec_div_of s single d a b rc) two fun ctl => fpDiv_infinities _ ctl ha hb, by decide⟩
  · exact ⟨.of_invalid (exec_div_of s single d a b rc) two fun ctl => fpDiv_zeros _ ctl ha hb, by decide⟩
  · have hsign : (if fpSign (s.f a) = fpSign (s.f b) then 0x7FF0000000000000 else 0xFFF0000000000000 : Dword) =
        if fpSign (s.f a) != fpSign (s.f b) then 0xFFF0000000000000 else 0x7FF0000000000000 := by
      cases fpSign (s.f a) <;> cases fpSign (s.f b) <;> rfl
    rw [hsign]
    exact ⟨.of_zeroDivide (exec_div_of s single d a b rc) two fun ctl => fpDiv_by_zero _ ctl hn hinf hz hb, by decide⟩
  · have one : [s.f b].all isSingle = true := by simp [isSingle_of_isZero hb]
    rcases hi with rfl | rfl
    · exact ⟨.of_zeroDivide (exec_fresx s d b rc) (fun _ => one) fun ctl => fpReciprocal_zero ctl _ hb, by decide⟩
    · exact ⟨.of_zeroDivide (exec_frsqrtex s d b rc) (fun _ => one) fun ctl => fpReciprocalSqrt_zero ctl _ hb, by decide⟩
  · exact ⟨.of_invalid (exec_frsqrtex s d b rc) nofun fun ctl => fpReciprocalSqrt_negative ctl _ hn hz hs, by decide⟩
  · have three : single = true → [s.f a, s.f b, s.f c].all isSingle = true := fun h => by
      obtain ⟨ha, hb⟩ := hsingle h
      simp [ha, hb, hc h]
    obtain ⟨negate, hexec⟩ := exec_mulAdd_of s single d a b c rc hi
    rcases hops with ⟨hb, himz, rfl⟩ | ⟨hac, hnumbers, hb, hs, rfl⟩
    · exact ⟨.of_invalid hexec three fun ctl =>
        fpMulAdd_infinityTimesZero _ ctl subtract negate hb (infinityTimesZero_iff.mpr himz), by decide⟩
    · exact ⟨.of_invalid hexec three fun ctl => fpMulAdd_infinities _ ctl subtract negate (Bool.or_eq_true .. ▸ hac)
        (hnumbers a (by simp)) (hnumbers c (by simp)) hb hs, by decide⟩

end Sys2Proof.Machine
end

section
namespace Sys2Proof.Machine

/-! ## One rounding (43_floating_point.md R242, R247 to R249) -/

/-- The double or the single format. -/
def IsFormat (fmt : Format) : Prop := fmt = doubleFormat ∨ fmt = singleFormat

/-- What both formats keep: their numbers are doubles, and the exponent adjustment leads into the range of doubles. -/
theorem IsFormat.bounds {fmt : Format} (h : IsFormat fmt) :
    fmt.precision ≤ 53 ∧ -1074 ≤ fmt.emin - fmt.precision + 1 ∧ fmt.emin + fmt.adjust ≤ 1023 ∧ fmt.emax ≤ 1023 ∧
      -1074 ≤ fmt.emax + 1 - fmt.precision - fmt.adjust ∧ fmt.emin < fmt.emax ∧ fmt.emin + 1 - fmt.adjust ≤ 1023 := by
  rcases h with rfl | rfl <;> decide

/-- The exponent of the unit to which a number with exponent `e` is rounded. -/
def roundingExponent (fmt : Format) (ue : Bool) (e : Int) : Int :=
  if decide (e < fmt.emin) && !ue then fmt.emin - fmt.precision + 1 else e - fmt.precision + 1

/-- A rounded size lies above the range of the format. -/
def overflowsFormat (fmt : Format) (y : Rat) : Bool := decide (powerOfTwo (fmt.emax + 1) ≤ magnitude y)

/-- The exponent adjustment of an enabled underflow or overflow (R247, R248). -/
def adjustment (fmt : Format) (ctl : FpControl) (e : Int) (y : Rat) : Rat :=
  if decide (e < fmt.emin) && ctl.ue then powerOfTwo fmt.adjust
  else if overflowsFormat fmt y && ctl.oe then powerOfTwo (-fmt.adjust) else 1

/-- An outcome is the number `x` with exponent `e` rounded once to `y`, then negated where `neg`, and delivered as `v`:
overflow, underflow and inexact with their enables (R242, R247 to R249, R266). -/
structure RoundedOnce (fmt : Format) (ctl : FpControl) (x : Rat) (neg : Bool) (e : Int) (y : Rat) (v : Dword)
    (o : FpOutcome) : Prop where
  rounds : RoundsTo (powerOfTwo (roundingExponent fmt ctl.ue e)) ctl.rn x y
  value : o.value = some v
  notNaN : fpIsNaN v = false
  sign : fpSign v = (decide (x < 0) != neg)
  real : (overflowsFormat fmt y && !ctl.oe) = false → realOf v = (if neg then -1 else 1) * y * adjustment fmt ctl e y
  overflowed : (overflowsFormat fmt y && !ctl.oe) = true →
    v = if ctl.rn = 0 ∨ (ctl.rn = 2 ∧ 0 < x) ∨ (ctl.rn = 3 ∧ x < 0) then infinityOf (decide (x < 0) != neg)
      else largestOf fmt (decide (x < 0) != neg)
  fprf : o.fprf = some
    (if (decide (e < fmt.emin) && ctl.ue) || (overflowsFormat fmt y && ctl.oe) then
      classBits (decide (x < 0) != neg) .normalized
    else fprfOf fmt v)
  raised : o.raised = (if overflowsFormat fmt y then fpOX else 0) |||
    (if decide (e < fmt.emin) && (ctl.ue || decide (y ≠ x)) then fpUX else 0) |||
    (if decide (y ≠ x) || (overflowsFormat fmt y && !ctl.oe) then fpXX else 0)
  fi : o.fi = (decide (y ≠ x) || (overflowsFormat fmt y && !ctl.oe))
  fr : (overflowsFormat fmt y && !ctl.oe) = false → o.fr = decide (magnitude x < magnitude y)

/-! ### The rounded significand -/

section
variable {x : Exact} (hd : 0 < x.den)

/-- The rounded number, its sign given back. -/
def Exact.rounded (x : Exact) (q : Int) (rn : BitVec 2) : Rat :=
  signFactor x.neg * (((x.roundTo q rn).significand : Rat) * 2 ^ q)

theorem Exact.abs_rounded (x : Exact) (q : Int) (rn : BitVec 2) :
    |x.rounded q rn| = ((x.roundTo q rn).significand : Rat) * 2 ^ q :=
  abs_signFactor_mul _ (by positivity)

theorem Exact.neg_eq {x : Exact} (hx : x.value ≠ 0) : x.neg = decide (x.value < 0) := by
  have hpos : 0 < x.size := x.abs_value ▸ abs_pos.mpr hx
  rw [x.value_eq]
  cases x.neg <;> simp [signFactor] <;> linarith

include hd

theorem Exact.inexact_eq (q : Int) (rn : BitVec 2) :
    (x.roundTo q rn).inexact = decide (x.rounded q rn ≠ x.value) := by
  rw [Bool.eq_iff_iff, decide_eq_true_iff, Exact.roundTo_inexact_iff hd, Exact.rounded, x.value_eq]
  cases x.neg <;> simp [signFactor]

theorem Exact.incremented_eq (q : Int) (rn : BitVec 2) :
    (x.roundTo q rn).incremented = decide (magnitude x.value < magnitude (x.rounded q rn)) := by
  rw [Bool.eq_iff_iff, decide_eq_true_iff, Exact.roundTo_incremented_iff hd, magnitude_eq, magnitude_eq, x.abs_value,
    x.abs_rounded]

/-- Rounding to a unit not too small for the exponent keeps the precision. -/
theorem Exact.significand_le {q e : Int} {p : Nat} (rn : BitVec 2) (hsize : x.size < 2 ^ (e + 1)) (hq : e + 1 ≤ q + p) :
    (x.roundTo q rn).significand ≤ 2 ^ p := by
  obtain ⟨hlt, _⟩ := x.roundTo_near hd q rn
  have hpow : (2 : Rat) ^ (e + 1) ≤ 2 ^ p * 2 ^ q := by
    rw [two_pow_mul_two_zpow]
    exact zpow_le_zpow_right₀ (by norm_num) (by omega)
  have hprod : ((x.roundTo q rn).significand : Rat) * 2 ^ q < (2 ^ p + 1) * 2 ^ q := by linarith
  have hsig : ((x.roundTo q rn).significand : Rat) < 2 ^ p + 1 := lt_of_mul_lt_mul_right hprod (two_zpow_pos q).le
  have hnat : (x.roundTo q rn).significand < 2 ^ p + 1 := by exact_mod_cast hsig
  omega

end

/-- A size of at least `2^(n+1)`, by its highest bit. -/
theorem overflow_iff_log2 (m : Nat) (q n : Int) :
    (m ≠ 0 ∧ n < (m.log2 : Int) + q) ↔ (2 : Rat) ^ (n + 1) ≤ m * 2 ^ q := by
  constructor
  · rintro ⟨hm, hlt⟩
    calc (2 : Rat) ^ (n + 1) ≤ 2 ^ ((m.log2 : Int) + q) := zpow_le_zpow_right₀ (by norm_num) (by omega)
      _ = 2 ^ (m.log2 : Int) * 2 ^ q := zpow_add₀ (by norm_num) _ _
      _ ≤ m * 2 ^ q := mul_le_mul_of_nonneg_right (two_zpow_le_natCast hm) (two_zpow_pos q).le
  · intro h
    have hm : m ≠ 0 := by
      rintro rfl
      rw [Nat.cast_zero, zero_mul] at h
      exact absurd h (not_le.mpr (two_zpow_pos _))
    have hlt := h.trans_lt (mul_lt_mul_of_pos_right (natCast_lt_two_zpow m) (two_zpow_pos q))
    rw [← zpow_add₀ (by norm_num), zpow_lt_zpow_iff_right₀ (by norm_num)] at hlt
    exact ⟨hm, by omega⟩

/-- A significand of the format's precision, in the range of doubles after the scale is shifted. -/
theorem packable_of_precision {m p : Nat} {q : Int} (hm : m ≤ 2 ^ p) (hp : p ≤ 53) (hq : -1074 ≤ q)
    (hrange : q + p ≤ 1023) : Packable m q where
  bits := hm.trans (Nat.pow_le_pow_right (by omega) hp)
  range := by
    have hm' : (m : Rat) ≤ 2 ^ p := by exact_mod_cast hm
    calc (m : Rat) * 2 ^ q ≤ 2 ^ p * 2 ^ q := mul_le_mul_of_nonneg_right hm' (two_zpow_pos q).le
      _ = 2 ^ ((p : Int) + q) := two_pow_mul_two_zpow p q
      _ < 2 ^ (1024 : Int) := zpow_lt_zpow_right₀ (by norm_num) (by omega)
  unit := .inl hq

theorem packDouble_notNaN {neg : Bool} {m : Nat} {q : Int} (h : Packable m q) : fpIsNaN (packDouble neg m q) = false :=
  ((finite_iff _).mpr (packDouble_spec h).2.1).1

/-- A number packed after its scale is shifted stands for the number times that power. -/
theorem realOf_packDouble_adjusted {x : Exact} {q k : Int} {rn : BitVec 2}
    (h : Packable (x.roundTo q rn).significand (q + k)) :
    realOf (packDouble x.neg (x.roundTo q rn).significand (q + k)) = 1 * x.rounded q rn * powerOfTwo k := by
  rw [(packDouble_spec h).2.2, powerOfTwo_eq, Exact.rounded, zpow_add₀ (by norm_num)]
  ring

/-- The unit of a rounding without an enabled underflow. -/
theorem roundingExponent_other {fmt : Format} {ue : Bool} {e : Int} (h : (decide (e < fmt.emin) && ue) = false) :
    roundingExponent fmt ue e =
      max (e - fmt.precision + 1) (fmt.emin - fmt.precision + 1) := by
  unfold roundingExponent
  by_cases htiny : e < fmt.emin
  · rw [decide_eq_true htiny, Bool.true_and] at h
    rw [h, decide_eq_true htiny]
    exact (max_eq_right (by omega)).symm
  · rw [decide_eq_false htiny]
    exact (max_eq_left (by omega)).symm

/-- Underflow without its enable is a tiny number rounded inexactly (R248). -/
theorem underflow_flag {tiny ue : Bool} (h : (tiny && ue) = false) (inexact : Bool) :
    (tiny && (ue || inexact)) = (tiny && inexact) := by
  rw [Bool.and_or_distrib_left, h, Bool.false_or]

/-- What a disabled overflow delivers has the sign given, is no NaN, and its negation is that of the other sign (R247). -/
theorem overflow_values {fmt : Format} (h : IsFormat fmt) (neg : Bool) :
    (fpSign (infinityOf neg) = neg ∧ fpIsNaN (infinityOf neg) = false ∧
        fpNegate (infinityOf neg) = infinityOf (!neg)) ∧
      fpSign (largestOf fmt neg) = neg ∧ fpIsNaN (largestOf fmt neg) = false ∧
        fpNegate (largestOf fmt neg) = largestOf fmt (!neg) := by
  rcases h with rfl | rfl <;> cases neg <;> decide

/-- A disabled overflow goes to an infinity where the mode rounds away from zero (R247). -/
theorem overflowValue_eq {fmt : Format} {rn : BitVec 2} {x : Rat} (hx : x ≠ 0) :
    overflowValue fmt rn (decide (x < 0)) =
      if rn = 0 ∨ (rn = 2 ∧ 0 < x) ∨ (rn = 3 ∧ x < 0) then infinityOf (decide (x < 0))
      else largestOf fmt (decide (x < 0)) := by
  have hpos : (!decide (x < 0)) = true ↔ 0 < x := by
    rw [Bool.not_eq_true', decide_eq_false_iff_not, not_lt]
    exact ⟨fun h => lt_of_le_of_ne h hx.symm, le_of_lt⟩
  refine if_congr ?_ rfl rfl
  rw [hpos, decide_eq_true_iff]

/-! ### The ways of `roundNonzero` -/

/-- A rounding without an enabled underflow, by whether the rounded number lies above the range. -/
theorem roundNonzero_eq_other {fmt : Format} {ctl : FpControl} {x : Exact}
    (h : (decide (x.exponent < fmt.emin) && ctl.ue) = false) :
    let q := roundingExponent fmt ctl.ue x.exponent
    let r := x.roundTo q ctl.rn
    roundNonzero fmt ctl x =
      if overflowsFormat fmt (x.rounded q ctl.rn) then
        if ctl.oe then
          ⟨some (packDouble x.neg r.significand (q - fmt.adjust)), some (classBits x.neg .normalized), r.incremented,
            r.inexact, fpOX ||| inexactBits r⟩
        else
          ⟨some (overflowValue fmt ctl.rn x.neg), some (fprfOf fmt (overflowValue fmt ctl.rn x.neg)), ctl.freeFr, true,
            fpOX ||| fpXX⟩
      else
        ⟨some (packDouble x.neg r.significand q), some (fprfOf fmt (packDouble x.neg r.significand q)), r.incremented,
          r.inexact, (if decide (x.exponent < fmt.emin) && r.inexact then fpUX else 0) ||| inexactBits r⟩ := by
  intro q r
  have hover : r.significand ≠ 0 ∧ fmt.emax < (r.significand.log2 : Int) + q ↔
      overflowsFormat fmt (x.rounded q ctl.rn) = true := by
    rw [overflow_iff_log2, overflowsFormat, powerOfTwo_eq, magnitude_eq, Exact.abs_rounded, decide_eq_true_iff]
  have hunfold : roundNonzero fmt ctl x =
      if r.significand ≠ 0 ∧ fmt.emax < (r.significand.log2 : Int) + q then
        if ctl.oe then
          ⟨some (packDouble x.neg r.significand (q - fmt.adjust)), some (classBits x.neg .normalized), r.incremented,
            r.inexact, fpOX ||| inexactBits r⟩
        else
          ⟨some (overflowValue fmt ctl.rn x.neg), some (fprfOf fmt (overflowValue fmt ctl.rn x.neg)), ctl.freeFr, true,
            fpOX ||| fpXX⟩
      else
        ⟨some (packDouble x.neg r.significand q), some (fprfOf fmt (packDouble x.neg r.significand q)), r.incremented,
          r.inexact, (if decide (x.exponent < fmt.emin) && r.inexact then fpUX else 0) ||| inexactBits r⟩ := by
    have hq : q = max (x.exponent - fmt.precision + 1) (fmt.emin - fmt.precision + 1) :=
      roundingExponent_other h
    have hr : r = x.roundTo q ctl.rn := rfl
    rw [hr, hq]
    exact if_neg (by rw [h]; exact Bool.false_ne_true)
  rw [hunfold, if_congr hover rfl rfl]

theorem significand_le_other {fmt : Format} {ctl : FpControl} {x : Exact} (hn : x.num ≠ 0) (hd : 0 < x.den)
    (h : (decide (x.exponent < fmt.emin) && ctl.ue) = false) :
    (x.roundTo (roundingExponent fmt ctl.ue x.exponent) ctl.rn).significand ≤ 2 ^ fmt.precision := by
  obtain ⟨_, hsize⟩ := Exact.exponent_spec hn hd
  have hq := roundingExponent_other h
  exact Exact.significand_le hd ctl.rn hsize (by omega)

/-- A rounded number above the range has a unit large enough for the exponent to be lowered. -/
theorem roundingExponent_ge_of_overflow {fmt : Format} {ctl : FpControl} {x : Exact} (hn : x.num ≠ 0) (hd : 0 < x.den)
    (h : (decide (x.exponent < fmt.emin) && ctl.ue) = false)
    (hover : overflowsFormat fmt (x.rounded (roundingExponent fmt ctl.ue x.exponent) ctl.rn) = true) :
    fmt.emax + 1 - fmt.precision ≤ roundingExponent fmt ctl.ue x.exponent := by
  have hsig : ((x.roundTo (roundingExponent fmt ctl.ue x.exponent) ctl.rn).significand : Rat) ≤ 2 ^ fmt.precision := by
    exact_mod_cast significand_le_other hn hd h
  rw [overflowsFormat, powerOfTwo_eq, magnitude_eq, Exact.abs_rounded, decide_eq_true_iff] at hover
  have hle := hover.trans (mul_le_mul_of_nonneg_right hsig (two_zpow_pos _).le)
  rw [two_pow_mul_two_zpow, zpow_le_zpow_iff_right₀ (by norm_num)] at hle
  omega

theorem or_zero_word (w : Word) : w ||| 0 = w := BitVec.or_zero

theorem zero_or_word (w : Word) : 0 ||| w = w := BitVec.zero_or

section
variable {fmt : Format} (hfmt : IsFormat fmt) {ctl : FpControl} {x : Exact} (hn : x.num ≠ 0) (hd : 0 < x.den)
  (hlow : -1022 ≤ x.exponent + fmt.adjust) (hhigh : x.exponent + 1 - fmt.adjust ≤ 1023)
include hfmt hn hd hlow

/-- An enabled underflow: the exponent is raised (R248). -/
theorem roundNonzero_underflow (htiny : x.exponent < fmt.emin) (hue : ctl.ue = true) :
    ∃ v, RoundedOnce fmt ctl x.value false x.exponent (x.rounded (x.exponent - fmt.precision + 1) ctl.rn) v
      (roundNonzero fmt ctl x) := by
  obtain ⟨hp, _, hadjust, hemax, _, hemin, _⟩ := hfmt.bounds
  obtain ⟨_, hsize⟩ := Exact.exponent_spec hn hd
  have hneg := Exact.neg_eq ((Exact.num_ne_zero_iff hd).mp hn)
  have hsig := Exact.significand_le (q := x.exponent - fmt.precision + 1) (p := fmt.precision) hd ctl.rn hsize (by omega)
  have hpack : Packable (x.roundTo (x.exponent - fmt.precision + 1) ctl.rn).significand
      (x.exponent - fmt.precision + 1 + fmt.adjust) :=
    packable_of_precision hsig hp (by omega) (by omega)
  have hround : roundNonzero fmt ctl x =
      let r := x.roundTo (x.exponent - fmt.precision + 1) ctl.rn
      ⟨some (packDouble x.neg r.significand (x.exponent - fmt.precision + 1 + fmt.adjust)),
        some (classBits x.neg .normalized), r.incremented, r.inexact, fpUX ||| inexactBits r⟩ := by
    have hcond : (decide (x.exponent < fmt.emin) && ctl.ue) = true := by rw [hue, decide_eq_true htiny, Bool.true_and]
    exact if_pos hcond
  have hover : overflowsFormat fmt (x.rounded (x.exponent - fmt.precision + 1) ctl.rn) = false := by
    rw [overflowsFormat, powerOfTwo_eq, magnitude_eq, Exact.abs_rounded, decide_eq_false_iff_not, not_le]
    have hsig' : ((x.roundTo (x.exponent - fmt.precision + 1) ctl.rn).significand : Rat) ≤ 2 ^ fmt.precision := by
      exact_mod_cast hsig
    calc _ ≤ (2 : Rat) ^ fmt.precision * 2 ^ (x.exponent - fmt.precision + 1) :=
          mul_le_mul_of_nonneg_right hsig' (two_zpow_pos _).le
      _ = 2 ^ ((fmt.precision : Int) + (x.exponent - fmt.precision + 1)) := two_pow_mul_two_zpow _ _
      _ < 2 ^ (fmt.emax + 1) := zpow_lt_zpow_right₀ (by norm_num) (by omega)
  have hinexact := Exact.inexact_eq hd (x.exponent - fmt.precision + 1) ctl.rn
  refine ⟨_, ⟨?_, by rw [hround], packDouble_notNaN hpack, ?_, fun _ => ?_, fun h => ?_, ?_, ?_, ?_, fun _ => ?_⟩⟩
  · rw [roundingExponent, hue, Bool.not_true, Bool.and_false]
    exact Exact.roundTo_roundsTo hd _ _
  · rw [(packDouble_spec hpack).1, hneg, Bool.bne_false]
  · rw [adjustment, hue, decide_eq_true htiny]
    exact realOf_packDouble_adjusted hpack
  · rw [hover] at h
    cases h
  · rw [hround, hue, decide_eq_true htiny, hneg, Bool.bne_false]
    rfl
  · rw [hround, hover, hue, decide_eq_true htiny, ← hinexact]
    simp [inexactBits]
  · rw [hround, hover, ← hinexact, Bool.false_and, Bool.or_false]
  · rw [hround, ← Exact.incremented_eq hd]

omit hlow

/-- A number that overflows is not tiny. -/
theorem notTiny_of_overflow (h : (decide (x.exponent < fmt.emin) && ctl.ue) = false)
    (hover : overflowsFormat fmt (x.rounded (roundingExponent fmt ctl.ue x.exponent) ctl.rn) = true) :
    decide (x.exponent < fmt.emin) = false := by
  obtain ⟨_, _, _, _, _, hemin, _⟩ := hfmt.bounds
  have hge := roundingExponent_ge_of_overflow hn hd h hover
  have hq := roundingExponent_other h
  rw [decide_eq_false_iff_not]
  omega

/-- A rounded number in range (R242). -/
theorem roundNonzero_inRange (h : (decide (x.exponent < fmt.emin) && ctl.ue) = false)
    (hover : overflowsFormat fmt (x.rounded (roundingExponent fmt ctl.ue x.exponent) ctl.rn) = false) :
    ∃ v, RoundedOnce fmt ctl x.value false x.exponent
      (x.rounded (roundingExponent fmt ctl.ue x.exponent) ctl.rn) v (roundNonzero fmt ctl x) := by
  obtain ⟨hp, hunit, _, hemax, _, _, _⟩ := hfmt.bounds
  have hneg := Exact.neg_eq ((Exact.num_ne_zero_iff hd).mp hn)
  have hq := roundingExponent_other (fmt := fmt) h
  have hsig := significand_le_other hn hd h
  have hinexact := Exact.inexact_eq hd (roundingExponent fmt ctl.ue x.exponent) ctl.rn
  have hincremented := Exact.incremented_eq hd (roundingExponent fmt ctl.ue x.exponent) ctl.rn
  have hpack : Packable (x.roundTo (roundingExponent fmt ctl.ue x.exponent) ctl.rn).significand
      (roundingExponent fmt ctl.ue x.exponent) := by
    refine ⟨hsig.trans (Nat.pow_le_pow_right (by omega) hp), ?_, .inl (by omega)⟩
    rw [overflowsFormat, powerOfTwo_eq, magnitude_eq, Exact.abs_rounded, decide_eq_false_iff_not, not_le] at hover
    exact hover.trans_le (zpow_le_zpow_right₀ (by norm_num) (by omega))
  have hround := roundNonzero_eq_other h
  simp only [hover, Bool.false_eq_true, if_false] at hround
  refine ⟨_, ⟨Exact.roundTo_roundsTo hd _ _, by rw [hround], packDouble_notNaN hpack, ?_, fun _ => ?_, fun hw => ?_, ?_,
    ?_, ?_, fun _ => ?_⟩⟩
  · rw [(packDouble_spec hpack).1, hneg, Bool.bne_false]
  · simp only [adjustment, h, hover, Bool.false_and, Bool.false_eq_true, if_false, mul_one, one_mul]
    exact (packDouble_spec hpack).2.2
  · rw [hover, Bool.false_and] at hw
    cases hw
  · simp only [hround, h, hover, Bool.false_and, Bool.or_self, Bool.false_eq_true, if_false]
  · simp only [hround, hover, underflow_flag h, inexactBits, ← hinexact, Bool.false_and, Bool.or_false,
      Bool.false_eq_true, if_false, zero_or_word]
  · simp only [hround, hover, hinexact, Bool.false_and, Bool.or_false]
  · simp only [hround, hincremented]

/-- An enabled overflow: the exponent is lowered (R247). -/
theorem roundNonzero_enabledOverflow (h : (decide (x.exponent < fmt.emin) && ctl.ue) = false)
    (hover : overflowsFormat fmt (x.rounded (roundingExponent fmt ctl.ue x.exponent) ctl.rn) = true)
    (hoe : ctl.oe = true) (hhigh : x.exponent + 1 - fmt.adjust ≤ 1023) :
    ∃ v, RoundedOnce fmt ctl x.value false x.exponent
      (x.rounded (roundingExponent fmt ctl.ue x.exponent) ctl.rn) v (roundNonzero fmt ctl x) := by
  obtain ⟨hp, _, _, _, hadjust, _, hemin⟩ := hfmt.bounds
  have hneg := Exact.neg_eq ((Exact.num_ne_zero_iff hd).mp hn)
  have hinexact := Exact.inexact_eq hd (roundingExponent fmt ctl.ue x.exponent) ctl.rn
  have hincremented := Exact.incremented_eq hd (roundingExponent fmt ctl.ue x.exponent) ctl.rn
  have hq := roundingExponent_other h
  have hge := roundingExponent_ge_of_overflow hn hd h hover
  have hnormal := notTiny_of_overflow hfmt hn hd h hover
  have hround := roundNonzero_eq_other h
  have hpack : Packable (x.roundTo (roundingExponent fmt ctl.ue x.exponent) ctl.rn).significand
      (roundingExponent fmt ctl.ue x.exponent + -fmt.adjust) :=
    packable_of_precision (significand_le_other hn hd h) hp (by omega) (by omega)
  simp only [hover, hoe, if_true, Int.sub_eq_add_neg] at hround
  refine ⟨_, ⟨Exact.roundTo_roundsTo hd _ _, by rw [hround], packDouble_notNaN hpack, ?_, fun _ => ?_, fun hw => ?_, ?_,
    ?_, ?_, fun _ => ?_⟩⟩
  · rw [(packDouble_spec hpack).1, hneg, Bool.bne_false]
  · simp only [adjustment, h, hover, hoe, Bool.and_self, Bool.false_eq_true, if_false, if_true]
    exact realOf_packDouble_adjusted hpack
  · rw [hoe, Bool.not_true, Bool.and_false] at hw
    cases hw
  · simp only [hround, h, hover, hoe, Bool.and_self, Bool.false_or, if_true, hneg, Bool.bne_false]
  · simp only [hround, hover, hoe, hnormal, inexactBits, ← hinexact, Bool.false_and, Bool.and_false,
      Bool.not_true, Bool.or_false, Bool.false_eq_true, if_false, if_true, or_zero_word]
  · simp only [hround, hoe, hinexact, Bool.not_true, Bool.and_false, Bool.or_false]
  · simp only [hround, hincremented]

/-- A disabled overflow: an infinity or the largest number (R247). -/
theorem roundNonzero_disabledOverflow (h : (decide (x.exponent < fmt.emin) && ctl.ue) = false)
    (hover : overflowsFormat fmt (x.rounded (roundingExponent fmt ctl.ue x.exponent) ctl.rn) = true)
    (hoe : ctl.oe = false) :
    ∃ v, RoundedOnce fmt ctl x.value false x.exponent
      (x.rounded (roundingExponent fmt ctl.ue x.exponent) ctl.rn) v (roundNonzero fmt ctl x) := by
  have hvalue := (Exact.num_ne_zero_iff hd).mp hn
  have hneg := Exact.neg_eq hvalue
  have hnormal := notTiny_of_overflow hfmt hn hd h hover
  have hwrong := overflowValue_eq (fmt := fmt) (rn := ctl.rn) hvalue
  have hvalues := overflow_values hfmt (decide (x.value < 0))
  obtain ⟨hsign, hnan⟩ : fpSign (overflowValue fmt ctl.rn x.neg) = decide (x.value < 0) ∧
      fpIsNaN (overflowValue fmt ctl.rn x.neg) = false := by
    rw [hneg, hwrong]
    split
    · exact ⟨hvalues.1.1, hvalues.1.2.1⟩
    · exact ⟨hvalues.2.1, hvalues.2.2.1⟩
  have hround := roundNonzero_eq_other h
  simp only [hover, hoe, if_true, Bool.false_eq_true, if_false] at hround
  refine ⟨_, ⟨Exact.roundTo_roundsTo hd _ _, by rw [hround], hnan, ?_, fun hw => ?_, fun _ => ?_, ?_, ?_, ?_,
    fun hw => ?_⟩⟩
  · rw [hsign, Bool.bne_false]
  · rw [hover, hoe] at hw
    cases hw
  · rw [hneg, hwrong, Bool.bne_false]
  · simp only [hround, h, hover, hoe, Bool.and_false, Bool.or_self, Bool.false_eq_true, if_false]
  · simp only [hround, hover, hoe, hnormal, Bool.false_and, Bool.not_false, Bool.and_self, Bool.or_true,
      Bool.false_eq_true, if_false, if_true, or_zero_word]
  · simp only [hround, hover, hoe, Bool.not_false, Bool.and_self, Bool.or_true]
  · rw [hover, hoe] at hw
    cases hw

/-- One rounding, whatever it leads to. -/
theorem roundNonzero_rounds (hlow : -1022 ≤ x.exponent + fmt.adjust) (hhigh : x.exponent + 1 - fmt.adjust ≤ 1023) :
    ∃ y v, RoundedOnce fmt ctl x.value false x.exponent y v (roundNonzero fmt ctl x) := by
  cases h : decide (x.exponent < fmt.emin) && ctl.ue with
  | true =>
    obtain ⟨htiny, hue⟩ := Bool.and_eq_true_iff.mp h
    exact ⟨_, roundNonzero_underflow hfmt hn hd hlow (of_decide_eq_true htiny) hue⟩
  | false =>
    refine ⟨x.rounded (roundingExponent fmt ctl.ue x.exponent) ctl.rn, ?_⟩
    cases hover : overflowsFormat fmt (x.rounded (roundingExponent fmt ctl.ue x.exponent) ctl.rn) with
    | false => exact roundNonzero_inRange hfmt hn hd h hover
    | true =>
      cases hoe : ctl.oe with
      | true => exact roundNonzero_enabledOverflow hfmt hn hd h hover hoe hhigh
      | false => exact roundNonzero_disabledOverflow hfmt hn hd h hover hoe

end

end Sys2Proof.Machine
end

section
namespace Sys2Proof.Machine

/-! ## The exact results of the operations (43_floating_point.md R242) -/

theorem exactOf_den_pos (v : Dword) : 0 < (exactOf v).den := scaled_den_pos _ _ _

theorem exactOf_neg (v : Dword) : (exactOf v).neg = fpSign v := scaled_neg _ _ _

theorem signFactor_bne (a b : Bool) : signFactor (a != b) = signFactor a * signFactor b := by
  cases a <;> cases b <;> norm_num [signFactor]

theorem signFactor_div (a b : Bool) : signFactor a / signFactor b = signFactor a * signFactor b := by
  cases b <;> simp [signFactor, div_neg]

theorem Exact.mul_value (x y : Exact) : (x.mul y).value = x.value * y.value := by
  rw [Exact.value_eq, Exact.value_eq, Exact.value_eq]
  simp only [Exact.mul, signFactor_bne, Exact.size, Nat.cast_mul]
  rw [mul_mul_mul_comm, div_mul_div_comm]

theorem Exact.div_value (x y : Exact) : (x.div y).value = x.value / y.value := by
  rw [Exact.value_eq, Exact.value_eq, Exact.value_eq]
  simp only [Exact.div, signFactor_bne, Exact.size]
  rw [mul_div_mul_comm, div_div_div_eq, signFactor_div, Nat.cast_mul, Nat.cast_mul]

/-- The numerator of a sum. -/
theorem Exact.add_signed (x y : Exact) (rn : BitVec 2) :
    (x.add y rn).signed = x.signed * y.den + y.signed * x.den := by
  simp only [Exact.add]
  generalize x.signed * y.den + y.signed * x.den = n
  rcases lt_trichotomy n 0 with hlt | rfl | hgt
  · simp only [hlt.ne, if_false, Exact.signed, hlt, decide_true, if_true]
    omega
  · simp [Exact.signed]
  · simp only [hgt.ne', if_false, Exact.signed, not_lt.mpr hgt.le, decide_false, Bool.false_eq_true]
    omega

theorem Exact.add_value {x y : Exact} (hx : 0 < x.den) (hy : 0 < y.den) (rn : BitVec 2) :
    (x.add y rn).value = x.value + y.value := by
  have hx' : (x.den : Rat) ≠ 0 := by exact_mod_cast hx.ne'
  have hy' : (y.den : Rat) ≠ 0 := by exact_mod_cast hy.ne'
  have hden : ((x.add y rn).den : Rat) = x.den * y.den := Nat.cast_mul _ _
  rw [Exact.value, Exact.add_signed, hden, Exact.value, Exact.value, div_add_div _ _ hx' hy']
  push_cast
  ring

theorem realOf_addend (subtract : Bool) (b : Dword) :
    realOf (if subtract then fpNegate b else b) = if subtract then -realOf b else realOf b := by
  cases subtract
  · rfl
  · exact realOf_negate b

/-! ### Finite operands -/

/-- A finite double: no NaN and no infinity (R240). -/
def Finite (v : Dword) : Prop := fpIsNaN v = false ∧ fpIsInf v = false

theorem Finite.addend {b : Dword} (h : Finite b) (subtract : Bool) : Finite (if subtract then fpNegate b else b) := by
  obtain ⟨hn, hi, _⟩ := class_negate b
  cases subtract
  · exact h
  · exact ⟨hn.trans h.1, hi.trans h.2⟩

section
variable {a b c : Dword} (fmt : Format) (ctl : FpControl)

theorem addNumbers_finite (ha : Finite a) (hb : Finite b) :
    addNumbers fmt ctl a b = arithmeticResult fmt ctl ((exactOf a).add (exactOf b) ctl.rn) := by
  simp [addNumbers, ha.2, hb.2]

theorem fpAdd_finite (ha : Finite a) (hb : Finite b) :
    fpAdd fmt a b ctl = arithmeticResult fmt ctl ((exactOf a).add (exactOf b) ctl.rn) := by
  simp [fpAdd, ha.1, hb.1, addNumbers_finite fmt ctl ha hb]

theorem fpSub_finite (ha : Finite a) (hb : Finite b) :
    fpSub fmt a b ctl = arithmeticResult fmt ctl ((exactOf a).add (exactOf (fpNegate b)) ctl.rn) := by
  have hb' : Finite (fpNegate b) := hb.addend true
  simp [fpSub, ha.1, hb.1, addNumbers_finite fmt ctl ha hb']

theorem fpMul_finite (ha : Finite a) (hc : Finite c) :
    fpMul fmt a c ctl = arithmeticResult fmt ctl ((exactOf a).mul (exactOf c)) := by
  simp [fpMul, infinityTimesZero, ha.1, hc.1, ha.2, hc.2]

theorem fpDiv_finite (ha : Finite a) (hb : Finite b) (hz : fpIsZero b = false) :
    fpDiv fmt a b ctl = arithmeticResult fmt ctl ((exactOf a).div (exactOf b)) := by
  simp [fpDiv, ha.1, hb.1, ha.2, hb.2, hz]

/-- The result of a multiply-add before its sign is changed. -/
def negatedIf (negate : Bool) (o : FpOutcome) : FpOutcome := if negate then negateOutcome o else o

theorem fpMulAdd_finite (subtract negate : Bool) (ha : Finite a) (hb : Finite b) (hc : Finite c) :
    fpMulAdd fmt subtract negate a c b ctl = negatedIf negate (arithmeticResult fmt ctl
      (((exactOf a).mul (exactOf c)).add (exactOf (if subtract then fpNegate b else b)) ctl.rn)) := by
  have hb' := (hb.addend subtract).2
  simp only [fpMulAdd, mulAddNumbers, infinityTimesZero, ha.1, hb.1, hc.1, ha.2, hc.2, hb', Bool.false_and,
    Bool.and_false, Bool.or_self, Bool.false_eq_true, if_false, negatedIf]

theorem fpRoundSingle_finite (hb : Finite b) (hz : fpIsZero b = false) :
    fpRoundSingle b ctl = arithmeticResult singleFormat ctl (exactOf b) := by
  simp [fpRoundSingle, hb.1, hb.2, hz]

end

/-! ### The range of exact results -/

/-- A multiple of `2^low` smaller than `2^high`. -/
def InRange (low high : Int) (x : Rat) : Prop := (∃ n : Int, x = n * 2 ^ low) ∧ |x| < 2 ^ high

theorem InRange.mono {low high low' high' : Int} {x : Rat} (h : InRange low high x) (hl : low' ≤ low) (hh : high ≤ high') :
    InRange low' high' x := by
  obtain ⟨⟨n, hn⟩, hlt⟩ := h
  obtain ⟨k, hk⟩ := Int.eq_ofNat_of_zero_le (show 0 ≤ low - low' by omega)
  replace hk : low - low' = (k : Int) := hk
  refine ⟨⟨n * 2 ^ k, ?_⟩, hlt.trans_le (zpow_le_zpow_right₀ (by norm_num) hh)⟩
  rw [hn, Int.cast_mul, Int.cast_pow, Int.cast_ofNat, mul_assoc, two_pow_mul_two_zpow, show (k : Int) + low' = low by omega]

theorem InRange.neg {low high : Int} {x : Rat} (h : InRange low high x) : InRange low high (-x) := by
  obtain ⟨⟨n, hn⟩, hlt⟩ := h
  exact ⟨⟨-n, by rw [hn, Int.cast_neg, neg_mul]⟩, by rwa [abs_neg]⟩

theorem InRange.add {low high : Int} {x y : Rat} (hx : InRange low high x) (hy : InRange low high y) :
    InRange low (high + 1) (x + y) := by
  obtain ⟨⟨n, hn⟩, hxlt⟩ := hx
  obtain ⟨⟨m, hm⟩, hylt⟩ := hy
  refine ⟨⟨n + m, by rw [hn, hm, Int.cast_add, add_mul]⟩, (abs_add_le x y).trans_lt ?_⟩
  rw [zpow_add_one₀ (by norm_num)]
  linarith

theorem InRange.mul {low high low' high' : Int} {x y : Rat} (hx : InRange low high x) (hy : InRange low' high' y) :
    InRange (low + low') (high + high') (x * y) := by
  obtain ⟨⟨n, hn⟩, hxlt⟩ := hx
  obtain ⟨⟨m, hm⟩, hylt⟩ := hy
  refine ⟨⟨n * m, by rw [hn, hm, Int.cast_mul, zpow_add₀ (by norm_num), mul_mul_mul_comm]⟩, ?_⟩
  rw [abs_mul, zpow_add₀ (by norm_num)]
  exact mul_lt_mul'' hxlt hylt (abs_nonneg x) (abs_nonneg y)

/-- A multiple of a unit other than zero is not smaller than the unit. -/
theorem InRange.low_le {low high : Int} {x : Rat} (h : InRange low high x) (hx : x ≠ 0) : (2 : Rat) ^ low ≤ |x| := by
  obtain ⟨⟨n, hn⟩, _⟩ := h
  have hn0 : n ≠ 0 := by
    rintro rfl
    exact hx (by rw [hn, Int.cast_zero, zero_mul])
  have hone : (1 : Rat) ≤ |(n : Rat)| := by exact_mod_cast Int.one_le_abs hn0
  rw [hn, abs_mul, abs_of_pos (two_zpow_pos low)]
  exact le_mul_of_one_le_left (two_zpow_pos low).le hone

/-- The range of a double, by the power of two that divides its significand. -/
theorem inRange_of_dvd {v : Dword} {j : Nat} {low high : Int} (hdvd : 2 ^ j ∣ fpSignificand v)
    (hlow : low ≤ fpScale v + j) (hhigh : fpScale v + 53 ≤ high) : InRange low high (realOf v) := by
  obtain ⟨n, hn⟩ := hdvd
  have hsig : (fpSignificand v : Rat) < 2 ^ 53 := by exact_mod_cast significand_lt v
  have hrange : InRange (fpScale v + j) (fpScale v + 53) (realOf v) := by
    refine ⟨⟨(if fpSign v then -1 else 1) * n, ?_⟩, ?_⟩
    · rw [realOf_eq, hn, signFactor, add_comm, ← two_pow_mul_two_zpow]
      push_cast
      ring
    · rw [abs_realOf, add_comm]
      exact (mul_lt_mul_of_pos_right hsig (two_zpow_pos _)).trans_eq (two_pow_mul_two_zpow 53 _)
  exact hrange.mono hlow hhigh

theorem Finite.inRange {v : Dword} (h : Finite v) : InRange (-1074) 1024 (realOf v) := by
  have hlt := (finite_iff v).mp h
  refine inRange_of_dvd (j := 0) (one_dvd _) (by have := scale_ge v; omega) ?_
  unfold fpScale
  split <;> omega

/-- A finite single-precision value is a multiple of the smallest denormal and smaller than `2^128` (R240 c). -/
theorem inRange_of_isSingle {v : Dword} (h : Finite v) (hs : isSingle v = true) : InRange (-149) 128 (realOf v) := by
  have hlt := (finite_iff v).mp h
  unfold isSingle at hs
  dsimp only at hs
  split at hs
  · have hexp : 897 ≤ fpExponent v ∧ fpExponent v ≤ 1150 := by omega
    have hfrac : fpFraction v % 2 ^ 29 = 0 := by simpa using hs
    have hsig : fpSignificand v = 2 ^ 52 + fpFraction v := if_neg (by omega)
    have hscale : fpScale v = (fpExponent v : Int) - 1075 := if_neg (by omega)
    exact inRange_of_dvd (j := 29) (Nat.dvd_of_mod_eq_zero (by omega)) (by omega) (by omega)
  · split at hs
    · have hscale : fpScale v = (fpExponent v : Int) - 1075 := if_neg (by omega)
      have hdvd : fpSignificand v % 2 ^ (926 - fpExponent v) = 0 := by simpa using hs
      exact inRange_of_dvd (Nat.dvd_of_mod_eq_zero hdvd) (by omega) (by omega)
    · rw [(realOf_eq_zero_iff v).mpr hs]
      exact ⟨⟨0, by simp⟩, by simp⟩

end Sys2Proof.Machine
end

section
namespace Sys2Proof.Machine

/-! ## The operations round once (43_floating_point.md R242, R250) -/

/-- A finite number of a format: a multiple of its smallest denormal, in its range. -/
def FormatNumber (fmt : Format) (v : Dword) : Prop :=
  Finite v ∧ InRange (fmt.emin - fmt.precision + 1) (fmt.emax + 1) (realOf v)

theorem Finite.formatNumber {v : Dword} (h : Finite v) : FormatNumber doubleFormat v := ⟨h, h.inRange⟩

theorem formatNumber_of_isSingle {v : Dword} (h : Finite v) (hs : isSingle v = true) : FormatNumber singleFormat v :=
  ⟨h, inRange_of_isSingle h hs⟩

theorem FormatNumber.addend {fmt : Format} {b : Dword} (h : FormatNumber fmt b) (subtract : Bool) :
    FormatNumber fmt (if subtract then fpNegate b else b) := by
  refine ⟨h.1.addend subtract, ?_⟩
  rw [realOf_addend]
  cases subtract
  · exact h.2
  · exact h.2.neg

/-- A number from which the exponent adjustment of a format leads into the range of doubles. -/
def Adjustable (fmt : Format) (x : Rat) : Prop :=
  (2 : Rat) ^ (-1022 - fmt.adjust) ≤ |x| ∧ |x| < 2 ^ (1023 + fmt.adjust)

/-- The exponent adjustment reaches the products and quotients of the format's numbers. -/
theorem IsFormat.reach {fmt : Format} (h : IsFormat fmt) :
    fmt.emin - fmt.precision + 1 ≤ 0 ∧ 0 ≤ fmt.emax + 1 ∧
      -1022 - fmt.adjust ≤ 2 * (fmt.emin - fmt.precision + 1) ∧ 2 * (fmt.emax + 1) + 1 ≤ 1023 + fmt.adjust ∧
      -1022 - fmt.adjust ≤ fmt.emin - fmt.precision + 1 - (fmt.emax + 1) ∧
      fmt.emax + 1 - (fmt.emin - fmt.precision + 1) ≤ 1023 + fmt.adjust := by
  rcases h with rfl | rfl <;> decide

theorem InRange.adjustable {fmt : Format} {low high : Int} {x : Rat} (h : InRange low high x) (hx : x ≠ 0)
    (hlow : -1022 - fmt.adjust ≤ low) (hhigh : high ≤ 1023 + fmt.adjust) : Adjustable fmt x :=
  ⟨(zpow_le_zpow_right₀ (by norm_num) hlow).trans (h.low_le hx), h.2.trans_le (zpow_le_zpow_right₀ (by norm_num) hhigh)⟩

section
variable {fmt : Format} (hfmt : IsFormat fmt) {a b c : Dword} (ha : FormatNumber fmt a) (hb : FormatNumber fmt b)
  (hc : FormatNumber fmt c)
include hfmt ha hb

theorem FormatNumber.add_adjustable (hx : realOf a + realOf b ≠ 0) : Adjustable fmt (realOf a + realOf b) := by
  obtain ⟨_, _, hlow, hhigh, _, _⟩ := hfmt.reach
  exact (ha.2.add hb.2).adjustable hx (by omega) (by omega)

theorem FormatNumber.mul_adjustable (hx : realOf a * realOf b ≠ 0) : Adjustable fmt (realOf a * realOf b) := by
  obtain ⟨_, _, hlow, hhigh, _, _⟩ := hfmt.reach
  exact (ha.2.mul hb.2).adjustable hx (by omega) (by omega)

theorem FormatNumber.div_adjustable (hx : realOf a / realOf b ≠ 0) : Adjustable fmt (realOf a / realOf b) := by
  obtain ⟨_, _, _, _, hlow, hhigh⟩ := hfmt.reach
  obtain ⟨ha0, hb0⟩ := div_ne_zero_iff.mp hx
  have hbpos : 0 < |realOf b| := abs_pos.mpr hb0
  rw [Adjustable, abs_div, le_div_iff₀ hbpos, div_lt_iff₀ hbpos]
  constructor
  · calc (2 : Rat) ^ (-1022 - fmt.adjust) * |realOf b|
        ≤ 2 ^ (fmt.emin - fmt.precision + 1 - (fmt.emax + 1)) * 2 ^ (fmt.emax + 1) :=
          mul_le_mul (zpow_le_zpow_right₀ (by norm_num) hlow) hb.2.2.le (abs_nonneg _) (two_zpow_pos _).le
      _ = 2 ^ (fmt.emin - fmt.precision + 1) := by rw [← zpow_add₀ (by norm_num), sub_add_cancel]
      _ ≤ |realOf a| := ha.2.low_le ha0
  · calc |realOf a| < 2 ^ (fmt.emax + 1) := ha.2.2
      _ = 2 ^ (fmt.emax + 1 - (fmt.emin - fmt.precision + 1)) * 2 ^ (fmt.emin - fmt.precision + 1) := by
        rw [← zpow_add₀ (by norm_num), sub_add_cancel]
      _ ≤ 2 ^ (1023 + fmt.adjust) * |realOf b| :=
        mul_le_mul (zpow_le_zpow_right₀ (by norm_num) hhigh) (hb.2.low_le hb0) (two_zpow_pos _).le (two_zpow_pos _).le

include hc

theorem FormatNumber.mulAdd_adjustable (hx : realOf a * realOf c + realOf b ≠ 0) :
    Adjustable fmt (realOf a * realOf c + realOf b) := by
  obtain ⟨hlow0, hhigh0, hlow, hhigh, _, _⟩ := hfmt.reach
  have hproduct := ha.2.mul hc.2
  have haddend := hb.2.mono (low' := fmt.emin - fmt.precision + 1 + (fmt.emin - fmt.precision + 1))
    (high' := fmt.emax + 1 + (fmt.emax + 1)) (by omega) (by omega)
  exact (hproduct.add haddend).adjustable hx (by omega) (by omega)

end

/-- The exponent of a number (R242 a). -/
def HasExponent (x : Rat) (e : Int) : Prop := powerOfTwo e ≤ magnitude x ∧ magnitude x < powerOfTwo (e + 1)

/-- An outcome is a number rounded once. -/
def Rounds (fmt : Format) (ctl : FpControl) (x : Rat) (neg : Bool) (e : Int) (o : FpOutcome) : Prop :=
  ∃ y v, RoundedOnce fmt ctl x neg e y v o

/-! ### The final negation of `fnmadd` and `fnmsub` (R266) -/

theorem negateFprf_classBits (neg : Bool) (k : FpClass) : negateFprf (classBits neg k) = classBits (!neg) k := by
  cases k <;> cases neg <;> decide

/-- FPRF of a number negated. -/
theorem negateFprf_fprfOf (fmt : Format) (v : Dword) : negateFprf (fprfOf fmt v) = fprfOf fmt (fpNegate v) := by
  obtain ⟨_, _, _, hclass⟩ := class_negate v
  rw [fprfOf, fprfOf, hclass, fpSign_negate, negateFprf_classBits]

theorem negateOutcome_of {o : FpOutcome} {v : Dword} (hv : o.value = some v) (hn : fpIsNaN v = false) :
    negateOutcome o = { o with value := some (fpNegate v), fprf := o.fprf.map negateFprf } := by
  unfold negateOutcome
  rw [hv]
  exact if_neg (by rw [hn]; exact Bool.false_ne_true)

section
variable {fmt : Format} (hfmt : IsFormat fmt) {ctl : FpControl} {e : Int}
include hfmt

theorem arithmeticResult_rounds {x : Exact} (hd : 0 < x.den) (hx : x.value ≠ 0) (hadjust : Adjustable fmt x.value)
    (he : HasExponent x.value e) : Rounds fmt ctl x.value false e (arithmeticResult fmt ctl x) := by
  have hn := (Exact.num_ne_zero_iff hd).mpr hx
  obtain ⟨hlow, hhigh⟩ := Exact.exponent_spec hn hd
  obtain ⟨hmin, hmax⟩ := hadjust
  rw [HasExponent, powerOfTwo_eq, powerOfTwo_eq, magnitude_eq, x.abs_value] at he
  rw [x.abs_value] at hmin hmax
  obtain rfl : x.exponent = e := exponent_unique hlow hhigh he.1 he.2
  have hbelow := (zpow_lt_zpow_iff_right₀ (show (1 : Rat) < 2 by norm_num)).mp (hmin.trans_lt hhigh)
  have habove := (zpow_lt_zpow_iff_right₀ (show (1 : Rat) < 2 by norm_num)).mp (hlow.trans_lt hmax)
  rw [arithmeticResult, if_neg hn]
  exact roundNonzero_rounds hfmt hn hd (by omega) (by omega)

theorem RoundedOnce.negate {x y : Rat} {v : Dword} {o : FpOutcome} (h : RoundedOnce fmt ctl x false e y v o) :
    RoundedOnce fmt ctl x true e y (fpNegate v) (negateOutcome o) := by
  obtain ⟨hnan, _⟩ := class_negate v
  have hvalues := overflow_values hfmt (decide (x < 0))
  have hsign := h.sign
  have hover := h.overflowed
  have hfprf := h.fprf
  rw [Bool.bne_false] at hsign hover hfprf
  rw [negateOutcome_of h.value h.notNaN]
  refine ⟨h.rounds, rfl, hnan.trans h.notNaN, ?_, fun hw => ?_, fun hw => ?_, ?_, h.raised, h.fi, h.fr⟩
  · rw [fpSign_negate, hsign, Bool.bne_true]
  · rw [realOf_negate, h.real hw]
    simp
  · rw [hover hw, Bool.bne_true]
    split
    · exact hvalues.1.2.2
    · exact hvalues.2.2.2
  · rw [Bool.bne_true]
    dsimp only
    rw [hfprf, Option.map_some]
    split
    · rw [negateFprf_classBits]
    · rw [negateFprf_fprfOf]

theorem Rounds.negatedIf {x : Rat} {o : FpOutcome} (h : Rounds fmt ctl x false e o) (negate : Bool) :
    Rounds fmt ctl x negate e (negatedIf negate o) := by
  obtain ⟨y, v, h⟩ := h
  cases negate
  · exact ⟨y, v, h⟩
  · exact ⟨y, _, h.negate hfmt⟩

/-! ### Each operation -/

variable {a b c : Dword} (ha : FormatNumber fmt a) (hb : FormatNumber fmt b) (hc : FormatNumber fmt c)

/-- The sum of two numbers, rounded once. -/
theorem add_rounds (ha : FormatNumber fmt a) (hb : FormatNumber fmt b) {x : Rat} (hsum : x = realOf a + realOf b)
    (hx : x ≠ 0) (he : HasExponent x e) :
    Rounds fmt ctl x false e (arithmeticResult fmt ctl ((exactOf a).add (exactOf b) ctl.rn)) := by
  have hvalue := Exact.add_value (exactOf_den_pos a) (exactOf_den_pos b) ctl.rn
  rw [← realOf_eq_value, ← realOf_eq_value, ← hsum] at hvalue
  have hadjust : Adjustable fmt x := hsum ▸ FormatNumber.add_adjustable hfmt ha hb (hsum ▸ hx)
  rw [← hvalue] at hx he hadjust ⊢
  exact arithmeticResult_rounds hfmt (Nat.mul_pos (exactOf_den_pos a) (exactOf_den_pos b)) hx hadjust he

include ha hb

theorem fpAdd_rounds (hx : realOf a + realOf b ≠ 0) (he : HasExponent (realOf a + realOf b) e) :
    Rounds fmt ctl (realOf a + realOf b) false e (fpAdd fmt a b ctl) := by
  rw [fpAdd_finite fmt ctl ha.1 hb.1]
  exact add_rounds hfmt ha hb rfl hx he

theorem fpSub_rounds (hx : realOf a - realOf b ≠ 0) (he : HasExponent (realOf a - realOf b) e) :
    Rounds fmt ctl (realOf a - realOf b) false e (fpSub fmt a b ctl) := by
  rw [fpSub_finite fmt ctl ha.1 hb.1]
  exact add_rounds hfmt ha (hb.addend true) (by rw [realOf_addend, sub_eq_add_neg]; rfl) hx he

theorem fpMul_rounds (hx : realOf a * realOf b ≠ 0) (he : HasExponent (realOf a * realOf b) e) :
    Rounds fmt ctl (realOf a * realOf b) false e (fpMul fmt a b ctl) := by
  have hvalue := Exact.mul_value (exactOf a) (exactOf b)
  rw [← realOf_eq_value, ← realOf_eq_value] at hvalue
  have hadjust := FormatNumber.mul_adjustable hfmt ha hb hx
  rw [fpMul_finite fmt ctl ha.1 hb.1]
  rw [← hvalue] at hx he hadjust ⊢
  exact arithmeticResult_rounds hfmt (Nat.mul_pos (exactOf_den_pos a) (exactOf_den_pos b)) hx hadjust he

theorem fpDiv_rounds (hx : realOf a / realOf b ≠ 0) (he : HasExponent (realOf a / realOf b) e) :
    Rounds fmt ctl (realOf a / realOf b) false e (fpDiv fmt a b ctl) := by
  obtain ⟨_, hb0⟩ := div_ne_zero_iff.mp hx
  have hz : fpIsZero b = false := Bool.eq_false_iff.mpr fun h => hb0 ((realOf_eq_zero_iff b).mpr h)
  have hnum : (exactOf b).num ≠ 0 := (Exact.num_ne_zero_iff (exactOf_den_pos b)).mpr hb0
  have hvalue := Exact.div_value (exactOf a) (exactOf b)
  rw [← realOf_eq_value, ← realOf_eq_value] at hvalue
  have hadjust := FormatNumber.div_adjustable hfmt ha hb hx
  rw [fpDiv_finite fmt ctl ha.1 hb.1 hz]
  rw [← hvalue] at hx he hadjust ⊢
  exact arithmeticResult_rounds hfmt (Nat.mul_pos (exactOf_den_pos a) (Nat.pos_of_ne_zero hnum)) hx hadjust he

include hc

theorem fpMulAdd_rounds (subtract negate : Bool) {x : Rat}
    (hsum : x = realOf a * realOf c + if subtract then -realOf b else realOf b) (hx : x ≠ 0) (he : HasExponent x e) :
    Rounds fmt ctl x negate e (fpMulAdd fmt subtract negate a c b ctl) := by
  have hd : 0 < ((exactOf a).mul (exactOf c)).den := Nat.mul_pos (exactOf_den_pos a) (exactOf_den_pos c)
  have hvalue := Exact.add_value hd (exactOf_den_pos (if subtract then fpNegate b else b)) ctl.rn
  rw [Exact.mul_value, ← realOf_eq_value, ← realOf_eq_value, ← realOf_eq_value] at hvalue
  rw [← realOf_addend] at hsum
  have hadjust : Adjustable fmt x := hsum ▸ FormatNumber.mulAdd_adjustable hfmt ha (hb.addend subtract) hc (hsum ▸ hx)
  rw [← hsum] at hvalue
  rw [fpMulAdd_finite fmt ctl subtract negate ha.1 hb.1 hc.1]
  refine Rounds.negatedIf hfmt ?_ negate
  rw [← hvalue] at hx he hadjust ⊢
  exact arithmeticResult_rounds hfmt (Nat.mul_pos hd (exactOf_den_pos _)) hx hadjust he

end

/-- Rounding any double to single (R270). -/
theorem fpRoundSingle_rounds {b : Dword} {ctl : FpControl} {e : Int} (hb : Finite b) (hx : realOf b ≠ 0)
    (he : HasExponent (realOf b) e) : Rounds singleFormat ctl (realOf b) false e (fpRoundSingle b ctl) := by
  have hz : fpIsZero b = false := Bool.eq_false_iff.mpr fun h => hx ((realOf_eq_zero_iff b).mpr h)
  rw [fpRoundSingle_finite ctl hb hz]
  exact arithmeticResult_rounds (.inr rfl) (exactOf_den_pos b) hx
    (hb.inRange.adjustable hx (by decide) (by decide)) he

end Sys2Proof.Machine
end

section
namespace Sys2Proof.Machine

/-! ## Overflow, underflow and inexact results of every arithmetic instruction -/

/-- OX, UX and XX under their conditions, bit by bit. -/
theorem bit_roundingFlags (overflow underflow inexact : Bool) {k : Nat} (hk : k < 32) :
    bit ((if overflow then fpOX else 0) ||| (if underflow then fpUX else 0) ||| (if inexact then fpXX else 0)) k =
      (decide (k = 3) && overflow || decide (k = 4) && underflow || decide (k = 6) && inexact) := by
  obtain ⟨hox, hux, _, hxx, _⟩ := bit_exceptionMask hk
  rw [bit_or, bit_or, bit_ite_mask, bit_ite_mask, bit_ite_mask, hox, hux, hxx, Bool.decide_eq_true, Bool.decide_eq_true,
    Bool.decide_eq_true, Bool.and_comm overflow, Bool.and_comm underflow, Bool.and_comm inexact]

/-- The exceptions of a rounding: OX, UX and XX, and nothing else. -/
theorem FloatWritten.rounded_flags {s t : State} {d : BitVec 5} {rc overflow underflow inexact : Bool} {o : FpOutcome}
    (h : FloatWritten s t d rc o)
    (hraised : o.raised = (if overflow then fpOX else 0) ||| (if underflow then fpUX else 0) ||| (if inexact then fpXX else 0)) :
    bit t.fpscr 3 = (bit s.fpscr 3 || overflow) ∧ bit t.fpscr 4 = (bit s.fpscr 4 || underflow) ∧
      bit t.fpscr 6 = (bit s.fpscr 6 || inexact) ∧ BitsKept s.fpscr t.fpscr 5 1 ∧ BitsKept s.fpscr t.fpscr 7 6 ∧
      BitsKept s.fpscr t.fpscr 21 11 := by
  have hother : ∀ k, k < 32 → k ≠ 3 → k ≠ 4 → k ≠ 6 → bit o.raised k = false := fun k hk h3 h4 h6 => by
    rw [hraised, bit_roundingFlags _ _ _ hk]
    simp [h3, h4, h6]
  rw [h.fpscr]
  refine ⟨?_, ?_, ?_, ?_, ?_, ?_⟩
  · rw [bit_fpUpdate_exception _ _ (by decide), hraised, bit_roundingFlags _ _ _ (by omega)]
    simp
  · rw [bit_fpUpdate_exception _ _ (by decide), hraised, bit_roundingFlags _ _ _ (by omega)]
    simp
  · rw [bit_fpUpdate_exception _ _ (by decide), hraised, bit_roundingFlags _ _ _ (by omega)]
    simp
  · exact fpUpdate_kept _ _ (by omega) fun k _ _ _ => hother k (by omega) (by omega) (by omega) (by omega)
  · exact fpUpdate_kept _ _ (by omega) fun k _ _ _ => hother k (by omega) (by omega) (by omega) (by omega)
  · exact fpUpdate_kept _ _ (by omega) fun k _ _ _ => hother k (by omega) (by omega) (by omega) (by omega)

/-- An instruction whose outcome is `x` rounded once, and negated where `neg`. -/
def RoundsInstr (s : State) (i : Instr) (d : BitVec 5) (rc : Bool) (fmt : Format) (x : Rat) (neg : Bool) (e : Int) :
    Prop :=
  ∃ (single : Bool) (operands : List Dword) (compute : FpControl → FpOutcome),
    exec i s = floatArith s single d operands rc compute ∧ (single = true → operands.all isSingle = true) ∧
      ∀ ctl, Rounds fmt ctl x neg e (compute ctl)

theorem RoundsInstr.completes {s : State} {i : Instr} {d : BitVec 5} {rc neg : Bool} {fmt : Format} {x : Rat} {e : Int}
    (h : RoundsInstr s i d rc fmt x neg e) (hq : s.FloatQuiet) (hni : bit s.fpscr 29 = false) :
    Completes (exec i s) fun t => ∃ free y v o, FloatWritten s t d rc o ∧
      RoundedOnce fmt (fpControl s.fpscr free) x neg e y v o := by
  obtain ⟨single, operands, compute, hexec, hsingle, hcompute⟩ := h
  rw [hexec]
  refine (floatArith_computed hq hni hsingle d rc compute).imp fun t ht => ?_
  obtain ⟨y, v, hround⟩ := hcompute (fpControl s.fpscr (bit (s.fresh 1) 0))
  exact ⟨_, y, v, _, ht, hround⟩

/-- Every instruction of the statement rounds the exact result of its operands. -/
theorem roundsInstr_of_mem {s : State} {d a b c : BitVec 5} {rc neg : Bool} {i : Instr} {fmt : Format} {x : Rat} {e : Int}
    (hi : (i, fmt, x, neg) ∈
      [(Instr.faddx d a b rc, doubleFormat, realOf (s.f a) + realOf (s.f b), false),
        (.fsubx d a b rc, doubleFormat, realOf (s.f a) - realOf (s.f b), false),
        (.fmulx d a c rc, doubleFormat, realOf (s.f a) * realOf (s.f c), false),
        (.fdivx d a b rc, doubleFormat, realOf (s.f a) / realOf (s.f b), false),
        (.fmaddx d a b c rc, doubleFormat, realOf (s.f a) * realOf (s.f c) + realOf (s.f b), false),
        (.fmsubx d a b c rc, doubleFormat, realOf (s.f a) * realOf (s.f c) - realOf (s.f b), false),
        (.fnmaddx d a b c rc, doubleFormat, realOf (s.f a) * realOf (s.f c) + realOf (s.f b), true),
        (.fnmsubx d a b c rc, doubleFormat, realOf (s.f a) * realOf (s.f c) - realOf (s.f b), true),
        (.faddsx d a b rc, singleFormat, realOf (s.f a) + realOf (s.f b), false),
        (.fsubsx d a b rc, singleFormat, realOf (s.f a) - realOf (s.f b), false),
        (.fmulsx d a c rc, singleFormat, realOf (s.f a) * realOf (s.f c), false),
        (.fdivsx d a b rc, singleFormat, realOf (s.f a) / realOf (s.f b), false),
        (.fmaddsx d a b c rc, singleFormat, realOf (s.f a) * realOf (s.f c) + realOf (s.f b), false),
        (.fmsubsx d a b c rc, singleFormat, realOf (s.f a) * realOf (s.f c) - realOf (s.f b), false),
        (.fnmaddsx d a b c rc, singleFormat, realOf (s.f a) * realOf (s.f c) + realOf (s.f b), true),
        (.fnmsubsx d a b c rc, singleFormat, realOf (s.f a) * realOf (s.f c) - realOf (s.f b), true),
        (.frspx d b rc, singleFormat, realOf (s.f b), false)])
    (hops : ∀ r ∈ [a, b, c], fpIsNaN (s.f r) = false ∧ fpIsInf (s.f r) = false ∧
      (fmt = singleFormat → i ≠ .frspx d b rc → isSingle (s.f r) = true))
    (hx : x ≠ 0) (he : HasExponent x e) : RoundsInstr s i d rc fmt x neg e := by
  simp only [List.forall_mem_cons, List.not_mem_nil, false_implies, implies_true, and_true] at hops
  obtain ⟨⟨han, hai, has⟩, ⟨hbn, hbi, hbs⟩, hcn, hci, hcs⟩ := hops
  have fa : Finite (s.f a) := ⟨han, hai⟩
  have fb : Finite (s.f b) := ⟨hbn, hbi⟩
  have fc : Finite (s.f c) := ⟨hcn, hci⟩
  have hd : IsFormat doubleFormat := .inl rfl
  have hs : IsFormat singleFormat := .inr rfl
  have da := fa.formatNumber
  have db := fb.formatNumber
  have dc := fc.formatNumber
  have singles (hf : fmt = singleFormat) (hne : i ≠ .frspx d b rc) :
      FormatNumber singleFormat (s.f a) ∧ FormatNumber singleFormat (s.f b) ∧ FormatNumber singleFormat (s.f c) ∧
        [s.f a, s.f b].all isSingle = true ∧ [s.f a, s.f c].all isSingle = true ∧
        [s.f a, s.f b, s.f c].all isSingle = true := by
    have ha := has hf hne
    have hb := hbs hf hne
    have hc := hcs hf hne
    exact ⟨formatNumber_of_isSingle fa ha, formatNumber_of_isSingle fb hb, formatNumber_of_isSingle fc hc,
      by simp [ha, hb], by simp [ha, hc], by simp [ha, hb, hc]⟩
  simp only [List.mem_cons, List.not_mem_nil, or_false, Prod.mk.injEq] at hi
  rcases hi with ⟨rfl, rfl, rfl, rfl⟩ | ⟨rfl, rfl, rfl, rfl⟩ | ⟨rfl, rfl, rfl, rfl⟩ | ⟨rfl, rfl, rfl, rfl⟩ |
    ⟨rfl, rfl, rfl, rfl⟩ | ⟨rfl, rfl, rfl, rfl⟩ | ⟨rfl, rfl, rfl, rfl⟩ | ⟨rfl, rfl, rfl, rfl⟩ | hi
  · exact ⟨false, _, _, rfl, nofun, fun _ => fpAdd_rounds hd da db hx he⟩
  · exact ⟨false, _, _, rfl, nofun, fun _ => fpSub_rounds hd da db hx he⟩
  · exact ⟨false, _, _, rfl, nofun, fun _ => fpMul_rounds hd da dc hx he⟩
  · exact ⟨false, _, _, rfl, nofun, fun _ => fpDiv_rounds hd da db hx he⟩
  · exact ⟨false, _, _, rfl, nofun, fun _ => fpMulAdd_rounds hd da db dc false false rfl hx he⟩
  · exact ⟨false, _, _, rfl, nofun, fun _ => fpMulAdd_rounds hd da db dc true false (sub_eq_add_neg _ _) hx he⟩
  · exact ⟨false, _, _, rfl, nofun, fun _ => fpMulAdd_rounds hd da db dc false true rfl hx he⟩
  · exact ⟨false, _, _, rfl, nofun, fun _ => fpMulAdd_rounds hd da db dc true true (sub_eq_add_neg _ _) hx he⟩
  by_cases hfrsp : i = .frspx d b rc
  · obtain ⟨rfl, rfl, rfl⟩ : fmt = singleFormat ∧ x = realOf (s.f b) ∧ neg = false := by
      rw [hfrsp] at hi
      simpa using hi
    exact ⟨false, [s.f b], fpRoundSingle (s.f b), by rw [hfrsp]; rfl, nofun, fun _ => fpRoundSingle_rounds fb hx he⟩
  have hsingle : fmt = singleFormat := by tauto
  obtain ⟨sa, sb, sc, hab, hac, habc⟩ := singles hsingle hfrsp
  rcases hi with ⟨rfl, rfl, rfl, rfl⟩ | ⟨rfl, rfl, rfl, rfl⟩ | ⟨rfl, rfl, rfl, rfl⟩ | ⟨rfl, rfl, rfl, rfl⟩ |
    ⟨rfl, rfl, rfl, rfl⟩ | ⟨rfl, rfl, rfl, rfl⟩ | ⟨rfl, rfl, rfl, rfl⟩ | ⟨rfl, rfl, rfl, rfl⟩ | ⟨hi, _⟩
  · exact ⟨true, _, _, rfl, fun _ => hab, fun _ => fpAdd_rounds hs sa sb hx he⟩
  · exact ⟨true, _, _, rfl, fun _ => hab, fun _ => fpSub_rounds hs sa sb hx he⟩
  · exact ⟨true, _, _, rfl, fun _ => hac, fun _ => fpMul_rounds hs sa sc hx he⟩
  · exact ⟨true, _, _, rfl, fun _ => hab, fun _ => fpDiv_rounds hs sa sb hx he⟩
  · exact ⟨true, _, _, rfl, fun _ => habc, fun _ => fpMulAdd_rounds hs sa sb sc false false rfl hx he⟩
  · exact ⟨true, _, _, rfl, fun _ => habc, fun _ => fpMulAdd_rounds hs sa sb sc true false (sub_eq_add_neg _ _) hx he⟩
  · exact ⟨true, _, _, rfl, fun _ => habc, fun _ => fpMulAdd_rounds hs sa sb sc false true rfl hx he⟩
  · exact ⟨true, _, _, rfl, fun _ => habc, fun _ => fpMulAdd_rounds hs sa sb sc true true (sub_eq_add_neg _ _) hx he⟩
  · exact absurd hi hfrsp

/-- Settles O53. -/
theorem arithmeticRoundsOnce : Obligations.ArithmeticRoundsOnce := by
  intro d a b c rc s i fmt x neg e hq hni hi hops hx hlow hhigh
  refine ((roundsInstr_of_mem hi hops hx ⟨hlow, hhigh⟩).completes hq hni).imp fun t h => ?_
  obtain ⟨free, y, v, o, hw, hr⟩ := h
  have hv : t.f d = v := hw.target.trans (by rw [hr.value, Option.getD_some])
  obtain ⟨h3, h4, h6, hzx, hvx, hrest⟩ := hw.rounded_flags hr.raised
  refine ⟨y, hr.rounds, ?_, fun hover => ?_, ?_, ?_, h3, h4, ?_, ?_, fun hover => ?_, hzx, hvx, hrest, hw.fx⟩
  · cases hover : overflowsFormat fmt y && !bit s.fpscr 25
    · exact .inl (hv ▸ hr.real hover)
    · exact .inr hover
  · exact hv ▸ hr.overflowed hover
  · exact hv ▸ hr.sign
  · rw [hw.fpscr, field_fpUpdate _ _ hr.fprf, hv]
    rfl
  · rw [h6, Bool.or_assoc]
    rfl
  · rw [hw.fpscr, bit_fpUpdate_fi]
    exact hr.fi
  · rw [hw.fpscr, bit_fpUpdate_fr]
    exact hr.fr hover

end Sys2Proof.Machine
end

section
namespace Sys2Proof.Machine

/-! ## Results that need no rounding (43_floating_point.md R241, R242) -/

/-- A multiple of the unit rounds to itself in every mode. -/
theorem RoundsTo.eq_of_multiple {u x y : Rat} {rn : BitVec 2} (hu : 0 < u) {k : Int} (hx : x = k * u)
    (h : RoundsTo u rn x y) : y = x := by
  obtain ⟨n, rfl, hnearest, hzero, habove, hbelow⟩ := h
  subst hx
  have hlt : ∀ a b : Int, (a : Rat) * u < b * u + u → a < b + 1 := fun a b h => by
    have : (a : Rat) * u < (b + 1) * u := by linarith
    exact_mod_cast lt_of_mul_lt_mul_right this hu.le
  have hle : ∀ a b : Int, (a : Rat) * u ≤ b * u → a ≤ b := fun a b h => by
    exact_mod_cast le_of_mul_le_mul_right h hu
  suffices hnk : n = k by rw [hnk]
  rcases mode_cases rn with rfl | rfl | rfl | rfl
  · obtain ⟨hnear, _⟩ := hnearest rfl
    rw [magnitude_eq] at hnear
    obtain ⟨h1, h2⟩ := abs_le.mp (show |(n : Rat) * u - k * u| ≤ u / 2 by linarith)
    have h1' := hlt k n (by linarith)
    have h2' := hlt n k (by linarith)
    omega
  · obtain ⟨hsmall, hbig, hsign⟩ := hzero rfl
    rw [magnitude_eq, magnitude_eq, abs_mul, abs_mul, abs_of_pos hu, ← Int.cast_abs, ← Int.cast_abs] at *
    have h1 := hle _ _ hsmall
    have h2 := hlt _ _ hbig
    have h3 : 0 ≤ k * n := by
      have hprod : 0 ≤ ((k * n : Int) : Rat) * (u * u) := by
        push_cast
        linarith
      exact_mod_cast nonneg_of_mul_nonneg_left hprod (mul_pos hu hu)
    have h4 : |n| = |k| := by omega
    rcases abs_eq_abs.mp h4 with h | h
    · exact h
    · subst h
      nlinarith
  · obtain ⟨h1, h2⟩ := habove rfl
    have h1' := hle _ _ h1
    have h2' := hlt _ _ h2
    omega
  · obtain ⟨h1, h2⟩ := hbelow rfl
    have h1' := hle _ _ h1
    have h2' := hlt _ _ h2
    omega

theorem exists_exponent {x : Rat} (hx : x ≠ 0) : ∃ e, HasExponent x e := by
  obtain ⟨e, hlow, hhigh⟩ := exists_mem_Ico_zpow (abs_pos.mpr hx) (show (1 : Rat) < 2 by norm_num)
  exact ⟨e, by rw [HasExponent, powerOfTwo_eq, powerOfTwo_eq, magnitude_eq]; exact ⟨hlow, hhigh⟩⟩

/-- A double is a multiple of the unit to which numbers of its exponent are rounded. -/
theorem realOf_multiple {v : Dword} {e : Int} (he : HasExponent (realOf v) e) :
    ∃ k : Int, realOf v = k * powerOfTwo (roundingExponent doubleFormat false e) := by
  have hrange := inRange_of_dvd (v := v) (j := 0) (one_dvd _) (le_refl _) (le_refl _)
  rw [HasExponent, powerOfTwo_eq, powerOfTwo_eq, magnitude_eq] at he
  have hlt := (zpow_lt_zpow_iff_right₀ (show (1 : Rat) < 2 by norm_num)).mp (he.1.trans_lt hrange.2)
  have hscale := scale_ge v
  have hunit : roundingExponent doubleFormat false e ≤ fpScale v + (0 : Nat) := by
    have hfmt : roundingExponent doubleFormat false e = if e < -1022 then -1074 else e - 52 := by
      rw [roundingExponent, Bool.not_false, Bool.and_true, if_congr decide_eq_true_iff rfl rfl]
      simp [doubleFormat, sub_add]
    rw [hfmt]
    split <;> omega
  obtain ⟨hmultiple, _⟩ := hrange.mono hunit (le_refl _)
  rw [powerOfTwo_eq]
  exact hmultiple

theorem HasExponent.neg {x : Rat} {e : Int} (h : HasExponent x e) : HasExponent (-x) e := by
  rw [HasExponent, magnitude_eq, abs_neg, ← magnitude_eq]
  exact h

/-- Where no exception bit changes, FX stays. -/
theorem FxFollows.kept {s t : State} (h : FxFollows s t) (hlow : BitsKept s.fpscr t.fpscr 3 10)
    (hhigh : BitsKept s.fpscr t.fpscr 21 11) : BitsKept s.fpscr t.fpscr 0 1 := by
  have hplaces : ∀ k ∈ exceptionPlaces, (3 ≤ k ∧ k < 3 + 10) ∨ (21 ≤ k ∧ k < 21 + 11) := by decide
  have hnone : (exceptionPlaces.any fun k => bit t.fpscr k && !bit s.fpscr k) = false := by
    rw [List.any_eq_false]
    intro k hk
    have hbit : bit t.fpscr k = bit s.fpscr k := by
      rcases hplaces k hk with ⟨h1, h2⟩ | ⟨h1, h2⟩
      · exact hlow k h1 h2
      · exact hhigh k h1 h2
    rw [hbit, Bool.and_not_self]
    exact Bool.false_ne_true
  intro k _ hk
  obtain rfl : k = 0 := by omega
  rw [h]
  change (bit s.fpscr 0 || exceptionPlaces.any fun k => bit t.fpscr k && !bit s.fpscr k) = _
  rw [hnone, Bool.or_false]

/-- The bits before VXSNAN one by one, and those from there on. -/
theorem bitsKept_exceptions {f g : Word} (h3 : bit g 3 = bit f 3) (h4 : bit g 4 = bit f 4) (h5 : BitsKept f g 5 1)
    (h6 : bit g 6 = bit f 6) (h7 : BitsKept f g 7 6) : BitsKept f g 3 10 := by
  intro k hlow hhigh
  rcases (by omega : k = 3 ∨ k = 4 ∨ k = 5 ∨ k = 6 ∨ 7 ≤ k) with rfl | rfl | rfl | rfl | h
  · exact h3
  · exact h4
  · exact h5 5 (by omega) (by omega)
  · exact h6
  · exact h7 k h (by omega)

/-- A number that is a double is rounded to itself. -/
theorem RoundedOnce.representable {ctl : FpControl} {x y : Rat} {neg : Bool} {e : Int} {v w : Dword} {o : FpOutcome}
    (h : RoundedOnce doubleFormat ctl x neg e y w o) (hue : ctl.ue = false) (he : HasExponent x e) (hv : Finite v)
    (hx : x ≠ 0) (hvalue : realOf v = (if neg then -1 else 1) * x) :
    o.value = some v ∧ o.fprf = some (fprfOf doubleFormat v) ∧ o.fr = false ∧ o.fi = false ∧ o.raised = 0 := by
  obtain ⟨hsize, k, hk⟩ : |realOf v| = |x| ∧ ∃ k : Int, x = k * powerOfTwo (roundingExponent doubleFormat false e) := by
    cases neg
    · rw [if_neg Bool.false_ne_true, one_mul] at hvalue
      exact ⟨by rw [hvalue], hvalue ▸ realOf_multiple (hvalue ▸ he)⟩
    · rw [if_pos rfl, neg_one_mul] at hvalue
      obtain ⟨k, hk⟩ := realOf_multiple (hvalue ▸ he.neg)
      exact ⟨by rw [hvalue, abs_neg], -k, by rw [Int.cast_neg, neg_mul, ← hk, hvalue, neg_neg]⟩
  have hrounds := h.rounds
  rw [hue] at hrounds
  obtain rfl : y = x := hrounds.eq_of_multiple (powerOfTwo_eq _ ▸ two_zpow_pos _) hk
  have hover : overflowsFormat doubleFormat y = false := by
    have hlt := (abs_realOf_lt_iff v).mpr ((finite_iff v).mp hv)
    rw [overflowsFormat, decide_eq_false_iff_not, not_le, powerOfTwo_eq, magnitude_eq, ← hsize]
    exact hlt
  have hreal : realOf w = realOf v := by
    rw [h.real (by rw [hover, Bool.false_and]), adjustment, hover, hue, hvalue]
    simp
  have hne : realOf v ≠ 0 := by
    rw [← abs_ne_zero, hsize]
    exact abs_ne_zero.mpr hx
  obtain rfl : w = v := realOf_injective hreal (hreal ▸ hne)
  refine ⟨h.value, ?_, ?_, ?_, ?_⟩
  · rw [h.fprf, hover, hue, Bool.and_false, Bool.false_and, Bool.or_self, if_neg Bool.false_ne_true]
  · rw [h.fr (by rw [hover, Bool.false_and]), decide_eq_false (lt_irrefl _)]
  · rw [h.fi, hover]
    simp
  · rw [h.raised, hover, hue]
    simp

/-- What an instruction leaves whose outcome raises nothing. -/
theorem FloatWritten.deliveredExactly {s t : State} {d : BitVec 5} {rc : Bool} {v : Dword} {o : FpOutcome}
    (h : FloatWritten s t d rc o) (hvalue : o.value = some v) (hfprf : o.fprf = some (fprfOf doubleFormat v))
    (hfr : o.fr = false) (hfi : o.fi = false) (hraised : o.raised = 0) : DeliveredExactly s t d v := by
  have hnone : ∀ k, bit o.raised k = false := fun k => by simp [hraised, bit]
  have hlow : BitsKept s.fpscr t.fpscr 3 10 :=
    h.fpscr ▸ fpUpdate_kept s.fpscr o (.inl (by omega)) fun k _ _ _ => hnone k
  have hhigh : BitsKept s.fpscr t.fpscr 21 11 :=
    h.fpscr ▸ fpUpdate_kept s.fpscr o (.inr (by omega)) fun k _ _ _ => hnone k
  refine ⟨by rw [h.target, hvalue, Option.getD_some], ?_, ?_, ?_, h.fx.kept hlow hhigh, hlow, hhigh⟩
  · rw [h.fpscr, field_fpUpdate _ _ hfprf]
  · rw [h.fpscr, bit_fpUpdate_fr, hfr]
  · rw [h.fpscr, bit_fpUpdate_fi, hfi]

/-- An instruction whose exact result is a double delivers it. -/
theorem RoundsInstr.representable {d : BitVec 5} {rc neg : Bool} {s : State} {i : Instr} {x : Rat} {v : Dword} {e : Int}
    (hi : RoundsInstr s i d rc doubleFormat x neg e) (hq : s.FloatQuiet) (hue : bit s.fpscr 26 = false)
    (hni : bit s.fpscr 29 = false) (he : HasExponent x e) (hv : Finite v) (hx : x ≠ 0)
    (hvalue : realOf v = (if neg then -1 else 1) * x) : Completes (exec i s) fun t => DeliveredExactly s t d v := by
  refine (hi.completes hq hni).imp fun t ⟨free, y, w, o, hw, hr⟩ => ?_
  obtain ⟨hval, hfprf, hfr, hfi, hraised⟩ := hr.representable hue he hv hx hvalue
  exact hw.deliveredExactly hval hfprf hfr hfi hraised

/-- Part 1 of O51: exact results that are doubles. -/
theorem representable_results {d a b c : BitVec 5} {rc : Bool} {s : State} {i : Instr} {exact : Rat} {v : Dword}
    (hq : s.FloatQuiet) (hue : bit s.fpscr 26 = false) (hni : bit s.fpscr 29 = false)
    (hops : ∀ r ∈ [a, b, c], fpIsNaN (s.f r) = false ∧ fpIsInf (s.f r) = false)
    (hi : (i, exact) ∈
      [(Instr.faddx d a b rc, realOf (s.f a) + realOf (s.f b)), (.fsubx d a b rc, realOf (s.f a) - realOf (s.f b)),
        (.fmulx d a c rc, realOf (s.f a) * realOf (s.f c)), (.fdivx d a b rc, realOf (s.f a) / realOf (s.f b)),
        (.fmaddx d a b c rc, realOf (s.f a) * realOf (s.f c) + realOf (s.f b)),
        (.fmsubx d a b c rc, realOf (s.f a) * realOf (s.f c) - realOf (s.f b)),
        (.fnmaddx d a b c rc, -(realOf (s.f a) * realOf (s.f c) + realOf (s.f b))),
        (.fnmsubx d a b c rc, -(realOf (s.f a) * realOf (s.f c) - realOf (s.f b)))])
    (hv : Finite v) (hvalue : realOf v = exact) (hx : exact ≠ 0) :
    Completes (exec i s) fun t => DeliveredExactly s t d v := by
  have hdouble : ∀ r ∈ [a, b, c], fpIsNaN (s.f r) = false ∧ fpIsInf (s.f r) = false ∧
      (doubleFormat = singleFormat → i ≠ .frspx d b rc → isSingle (s.f r) = true) := fun r hr => by
    obtain ⟨hn, hinf⟩ := hops r hr
    exact ⟨hn, hinf, fun h => absurd h (by decide)⟩
  obtain ⟨neg, x, rfl, hmem⟩ : ∃ (neg : Bool) (x : Rat), exact = (if neg then -1 else 1) * x ∧
      ∀ e, HasExponent x e → x ≠ 0 → RoundsInstr s i d rc doubleFormat x neg e := by
    have plain : ∀ x, exact = x → exact = (if false = true then -1 else 1) * x := fun x h => by
      rw [h, if_neg Bool.false_ne_true, one_mul]
    have negated : ∀ x, exact = -x → exact = (if true = true then -1 else 1) * x := fun x h => by
      rw [h, if_pos rfl, neg_one_mul]
    simp only [List.mem_cons, List.not_mem_nil, or_false, Prod.mk.injEq] at hi
    rcases hi with ⟨rfl, hx⟩ | ⟨rfl, hx⟩ | ⟨rfl, hx⟩ | ⟨rfl, hx⟩ | ⟨rfl, hx⟩ | ⟨rfl, hx⟩ | ⟨rfl, hx⟩ | ⟨rfl, hx⟩
    · exact ⟨false, _, plain _ hx, fun e he h0 => roundsInstr_of_mem (by simp) hdouble h0 he⟩
    · exact ⟨false, _, plain _ hx, fun e he h0 => roundsInstr_of_mem (by simp) hdouble h0 he⟩
    · exact ⟨false, _, plain _ hx, fun e he h0 => roundsInstr_of_mem (by simp) hdouble h0 he⟩
    · exact ⟨false, _, plain _ hx, fun e he h0 => roundsInstr_of_mem (by simp) hdouble h0 he⟩
    · exact ⟨false, _, plain _ hx, fun e he h0 => roundsInstr_of_mem (by simp) hdouble h0 he⟩
    · exact ⟨false, _, plain _ hx, fun e he h0 => roundsInstr_of_mem (by simp) hdouble h0 he⟩
    · exact ⟨true, _, negated _ hx, fun e he h0 => roundsInstr_of_mem (by simp) hdouble h0 he⟩
    · exact ⟨true, _, negated _ hx, fun e he h0 => roundsInstr_of_mem (by simp) hdouble h0 he⟩
  have hx0 : x ≠ 0 := right_ne_zero_of_mul hx
  obtain ⟨e, he⟩ := exists_exponent hx0
  exact (hmem e he hx0).representable hq hue hni he hv hx0 hvalue

end Sys2Proof.Machine
end

section
namespace Sys2Proof.Machine

/-! ## Infinities and exact zeros (43_floating_point.md R241, R242 d, sections 3 and 4) -/

/-- An infinity or a zero. -/
def Special (v : Dword) : Prop := fpIsInf v = true ∨ fpIsZero v = true

theorem special_infinityOf (neg : Bool) : Special (infinityOf neg) := .inl (by cases neg <;> decide)

theorem special_zeroOf (neg : Bool) : Special (zeroOf neg) := .inr (by cases neg <;> decide)

theorem Special.notNaN {v : Dword} (h : Special v) : fpIsNaN v = false :=
  h.elim (fun hi => (isInf_notNaN hi).1) fun hz => (isZero_notNaN hz).1

theorem Special.negate {v : Dword} (h : Special v) : Special (fpNegate v) := by
  obtain ⟨_, hinf, hzero, _⟩ := class_negate v
  exact h.imp hinf.trans hzero.trans

/-- The class of an infinity or a zero does not depend on the format. -/
theorem Special.fprfOf_eq {v : Dword} (h : Special v) (fmt : Format) : fprfOf fmt v = fprfOf doubleFormat v := by
  have hclass : classIn fmt v = classIn doubleFormat v := by
    rcases h with hi | hz
    · simp [classIn, (isInf_notNaN hi).1, hi]
    · simp [classIn, (isZero_notNaN hz).1, (isZero_notNaN hz).2, hz]
  rw [fprfOf, hclass, fprfOf]

theorem xor_sign_eq (v : Dword) : v ^^^ 0x8000000000000000 = fpNegate v := by
  have hmask : (0x8000000000000000 : Dword) = (1 : Dword) <<< 63 := by decide
  rw [hmask, fpNegate]

/-- An instruction whose outcome is an infinity or a zero without exceptions. -/
theorem delivers_special {s : State} {i : Instr} {single : Bool} {d : BitVec 5} {operands : List Dword} {rc : Bool}
    {compute : FpControl → FpOutcome} {fmt : Format} {v : Dword} (hq : s.FloatQuiet) (hni : bit s.fpscr 29 = false)
    (hexec : exec i s = floatArith s single d operands rc compute)
    (hsingle : single = true → operands.all isSingle = true) (hv : Special v)
    (hcompute : ∀ free, compute (fpControl s.fpscr free) = deliver fmt v 0) :
    Completes (exec i s) fun t => DeliveredExactly s t d v := by
  rw [hexec]
  refine (floatArith_computed hq hni hsingle d rc compute).imp fun t ht => ?_
  rw [hcompute] at ht
  exact ht.deliveredExactly rfl (congrArg some (hv.fprfOf_eq fmt)) rfl rfl rfl

theorem exactOf_num_of_zero {v : Dword} (h : fpIsZero v = true) : (exactOf v).num = 0 := by
  by_contra hne
  exact (Exact.num_ne_zero_iff (exactOf_den_pos v)).mp hne ((realOf_eq_zero_iff v).mpr h)

theorem arithmeticResult_zero (fmt : Format) (ctl : FpControl) {x : Exact} (h : x.num = 0) :
    arithmeticResult fmt ctl x = deliver fmt (zeroOf x.neg) 0 := if_pos h

/-! ### Sums -/

/-- The sum of an addend or product, infinite with the sign `p` or the number `x`, and of `b`. -/
def sumOutcome (fmt : Format) (ctl : FpControl) (infinite p : Bool) (x : Exact) (b : Dword) : FpOutcome :=
  if infinite then if fpIsInf b && p != fpSign b then invalid fmt ctl fpVXISI else deliver fmt (infinityOf p) 0
  else if fpIsInf b then deliver fmt (infinityOf (fpSign b)) 0
  else arithmeticResult fmt ctl (x.add (exactOf b) ctl.rn)

/-- The infinity or the exact zero that a sum gives. -/
def specialSum (rn : BitVec 2) (infinite p : Bool) (b : Dword) : Dword :=
  if infinite then infinityOf p else if fpIsInf b then infinityOf (fpSign b)
  else zeroOf (if p = fpSign b then p else rn == 3)

theorem special_specialSum (rn : BitVec 2) (infinite p : Bool) (b : Dword) : Special (specialSum rn infinite p b) := by
  unfold specialSum
  split
  · exact special_infinityOf p
  · split
    · exact special_infinityOf _
    · exact special_zeroOf _

theorem addNumbers_eq (fmt : Format) (ctl : FpControl) (a b : Dword) :
    addNumbers fmt ctl a b = sumOutcome fmt ctl (fpIsInf a) (fpSign a) (exactOf a) b := rfl

theorem mulAddNumbers_eq (fmt : Format) (ctl : FpControl) {a c : Dword} (b : Dword) (h : infinityTimesZero a c = false) :
    mulAddNumbers fmt ctl a c b =
      sumOutcome fmt ctl (fpIsInf a || fpIsInf c) (fpSign a != fpSign c) ((exactOf a).mul (exactOf c)) b := by
  unfold mulAddNumbers sumOutcome
  rw [h, if_neg Bool.false_ne_true, bne_comm (a := fpSign b)]

/-- The sign of an exact zero (R242 d). -/
theorem Exact.add_neg_of_zero {x y : Exact} {rn : BitVec 2} (h : (x.add y rn).num = 0) :
    (x.add y rn).neg = if x.neg = y.neg then x.neg else rn == 3 :=
  if_pos (Int.natAbs_eq_zero.mp h)

/-- A sum that needs no rounding: an infinity that meets none of the other sign, or an exact zero. -/
theorem sumOutcome_special (fmt : Format) (ctl : FpControl) {infinite p : Bool} {x : Exact} {b : Dword} (hd : 0 < x.den)
    (hp : x.neg = p) (hinfinite : infinite = true → fpIsInf b = true → p = fpSign b)
    (hzero : infinite = false → fpIsInf b = false → x.value + realOf b = 0) :
    sumOutcome fmt ctl infinite p x b = deliver fmt (specialSum ctl.rn infinite p b) 0 := by
  unfold sumOutcome specialSum
  cases infinite
  · cases hb : fpIsInf b
    · have hvalue := Exact.add_value hd (exactOf_den_pos b) ctl.rn
      rw [← realOf_eq_value, hzero rfl hb] at hvalue
      have hden : 0 < (x.add (exactOf b) ctl.rn).den := Nat.mul_pos hd (exactOf_den_pos b)
      have hnum : (x.add (exactOf b) ctl.rn).num = 0 := not_not.mp fun h => (Exact.num_ne_zero_iff hden).mp h hvalue
      simp only [Bool.false_eq_true, if_false]
      rw [arithmeticResult_zero _ _ hnum, Exact.add_neg_of_zero hnum, exactOf_neg, hp]
    · simp only [Bool.false_eq_true, if_false, if_true]
  · have hmeets : (fpIsInf b && p != fpSign b) = false := by
      cases hb : fpIsInf b
      · rfl
      · rw [hinfinite rfl hb, bne_self_eq_false, Bool.and_false]
    simp only [hmeets, Bool.false_eq_true, if_false, if_true]

theorem negatedIf_deliver (fmt : Format) {v : Dword} (h : Special v) (negate : Bool) :
    negatedIf negate (deliver fmt v 0) = deliver fmt (if negate then fpNegate v else v) 0 := by
  cases negate
  · rfl
  · simp only [negatedIf, if_true]
    rw [negateOutcome_of rfl h.notNaN, deliver, deliver, Option.map_some, negateFprf_fprfOf]

/-! ### The additions and the multiply-adds -/

section
variable {s : State} {d a b c : BitVec 5} {rc single subtract negated : Bool} {i : Instr}

/-- The addition or subtraction of operands that are no NaN. -/
theorem exec_sum_of
    (h : (i, single, subtract) ∈
      [(Instr.faddx d a b rc, false, false), (.fsubx d a b rc, false, true), (.faddsx d a b rc, true, false),
        (.fsubsx d a b rc, true, true)])
    (ha : fpIsNaN (s.f a) = false) (hb : fpIsNaN (s.f b) = false) :
    ∃ compute, exec i s = floatArith s single d [s.f a, s.f b] rc compute ∧ ∀ ctl, compute ctl =
      addNumbers (formatOf single) ctl (s.f a) (if subtract then fpNegate (s.f b) else s.f b) := by
  have hadd : ∀ fmt ctl, fpAdd fmt (s.f a) (s.f b) ctl = addNumbers fmt ctl (s.f a) (s.f b) := fun fmt ctl => by
    simp [fpAdd, ha, hb]
  have hsub : ∀ fmt ctl, fpSub fmt (s.f a) (s.f b) ctl = addNumbers fmt ctl (s.f a) (fpNegate (s.f b)) := fun fmt ctl => by
    simp [fpSub, ha, hb]
  simp only [List.mem_cons, List.not_mem_nil, or_false, Prod.mk.injEq] at h
  rcases h with ⟨rfl, rfl, rfl⟩ | ⟨rfl, rfl, rfl⟩ | ⟨rfl, rfl, rfl⟩ | ⟨rfl, rfl, rfl⟩
  exacts [⟨_, rfl, hadd _⟩, ⟨_, rfl, hsub _⟩, ⟨_, rfl, hadd _⟩, ⟨_, rfl, hsub _⟩]

/-- The multiply-adds by precision, subtraction and final sign. -/
theorem exec_signedMulAdd_of
    (h : (i, single, subtract, negated) ∈
      [(Instr.fmaddx d a b c rc, false, false, false), (.fmsubx d a b c rc, false, true, false),
        (.fnmaddx d a b c rc, false, false, true), (.fnmsubx d a b c rc, false, true, true),
        (.fmaddsx d a b c rc, true, false, false), (.fmsubsx d a b c rc, true, true, false),
        (.fnmaddsx d a b c rc, true, false, true), (.fnmsubsx d a b c rc, true, true, true)]) :
    exec i s = floatArith s single d [s.f a, s.f b, s.f c] rc
      (fpMulAdd (formatOf single) subtract negated (s.f a) (s.f c) (s.f b)) := by
  simp only [List.mem_cons, List.not_mem_nil, or_false, Prod.mk.injEq] at h
  rcases h with ⟨rfl, rfl, rfl, rfl⟩ | ⟨rfl, rfl, rfl, rfl⟩ | ⟨rfl, rfl, rfl, rfl⟩ | ⟨rfl, rfl, rfl, rfl⟩ |
    ⟨rfl, rfl, rfl, rfl⟩ | ⟨rfl, rfl, rfl, rfl⟩ | ⟨rfl, rfl, rfl, rfl⟩ | ⟨rfl, rfl, rfl, rfl⟩ <;> rfl

end

section
variable {s : State} {d : BitVec 5} {rc single subtract negated infinite p : Bool} {i : Instr} {operands : List Dword}
  {compute : FpControl → FpOutcome} {x : Exact} {b : Dword}

/-- An instruction that adds `b`, or subtracts it, and gives an infinity or an exact zero. -/
theorem sum_completes (hq : s.FloatQuiet) (hni : bit s.fpscr 29 = false)
    (hexec : exec i s = floatArith s single d operands rc compute)
    (hsingle : single = true → operands.all isSingle = true)
    (hcompute : ∀ ctl, compute ctl =
      negatedIf negated (sumOutcome (formatOf single) ctl infinite p x (if subtract then fpNegate b else b)))
    (hd : 0 < x.den) (hp : x.neg = p)
    (hinfinite : infinite = true → fpIsInf b = true → p = (fpSign b != subtract))
    (hzero : infinite = false → fpIsInf b = false → (if subtract then x.value - realOf b else x.value + realOf b) = 0) :
    let v := if infinite then infinityOf p else if fpIsInf b then infinityOf (fpSign b != subtract)
      else zeroOf (if p = (fpSign b != subtract) then p else decide (field s.fpscr 30 31 = 3))
    Completes (exec i s) fun t => DeliveredExactly s t d (if negated then v ^^^ 0x8000000000000000 else v) := by
  intro v
  have hinf : fpIsInf (if subtract then fpNegate b else b) = fpIsInf b := by
    obtain ⟨_, h, _⟩ := class_negate b
    cases subtract
    · rfl
    · exact h
  have hv : ∀ free, specialSum (fpControl s.fpscr free).rn infinite p (if subtract then fpNegate b else b) = v := fun _ => by
    rw [specialSum, hinf, fpSign_addend, beq_eq_decide]
    rfl
  have hspecial : Special v := hv false ▸ special_specialSum _ _ _ _
  clear_value v
  have hsum : ∀ free, sumOutcome (formatOf single) (fpControl s.fpscr free) infinite p x
      (if subtract then fpNegate b else b) = deliver (formatOf single) v 0 := fun free => by
    rw [sumOutcome_special _ _ hd hp, hv free]
    · rw [hinf, fpSign_addend]
      exact hinfinite
    · rw [hinf, realOf_addend]
      intro h1 h2
      rw [← hzero h1 h2]
      cases subtract
      · rfl
      · exact (sub_eq_add_neg _ _).symm
  rw [xor_sign_eq]
  refine delivers_special (fmt := formatOf single) (v := if negated then fpNegate v else v) hq hni hexec hsingle ?_
    fun free => ?_
  · split
    · exact hspecial.negate
    · exact hspecial
  · rw [hcompute, hsum, negatedIf_deliver _ hspecial]

end

/-! ### Products, quotients and `frsp` -/

section
variable {a b c : Dword} (fmt : Format) (ctl : FpControl)

theorem fpMul_infinity (ha : fpIsNaN a = false ∧ fpIsZero a = false) (hc : fpIsNaN c = false ∧ fpIsZero c = false)
    (h : (fpIsInf a || fpIsInf c) = true) :
    fpMul fmt a c ctl = deliver fmt (infinityOf (fpSign a != fpSign c)) 0 := by
  simp [fpMul, infinityTimesZero, ha.1, ha.2, hc.1, hc.2, h]

theorem fpMul_zero (ha : Finite a) (hc : Finite c) (h : (fpIsZero a || fpIsZero c) = true) :
    fpMul fmt a c ctl = deliver fmt (zeroOf (fpSign a != fpSign c)) 0 := by
  have hnum : ((exactOf a).mul (exactOf c)).num = 0 := by
    rw [Exact.mul, Nat.mul_eq_zero]
    exact (Bool.or_eq_true_iff.mp h).imp exactOf_num_of_zero exactOf_num_of_zero
  rw [fpMul_finite fmt ctl ha hc, arithmeticResult_zero _ _ hnum, Exact.mul, exactOf_neg, exactOf_neg]

theorem fpDiv_infinite_dividend (hb : Finite b) (ha : fpIsInf a = true) :
    fpDiv fmt a b ctl = deliver fmt (infinityOf (fpSign a != fpSign b)) 0 := by
  simp [fpDiv, ha, (isInf_notNaN ha).1, hb.1, hb.2]

theorem fpDiv_infinite_divisor (ha : Finite a) (hb : fpIsInf b = true) :
    fpDiv fmt a b ctl = deliver fmt (zeroOf (fpSign a != fpSign b)) 0 := by
  simp [fpDiv, hb, (isInf_notNaN hb).1, ha.1, ha.2]

theorem fpDiv_zero_dividend (hb : fpIsNaN b = false ∧ fpIsZero b = false) (ha : fpIsZero a = true) :
    fpDiv fmt a b ctl = deliver fmt (zeroOf (fpSign a != fpSign b)) 0 := by
  have hfin : Finite a := isZero_notNaN ha
  cases hinf : fpIsInf b
  · have hnum : ((exactOf a).div (exactOf b)).num = 0 := by
      rw [Exact.div, exactOf_num_of_zero ha, Nat.zero_mul]
    rw [fpDiv_finite fmt ctl hfin ⟨hb.1, hinf⟩ hb.2, arithmeticResult_zero _ _ hnum, Exact.div, exactOf_neg, exactOf_neg]
  · exact fpDiv_infinite_divisor fmt ctl hfin hinf

theorem fpRoundSingle_special (h : Special b) : fpRoundSingle b ctl = deliver singleFormat b 0 := by
  have hor : (fpIsInf b || fpIsZero b) = true := Bool.or_eq_true_iff.mpr h
  simp [fpRoundSingle, h.notNaN, hor]

end

/-- Settles O51: the three parts by the operations' equations. -/
theorem representableResultsAreExact : Obligations.RepresentableResultsAreExact := by
  refine ⟨fun d a b c rc s i exact v hq hue hni hops hi hn hinf hv hx => ?_,
    fun d a b c rc single subtract negated s i ops x p infinite hq hni hi hops hinfinite hzero => ?_,
    fun d a b c rc single s i ops v hq hni hi hops => ?_⟩
  · exact representable_results hq hue hni hops hi ⟨hn, hinf⟩ hv hx
  · rcases hi with ⟨hi, rfl, rfl, rfl, rfl, rfl⟩ | ⟨hi, rfl, rfl, rfl, rfl, hnonzero⟩
    · simp only [List.forall_mem_cons, List.not_mem_nil, false_implies, implies_true, and_true] at hops
      obtain ⟨⟨han, has⟩, hbn, hbs⟩ := hops
      obtain ⟨compute, hexec, hcompute⟩ := exec_sum_of hi han hbn
      exact sum_completes (negated := false) hq hni hexec (fun h => by simp [has h, hbs h]) hcompute (exactOf_den_pos _)
        (exactOf_neg _) hinfinite hzero
    · simp only [List.forall_mem_cons, List.not_mem_nil, false_implies, implies_true, and_true] at hops
      obtain ⟨⟨han, has⟩, ⟨hbn, hbs⟩, hcn, hcs⟩ := hops
      have himz : infinityTimesZero (s.f a) (s.f c) = false := by
        rw [← Bool.not_eq_true, infinityTimesZero_iff]
        rintro (⟨h1, h2⟩ | ⟨h1, h2⟩)
        · rw [(hnonzero (by rw [h1, Bool.true_or])).2] at h2
          cases h2
        · rw [(hnonzero (by rw [h2, Bool.or_true])).1] at h1
          cases h1
      refine sum_completes (x := (exactOf (s.f a)).mul (exactOf (s.f c))) hq hni (exec_signedMulAdd_of hi)
        (fun h => by simp [has h, hbs h, hcs h]) (fun ctl => ?_)
        (Nat.mul_pos (exactOf_den_pos (s.f a)) (exactOf_den_pos (s.f c))) ?_ hinfinite ?_
      · rw [fpMulAdd, han, hbn, hcn, ← mulAddNumbers_eq _ _ _ himz]
        rfl
      · rw [Exact.mul, exactOf_neg, exactOf_neg]
      · rw [Exact.mul_value, ← realOf_eq_value, ← realOf_eq_value]
        exact hzero
  · rcases hi with ⟨rfl, rfl, hi⟩ | ⟨rfl, rfl, hi⟩ | ⟨rfl, rfl, rfl, hi, rfl⟩
    · simp only [List.forall_mem_cons, List.not_mem_nil, false_implies, implies_true, and_true] at hops
      obtain ⟨⟨han, has⟩, hcn, hcs⟩ := hops
      have hsingle : single = true → [s.f a, s.f c].all isSingle = true := fun h => by simp [has h, hcs h]
      rcases hi with ⟨hinf, haz, hcz, rfl⟩ | ⟨hz, hai, hci, rfl⟩
      · exact delivers_special hq hni (exec_mul_of s single d a c rc) hsingle (special_infinityOf _) fun _ =>
          fpMul_infinity _ _ ⟨han, haz⟩ ⟨hcn, hcz⟩ hinf
      · exact delivers_special hq hni (exec_mul_of s single d a c rc) hsingle (special_zeroOf _) fun _ =>
          fpMul_zero _ _ ⟨han, hai⟩ ⟨hcn, hci⟩ hz
    · simp only [List.forall_mem_cons, List.not_mem_nil, false_implies, implies_true, and_true] at hops
      obtain ⟨⟨han, has⟩, hbn, hbs⟩ := hops
      have hsingle : single = true → [s.f a, s.f b].all isSingle = true := fun h => by simp [has h, hbs h]
      rcases hi with ⟨hai, hbi, rfl⟩ | ⟨hai, hbi, rfl⟩ | ⟨haz, hbz, rfl⟩
      · exact delivers_special hq hni (exec_div_of s single d a b rc) hsingle (special_infinityOf _) fun _ =>
          fpDiv_infinite_dividend _ _ ⟨hbn, hbi⟩ hai
      · exact delivers_special hq hni (exec_div_of s single d a b rc) hsingle (special_zeroOf _) fun _ =>
          fpDiv_infinite_divisor _ _ ⟨han, hai⟩ hbi
      · exact delivers_special hq hni (exec_div_of s single d a b rc) hsingle (special_zeroOf _) fun _ =>
          fpDiv_zero_dividend _ _ ⟨hbn, hbz⟩ haz
    · have hspecial : Special (s.f b) := Bool.or_eq_true_iff.mp hi
      exact delivers_special (i := .frspx d b rc) (single := false) hq hni rfl nofun hspecial fun _ =>
        fpRoundSingle_special _ hspecial

end Sys2Proof.Machine
end

section
namespace Sys2Proof.Machine

/-! ## The estimate of the reciprocal square root (43_floating_point.md R260) -/

/-- A bound on the size of an exact value, in whole numbers. -/
theorem Exact.le_size_iff {x : Exact} (hd : 0 < x.den) (c k : Nat) :
    c * x.den ≤ k * x.num ↔ (c : Rat) ≤ k * x.size := by
  rw [Exact.size, ← mul_div_assoc, le_div_iff₀ (by exact_mod_cast hd)]
  exact_mod_cast Iff.rfl

theorem Exact.size_le_iff {x : Exact} (hd : 0 < x.den) (c k : Nat) :
    k * x.num ≤ c * x.den ↔ (k : Rat) * x.size ≤ c := by
  rw [Exact.size, ← mul_div_assoc, div_le_iff₀ (by exact_mod_cast hd)]
  exact_mod_cast Iff.rfl

theorem Exact.mul_size (x y : Exact) : (x.mul y).size = x.size * y.size := by
  rw [← Exact.abs_value, Exact.mul_value, abs_mul, Exact.abs_value, Exact.abs_value]

theorem exactOf_size (v : Dword) : (exactOf v).size = |realOf v| := by rw [realOf_eq_value, Exact.abs_value]

/-- What the check of an estimate of the reciprocal square root says. -/
theorem rsqrtBoundOk_iff (b v : Dword) :
    rsqrtBoundOk b v = true ↔ fpSign v = false ∧ fpExponent v ≠ 2047 ∧ 961 ≤ 1024 * (|realOf v| * |realOf v| * |realOf b|) ∧
      1024 * (|realOf v| * |realOf v| * |realOf b|) ≤ 1089 := by
  have hd : 0 < (((exactOf v).mul (exactOf v)).mul (exactOf b)).den :=
    Nat.mul_pos (Nat.mul_pos (exactOf_den_pos v) (exactOf_den_pos v)) (exactOf_den_pos b)
  have hlow := Exact.le_size_iff hd 961 1024
  have hhigh := Exact.size_le_iff hd 1089 1024
  rw [Exact.mul_size, Exact.mul_size, exactOf_size, exactOf_size] at hlow hhigh
  simp only [rsqrtBoundOk, Bool.and_eq_true, Bool.not_eq_true', bne_iff_ne, decide_eq_true_eq, hlow, hhigh, and_assoc,
    Nat.cast_ofNat]

/-- A number from 1 to below 4 has an estimate among the candidates: the largest whose square does not exceed the
reciprocal. -/
theorem exists_candidate {f : Rat} (hlow : 1 ≤ f) (hhigh : f < 4) :
    ∃ n : Nat, 32 ≤ n ∧ n ≤ 64 ∧ 3844 ≤ (n : Rat) ^ 2 * f ∧ (n : Rat) ^ 2 * f ≤ 4096 := by
  have hpos : 0 < f := by linarith
  have hfloor : ∀ n : Nat, n ^ 2 ≤ ⌊4096 / f⌋₊ ↔ (n : Rat) ^ 2 * f ≤ 4096 := fun n => by
    rw [Nat.le_floor_iff (by positivity), le_div_iff₀ hpos]
    push_cast
    rfl
  have hbelow := (hfloor _).mp (Nat.sqrt_le' ⌊4096 / f⌋₊)
  have habove : ¬ _ := mt (hfloor _).mpr (not_le.mpr (Nat.lt_succ_sqrt' ⌊4096 / f⌋₊))
  have hmin : 32 ≤ Nat.sqrt ⌊4096 / f⌋₊ := Nat.le_sqrt'.mpr ((hfloor 32).mpr (by norm_num; linarith))
  have hmax : Nat.sqrt ⌊4096 / f⌋₊ < 65 := Nat.sqrt_lt'.mpr (not_le.mp (mt (hfloor 65).mp (by norm_num; linarith)))
  generalize Nat.sqrt ⌊4096 / f⌋₊ = n at *
  refine ⟨n, hmin, by omega, ?_, hbelow⟩
  by_contra hsmall
  have hn : (32 : Rat) ≤ n := by exact_mod_cast hmin
  push_cast at habove
  have hproduct : 124 < n * f := by nlinarith
  nlinarith

/-- The search finds a candidate where there is one. -/
theorem getD_find?_of_exists {α : Type} {l : List α} {p : α → Bool} (d : α) (h : ∃ x ∈ l, p x = true) :
    p ((l.find? p).getD d) = true := by
  obtain ⟨y, hy⟩ := Option.isSome_iff_exists.mp (List.find?_isSome.mpr h)
  rw [hy, Option.getD_some]
  exact List.find?_some hy

section
variable {b : Dword} (hb : Finite b) (hpos : 0 < realOf b)
include hb hpos

/-- The search of R260 keeps the bound for every positive number. -/
theorem rsqrtSearch_boundOk : rsqrtBoundOk b (rsqrtSearch b ((exactOf b).exponent / 2)) = true := by
  have hnum := (Exact.num_ne_zero_iff (exactOf_den_pos b)).mpr hpos.ne'
  obtain ⟨hlow, hhigh⟩ := Exact.exponent_spec hnum (exactOf_den_pos b)
  rw [exactOf_size] at hlow hhigh
  have hrange := hb.inRange
  have hmin := (zpow_lt_zpow_iff_right₀ (show (1 : Rat) < 2 by norm_num)).mp ((hrange.low_le hpos.ne').trans_lt hhigh)
  have hmax := (zpow_lt_zpow_iff_right₀ (show (1 : Rat) < 2 by norm_num)).mp (hlow.trans_lt hrange.2)
  generalize (exactOf b).exponent = e at *
  obtain ⟨h, f, hh, hf, hf1, hf4⟩ : ∃ (h : Int) (f : Rat), e / 2 = h ∧ |realOf b| = f * (2 ^ h * 2 ^ h) ∧ 1 ≤ f ∧ f < 4 := by
    have hsq : (0 : Rat) < 2 ^ (e / 2) * 2 ^ (e / 2) := mul_pos (two_zpow_pos _) (two_zpow_pos _)
    refine ⟨e / 2, |realOf b| / (2 ^ (e / 2) * 2 ^ (e / 2)), rfl, (div_mul_cancel₀ _ hsq.ne').symm, ?_, ?_⟩
    · rw [one_le_div hsq, ← zpow_add₀ (by norm_num)]
      exact (zpow_le_zpow_right₀ (by norm_num) (by omega)).trans hlow
    · rw [div_lt_iff₀ hsq, ← zpow_add₀ (by norm_num), show (4 : Rat) = 2 ^ (2 : Int) by norm_num,
        ← zpow_add₀ (by norm_num)]
      exact hhigh.trans_le (zpow_le_zpow_right₀ (by norm_num) (by omega))
  obtain ⟨n, hn32, hn64, hnlow, hnhigh⟩ := exists_candidate hf1 hf4
  have hpack : Packable n (-6 - h) := by
    refine ⟨by omega, ?_, .inl (by omega)⟩
    calc (n : Rat) * 2 ^ (-6 - h) ≤ 2 ^ (6 : Int) * 2 ^ (-6 - h) :=
          mul_le_mul_of_nonneg_right (by norm_num; exact_mod_cast hn64) (two_zpow_pos _).le
      _ = 2 ^ (6 + (-6 - h)) := (zpow_add₀ (by norm_num) _ _).symm
      _ < 2 ^ (1024 : Int) := zpow_lt_zpow_right₀ (by norm_num) (by omega)
  obtain ⟨hsign, hexp, hreal⟩ := packDouble_spec (neg := false) hpack
  have hsize : |realOf (packDouble false n (-6 - h))| = n / 64 / 2 ^ h := by
    rw [hreal, abs_signFactor_mul _ (by positivity), zpow_sub₀ (by norm_num), div_div, mul_div_assoc']
    norm_num
    ring
  have hproduct : n / 64 / 2 ^ h * (n / 64 / 2 ^ h) * (f * (2 ^ h * 2 ^ h)) = (n : Rat) ^ 2 * f / 4096 := by
    have hne := (two_zpow_pos h).ne'
    field_simp
    norm_num
  rw [hh]
  refine getD_find?_of_exists 0 ⟨packDouble false n (-6 - h), ?_, ?_⟩
  · exact List.mem_map.mpr ⟨n - 32, List.mem_range.mpr (by omega), by rw [Nat.sub_add_cancel hn32]⟩
  · rw [rsqrtBoundOk_iff, hsize, hf, hproduct]
    exact ⟨hsign, by omega, by linarith, by linarith⟩

/-- Every estimate of the reciprocal square root keeps the bound of R260. -/
theorem rsqrtEstimate_bounds :
    fpIsNaN (rsqrtEstimate b) = false ∧ fpIsInf (rsqrtEstimate b) = false ∧ 0 < realOf (rsqrtEstimate b) ∧
      961 ≤ 1024 * (realOf (rsqrtEstimate b) * realOf (rsqrtEstimate b) * realOf b) ∧
      1024 * (realOf (rsqrtEstimate b) * realOf (rsqrtEstimate b) * realOf b) ≤ 1089 := by
  have hok : rsqrtBoundOk b (rsqrtEstimate b) = true := by
    unfold rsqrtEstimate
    dsimp only
    split
    · assumption
    · exact rsqrtSearch_boundOk hb hpos
  generalize rsqrtEstimate b = v at *
  obtain ⟨hsign, hexp, hlow, hhigh⟩ := (rsqrtBoundOk_iff b v).mp hok
  obtain ⟨hn, hi⟩ := (finite_iff v).mpr (lt_of_le_of_ne (Nat.le_of_lt_succ (fpExponent_lt v)) hexp)
  have hnonneg : |realOf v| = realOf v := by
    rw [abs_realOf, realOf_eq, hsign, signFactor, if_neg Bool.false_ne_true, one_mul]
  rw [hnonneg, abs_of_pos hpos] at hlow hhigh
  refine ⟨hn, hi, lt_of_le_of_ne (hnonneg ▸ abs_nonneg _) fun hz => ?_, hlow, hhigh⟩
  rw [← hz] at hlow
  norm_num at hlow

end

section
variable {s : State} {d b : BitVec 5} {rc : Bool} (hq : s.FloatQuiet) (hni : bit s.fpscr 29 = false)
  (hn : fpIsNaN (s.f b) = false)
include hq hni hn

/-- `frsqrte` of a positive number. -/
theorem frsqrte_positive (hi : fpIsInf (s.f b) = false) (hpos : 0 < realOf (s.f b)) :
    Completes (exec (.frsqrtex d b rc) s) fun t =>
      fpIsNaN (t.f d) = false ∧ fpIsInf (t.f d) = false ∧ 0 < realOf (t.f d) ∧
        961 ≤ 1024 * (realOf (t.f d) * realOf (t.f d) * realOf (s.f b)) ∧
        1024 * (realOf (t.f d) * realOf (t.f d) * realOf (s.f b)) ≤ 1089 ∧
        field t.fpscr 15 19 = fprfOf doubleFormat (t.f d) ∧ BitsKept s.fpscr t.fpscr 3 10 ∧
        BitsKept s.fpscr t.fpscr 21 11 := by
  have hz : fpIsZero (s.f b) = false := Bool.eq_false_iff.mpr fun h => hpos.ne' ((realOf_eq_zero_iff _).mpr h)
  have hs : fpSign (s.f b) = false := by
    rw [fpSign_of_realOf hpos.ne']
    exact decide_eq_false (not_lt.mpr hpos.le)
  refine (floatArith_computed hq hni (single := false) (operands := [s.f b]) nofun d rc _).imp fun t ht => ?_
  simp only [fpReciprocalSqrt, hn, hz, hs, hi, Bool.false_eq_true, if_false] at ht
  have htarget : t.f d = rsqrtEstimate (s.f b) := ht.target
  obtain ⟨h1, h2, h3, h4, h5⟩ := rsqrtEstimate_bounds ⟨hn, hi⟩ hpos
  rw [htarget]
  have hnone : ∀ k, bit (0 : Word) k = false := fun k => by simp [bit]
  exact ⟨h1, h2, h3, h4, h5, ht.fpscr ▸ field_fpUpdate _ _ rfl,
    ht.fpscr ▸ fpUpdate_kept _ _ (.inl (by omega)) fun k _ _ _ => hnone k,
    ht.fpscr ▸ fpUpdate_kept _ _ (.inr (by omega)) fun k _ _ _ => hnone k⟩

end

/-- The estimates of an infinity are zeros. -/
theorem estimates_infinity {s : State} {d b : BitVec 5} {rc : Bool} (hq : s.FloatQuiet) (hni : bit s.fpscr 29 = false)
    (hi : fpIsInf (s.f b) = true) :
    (Completes (exec (.fresx d b rc) s) fun t => t.f d = zeroOf (fpSign (s.f b))) ∧
      (fpSign (s.f b) = false → Completes (exec (.frsqrtex d b rc) s) fun t => t.f d = 0) := by
  obtain ⟨hn, hz⟩ := isInf_notNaN hi
  constructor
  · refine (floatArith_computed hq hni (single := true) (operands := [s.f b])
      (fun _ => by simp [isSingle_of_isInf hi]) d rc _).imp fun t ht => ?_
    simp only [fpReciprocal, hn, hi, Bool.false_eq_true, if_false, if_true] at ht
    exact ht.target
  · intro hs
    refine (floatArith_computed hq hni (single := false) (operands := [s.f b]) nofun d rc _).imp fun t ht => ?_
    simp only [fpReciprocalSqrt, hn, hz, hs, hi, Bool.false_eq_true, if_false, if_true] at ht
    exact ht.target

end Sys2Proof.Machine
end

section
namespace Sys2Proof.Machine

/-! ## The estimate of the reciprocal (43_floating_point.md R259) -/

/-- A rounded number lies less than one unit from the exact one. -/
theorem RoundsTo.near {u x y : Rat} {rn : BitVec 2} (hu : 0 < u) (h : RoundsTo u rn x y) : |y - x| < u := by
  obtain ⟨n, _, hnearest, hzero, habove, hbelow⟩ := h
  rw [magnitude_eq] at hnearest
  rw [magnitude_eq, magnitude_eq] at hzero
  rcases mode_cases rn with rfl | rfl | rfl | rfl
  · linarith [(hnearest rfl).1]
  · obtain ⟨hsmall, hbig, hsign⟩ := hzero rfl
    have hproduct : |x| * |y| = x * y := by rw [← abs_mul, abs_of_nonneg hsign]
    have hdistance : |y - x| = |x| - |y| := by
      rw [← abs_of_nonneg (sub_nonneg.mpr hsmall), ← sq_eq_sq_iff_abs_eq_abs]
      linear_combination 2 * hproduct - sq_abs x - sq_abs y
    linarith
  · obtain ⟨h1, h2⟩ := habove rfl
    rw [abs_lt]
    constructor <;> linarith
  · obtain ⟨h1, h2⟩ := hbelow rfl
    rw [abs_lt]
    constructor <;> linarith

/-! ### Which doubles are single-precision values (R240 c) -/

/-- A power of two divides the significand of a double that is a multiple of a large enough power of two. -/
theorem dvd_significand {v : Dword} {n : Nat} {q : Int} {j : Nat} (h : |realOf v| = n * 2 ^ q) (hj : fpScale v + j ≤ q) :
    2 ^ j ∣ fpSignificand v := by
  obtain ⟨k, hk⟩ := Int.eq_ofNat_of_zero_le (show 0 ≤ q - fpScale v - j by omega)
  refine ⟨n * 2 ^ k, ?_⟩
  have hq : q = ((j + k : Nat) : Int) + fpScale v := by push_cast; omega
  rw [abs_realOf, hq, ← two_pow_mul_two_zpow, ← mul_assoc] at h
  have hcast : (fpSignificand v : Rat) = n * 2 ^ (j + k) := mul_right_cancel₀ (two_zpow_pos _).ne' h
  have hnat : fpSignificand v = n * 2 ^ (j + k) := by exact_mod_cast hcast
  rw [hnat, pow_add]
  ring

/-- A double with at most 24 significant bits in the range of the format is a single-precision value. -/
theorem isSingle_of_multiple {v : Dword} {n : Nat} {q : Int} (h : |realOf v| = n * 2 ^ q) (hn : n ≤ 2 ^ 24)
    (hq : -149 ≤ q) (hlt : |realOf v| < 2 ^ (128 : Int)) : isSingle v = true := by
  by_cases hz : realOf v = 0
  · exact isSingle_of_isZero ((realOf_eq_zero_iff v).mp hz)
  obtain ⟨n, q, h, hn, hq⟩ : ∃ (m : Nat) (r : Int), |realOf v| = m * 2 ^ r ∧ m < 2 ^ 24 ∧ -149 ≤ r := by
    rcases Nat.lt_or_eq_of_le hn with hlt | rfl
    · exact ⟨n, q, h, hlt, hq⟩
    · refine ⟨2 ^ 23, q + 1, ?_, by norm_num, by omega⟩
      rw [h, zpow_add_one₀ (by norm_num)]
      push_cast
      ring
  have hsig : (fpSignificand v : Rat) < 2 ^ (53 : Int) := by exact_mod_cast significand_lt v
  have hmin : (2 : Rat) ^ (-149 : Int) ≤ |realOf v| :=
    (show InRange (-149) 128 (|realOf v|) from
      InRange.mono (low := q) ⟨⟨n, by rw [h]; push_cast; rfl⟩, by rwa [abs_abs]⟩ hq le_rfl).low_le
        (abs_ne_zero.mpr hz) |>.trans_eq (abs_abs _)
  have hscale : -149 < fpScale v + 53 := by
    rw [abs_realOf] at hmin
    refine (zpow_lt_zpow_iff_right₀ (show (1 : Rat) < 2 by norm_num)).mp (hmin.trans_lt ?_)
    rw [add_comm, zpow_add₀ (by norm_num)]
    exact mul_lt_mul_of_pos_right hsig (two_zpow_pos _)
  have hnormal : 2 ^ 52 ≤ fpSignificand v := (significand_normalized v).resolve_right (by omega)
  have hbig : (2 : Rat) ^ (52 : Int) * 2 ^ fpScale v ≤ |realOf v| := by
    rw [abs_realOf]
    exact mul_le_mul_of_nonneg_right (by exact_mod_cast hnormal) (two_zpow_pos _).le
  rw [← zpow_add₀ (by norm_num)] at hbig
  have hmax := (zpow_lt_zpow_iff_right₀ (show (1 : Rat) < 2 by norm_num)).mp (hbig.trans_lt hlt)
  have hbits : 52 + fpScale v < 24 + q := by
    refine (zpow_lt_zpow_iff_right₀ (show (1 : Rat) < 2 by norm_num)).mp (hbig.trans_lt ?_)
    rw [h, zpow_add₀ (by norm_num)]
    exact mul_lt_mul_of_pos_right (by exact_mod_cast hn) (two_zpow_pos _)
  have he0 : fpExponent v ≠ 0 := fun he => by
    have : fpScale v = -1074 := if_pos he
    omega
  have hexp : fpScale v = (fpExponent v : Int) - 1075 := if_neg he0
  have hsignificand : fpSignificand v = 2 ^ 52 + fpFraction v := if_neg he0
  unfold isSingle
  dsimp only
  split
  · have hdvd := Nat.mod_eq_zero_of_dvd (dvd_significand (j := 29) h (by omega))
    exact beq_iff_eq.mpr (by omega)
  · rw [if_pos (by omega), Nat.mod_eq_zero_of_dvd (dvd_significand h (by omega)), beq_self_eq_true]

/-! ### One rounding to single precision -/

/-- The unit of a rounding to single precision. -/
theorem roundingExponent_single (ue : Bool) (e : Int) :
    roundingExponent singleFormat ue e = if e < -126 ∧ ue = false then -149 else e - 23 := by
  rw [roundingExponent, if_congr (by rw [Bool.and_eq_true, decide_eq_true_iff, Bool.not_eq_true']) rfl rfl]
  simp [singleFormat, sub_add]

/-- An outcome is `x` rounded once to a finite single-precision value `v`. -/
structure DeliversSingle (ctl : FpControl) (x : Rat) (e : Int) (v : Dword) (o : FpOutcome) : Prop where
  value : o.value = some v
  fprf : o.fprf = some (fprfOf singleFormat v)
  single : isSingle v = true
  finite : Finite v
  sign : fpSign v = decide (x < 0)
  rounds : RoundsTo (2 ^ roundingExponent singleFormat ctl.ue e) ctl.rn x (realOf v)

/-- An arithmetic result that neither overflows nor is raised by an enabled underflow is a single-precision value. -/
theorem arithmeticResult_single {ctl : FpControl} {x : Exact} {e : Int} (hd : 0 < x.den) (he : HasExponent x.value e)
    (hlow : -149 ≤ e) (hnormal : ctl.ue = false ∨ -126 ≤ e)
    (hhigh : |x.value| + 2 ^ roundingExponent singleFormat ctl.ue e ≤ 2 ^ (128 : Int)) :
    ∃ v, DeliversSingle ctl x.value e v (arithmeticResult singleFormat ctl x) := by
  have hexp := he
  rw [HasExponent, powerOfTwo_eq, powerOfTwo_eq, magnitude_eq] at hexp
  have hx : x.value ≠ 0 := abs_pos.mp ((two_zpow_pos e).trans_le hexp.1)
  have hunit := two_zpow_pos (roundingExponent singleFormat ctl.ue e)
  have hadjust : Adjustable singleFormat x.value :=
    ⟨(zpow_le_zpow_right₀ (by norm_num) ((by decide : -1022 - singleFormat.adjust ≤ -149).trans hlow)).trans hexp.1,
      ((lt_add_of_pos_right _ hunit).trans_le hhigh).trans (zpow_lt_zpow_right₀ (by norm_num) (by decide))⟩
  obtain ⟨y, v, hr⟩ := arithmeticResult_rounds (ctl := ctl) (.inr rfl) hd hx hadjust he
  have hrounds := hr.rounds
  rw [powerOfTwo_eq] at hrounds
  have hnear := hrounds.near hunit
  have hlt : |y| < 2 ^ (128 : Int) := by
    have htriangle := abs_sub_abs_le_abs_sub y x.value
    linarith
  have hover : overflowsFormat singleFormat y = false := by
    rw [overflowsFormat, decide_eq_false_iff_not, not_le, powerOfTwo_eq, magnitude_eq]
    exact hlt
  have htiny : (decide (e < singleFormat.emin) && ctl.ue) = false := by
    rcases hnormal with hue | he
    · rw [hue, Bool.and_false]
    · exact Bool.and_eq_false_iff.mpr (.inl (decide_eq_false (not_lt.mpr he)))
  have hreal : realOf v = y := by
    rw [hr.real (by rw [hover, Bool.false_and]), adjustment, htiny, hover]
    simp
  obtain ⟨n, hn, _⟩ := id hrounds
  have hexponent := roundingExponent_single ctl.ue e
  have hsmall : roundingExponent singleFormat ctl.ue e ≥ -149 ∧ e + 1 ≤ 24 + roundingExponent singleFormat ctl.ue e := by
    rw [hexponent]
    split
    · omega
    · rename_i h
      have hmin : -126 ≤ e := hnormal.elim (fun hue => not_lt.mp fun hlt => h ⟨hlt, hue⟩) id
      omega
  have hsize : |realOf v| = n.natAbs * 2 ^ roundingExponent singleFormat ctl.ue e := by
    rw [hreal, hn, abs_mul, abs_of_pos hunit, Nat.cast_natAbs, Int.cast_abs]
  have hbits : n.natAbs ≤ 2 ^ 24 := by
    have htop : (2 : Rat) ^ (e + 1) ≤ 2 ^ 24 * 2 ^ roundingExponent singleFormat ctl.ue e := by
      rw [two_pow_mul_two_zpow]
      exact zpow_le_zpow_right₀ (by norm_num) hsmall.2
    have htriangle := abs_sub_abs_le_abs_sub y x.value
    have hprod : (n.natAbs : Rat) * 2 ^ roundingExponent singleFormat ctl.ue e <
        (2 ^ 24 + 1) * 2 ^ roundingExponent singleFormat ctl.ue e := by
      rw [← hsize, hreal]
      linarith
    have hcast : (n.natAbs : Rat) < 2 ^ 24 + 1 := lt_of_mul_lt_mul_right hprod hunit.le
    have hnat : n.natAbs < 2 ^ 24 + 1 := by exact_mod_cast hcast
    omega
  refine ⟨v, hr.value, ?_, isSingle_of_multiple hsize hbits hsmall.1 (hreal ▸ hlt), ?_, ?_, hreal ▸ hrounds⟩
  · rw [hr.fprf, htiny, hover, Bool.false_and, Bool.or_self, if_neg Bool.false_ne_true]
  · exact (finite_iff v).mpr ((abs_realOf_lt_iff v).mp
      (hreal ▸ hlt.trans (zpow_lt_zpow_right₀ (by norm_num) (by norm_num))))
  · rw [hr.sign, Bool.bne_false]

end Sys2Proof.Machine
end

section
namespace Sys2Proof.Machine

/-! ## The estimates keep their bounds (43_floating_point.md R259, R260) -/

/-- What the check of an estimate of the reciprocal says. -/
theorem fresBoundOk_iff (b : Dword) (m : Nat) (e : Int) :
    fresBoundOk b m e = true ↔ 0 < m ∧ m < 2 ^ 24 ∧ -149 ≤ e ∧ e ≤ 104 ∧ 255 ≤ 256 * (|realOf b| * (m * 2 ^ e)) ∧
      256 * (|realOf b| * (m * 2 ^ e)) ≤ 257 := by
  have hd : 0 < ((exactOf b).mul (scaled (fpSign b) m e)).den :=
    Nat.mul_pos (exactOf_den_pos b) (scaled_den_pos _ _ _)
  have hlow := Exact.le_size_iff hd 255 256
  have hhigh := Exact.size_le_iff hd 257 256
  rw [Exact.mul_size, exactOf_size, scaled_size] at hlow hhigh
  simp only [fresBoundOk, Bool.and_eq_true, decide_eq_true_eq, hlow, hhigh, and_assoc, Nat.cast_ofNat]

/-- A value that is an estimate of the reciprocal of `b`. -/
structure FresEstimate (b v : Dword) : Prop where
  single : isSingle v = true
  finite : fpIsInf v = false
  sign : fpSign v = fpSign b
  low : 255 ≤ 256 * (realOf v * realOf b)
  high : 256 * (realOf v * realOf b) ≤ 257

/-- The exponents of a power of two and of a number above it. -/
theorem HasExponent.le_of_le {x : Rat} {e k : Int} (he : HasExponent x e) (h : (2 : Rat) ^ k ≤ |x|) : k ≤ e := by
  rw [HasExponent, powerOfTwo_eq, powerOfTwo_eq, magnitude_eq] at he
  have hlt := (zpow_lt_zpow_iff_right₀ (show (1 : Rat) < 2 by norm_num)).mp (h.trans_lt he.2)
  omega

theorem HasExponent.lt_of_lt {x : Rat} {e k : Int} (he : HasExponent x e) (h : |x| < 2 ^ k) : e < k := by
  rw [HasExponent, powerOfTwo_eq, powerOfTwo_eq, magnitude_eq] at he
  exact (zpow_lt_zpow_iff_right₀ (show (1 : Rat) < 2 by norm_num)).mp (he.1.trans_lt h)

theorem DeliversSingle.fresEstimate {ctl : FpControl} {x : Rat} {e : Int} {b v : Dword} {o : FpOutcome}
    (h : DeliversSingle ctl x e v o) (hpos : 0 < x * realOf b) (hlow : 255 ≤ 256 * (realOf v * realOf b))
    (hhigh : 256 * (realOf v * realOf b) ≤ 257) : FresEstimate b v := by
  have hb : realOf b ≠ 0 := right_ne_zero_of_mul hpos.ne'
  refine ⟨h.single, h.finite.2, ?_, hlow, hhigh⟩
  rw [h.sign, fpSign_of_realOf hb, decide_eq_decide]
  exact ⟨fun hx => neg_of_mul_pos_right hpos hx.le, fun hb => neg_of_mul_pos_left hpos hb.le⟩

section
variable {b : Dword} {ctl : FpControl}

/-- An estimate with 24 bits is delivered as it is. -/
theorem scaledEstimate_delivered {m : Nat} {k : Int} (hok : fresBoundOk b m k = true)
    (hfree : ctl.ue = false ∨ |realOf b| ≤ 2 ^ (125 : Int)) :
    ∃ v x e, DeliversSingle ctl x e v (arithmeticResult singleFormat ctl (scaled (fpSign b) m k)) ∧ FresEstimate b v := by
  obtain ⟨hm, hm24, hkmin, hkmax, hlow, hhigh⟩ := (fresBoundOk_iff b m k).mp hok
  have hsize : |(scaled (fpSign b) m k).value| = m * 2 ^ k := by rw [Exact.abs_value, scaled_size]
  have hone : (1 : Rat) ≤ m := by exact_mod_cast hm
  have htop : (m : Rat) + 1 ≤ 2 ^ 24 := by exact_mod_cast hm24
  have hk := two_zpow_pos k
  have hvalue : (scaled (fpSign b) m k).value * realOf b = |realOf b| * (m * 2 ^ k) := by
    have hsign : signFactor (fpSign b) * signFactor (fpSign b) = 1 := by cases fpSign b <;> norm_num [signFactor]
    rw [scaled_value, realOf_eq, mul_mul_mul_comm, hsign, abs_signFactor_mul _ (by positivity)]
    ring
  obtain ⟨e, he⟩ := exists_exponent (x := (scaled (fpSign b) m k).value) (by rw [← abs_pos, hsize]; positivity)
  have hke : k ≤ e := he.le_of_le (by rw [hsize]; nlinarith)
  have hek : e < 24 + k := he.lt_of_lt (by rw [hsize, zpow_add₀ (by norm_num)]; norm_num; nlinarith)
  have hnormal : ctl.ue = false ∨ -126 ≤ e := hfree.imp_right fun hb => he.le_of_le (by
    rw [hsize]
    have hprod : |realOf b| * (m * 2 ^ k) ≤ 2 ^ (125 : Int) * (m * 2 ^ k) := mul_le_mul_of_nonneg_right hb (by positivity)
    norm_num at hprod ⊢
    linarith)
  have hunit : roundingExponent singleFormat ctl.ue e ≤ k := by
    rw [roundingExponent_single]
    split <;> omega
  have hunitle : (2 : Rat) ^ roundingExponent singleFormat ctl.ue e ≤ 2 ^ k := zpow_le_zpow_right₀ (by norm_num) hunit
  have hrange : |(scaled (fpSign b) m k).value| + 2 ^ roundingExponent singleFormat ctl.ue e ≤ 2 ^ (128 : Int) := by
    calc |(scaled (fpSign b) m k).value| + 2 ^ roundingExponent singleFormat ctl.ue e
        ≤ (m + 1) * 2 ^ k := by rw [hsize]; linarith
      _ ≤ 2 ^ 24 * 2 ^ (104 : Int) := mul_le_mul htop (zpow_le_zpow_right₀ (by norm_num) hkmax) hk.le (by norm_num)
      _ = 2 ^ (128 : Int) := by norm_num
  obtain ⟨v, hv⟩ := arithmeticResult_single (scaled_den_pos _ _ _) he (by omega) hnormal hrange
  have hmultiple : InRange k 128 (scaled (fpSign b) m k).value := by
    refine ⟨⟨(if fpSign b then -1 else 1) * m, ?_⟩,
      (lt_add_of_pos_right _ (two_zpow_pos _)).trans_le hrange⟩
    rw [scaled_value, signFactor]
    push_cast
    ring
  obtain ⟨⟨n, hn⟩, _⟩ := hmultiple.mono hunit le_rfl
  have hexact := hv.rounds.eq_of_multiple (two_zpow_pos _) hn
  refine ⟨v, _, e, hv, hv.fresEstimate ?_ ?_ ?_⟩
  · rw [hvalue]
    linarith
  · rw [hexact, hvalue]
    exact hlow
  · rw [hexact, hvalue]
    exact hhigh

/-- The exact reciprocal where the largest single-precision number is too large an estimate. -/
theorem exactReciprocal_delivered (hsingle : |realOf b| < 2 ^ (128 : Int))
    (hbig : 257 < 256 * (|realOf b| * ((2 ^ 24 - 1) * 2 ^ (104 : Int))))
    (hfree : ctl.ue = false ∨ |realOf b| ≤ 2 ^ (125 : Int)) :
    ∃ v x e, DeliversSingle ctl x e v (arithmeticResult singleFormat ctl ((scaled false 1 0).div (exactOf b))) ∧
      FresEstimate b v := by
  have hb : realOf b ≠ 0 := by
    intro h
    rw [h, abs_zero, zero_mul, mul_zero] at hbig
    norm_num at hbig
  have hden : 0 < ((scaled false 1 0).div (exactOf b)).den :=
    Nat.mul_pos (scaled_den_pos _ _ _) (Nat.pos_of_ne_zero ((Exact.num_ne_zero_iff (exactOf_den_pos b)).mpr hb))
  have hvalue : ((scaled false 1 0).div (exactOf b)).value = 1 / realOf b := by
    rw [Exact.div_value, scaled_value, ← realOf_eq_value]
    norm_num [signFactor]
  have hproduct : ((scaled false 1 0).div (exactOf b)).value * realOf b = 1 := by rw [hvalue, div_mul_cancel₀ _ hb]
  have hsize : |((scaled false 1 0).div (exactOf b)).value| * |realOf b| = 1 := by rw [← abs_mul, hproduct, abs_one]
  generalize (scaled false 1 0).div (exactOf b) = x at *
  have hbpos : 0 < |realOf b| := abs_pos.mpr hb
  have hxpos : 0 < |x.value| := abs_pos.mpr (left_ne_zero_of_mul_eq_one hproduct)
  have habove : ∀ k : Int, |realOf b| ≤ 2 ^ k → (2 : Rat) ^ (-k) ≤ |x.value| := fun k hk => by
    rw [zpow_neg, inv_le_iff_one_le_mul₀ (two_zpow_pos k), ← hsize]
    exact mul_le_mul_of_nonneg_left hk hxpos.le
  obtain ⟨e, he⟩ := exists_exponent (abs_pos.mp hxpos)
  have hlow : -128 ≤ e := he.le_of_le (habove 128 hsingle.le)
  have hnormal : ctl.ue = false ∨ -126 ≤ e := hfree.imp_right fun h => by
    have := he.le_of_le (habove 125 h)
    omega
  have hunit : (2 : Rat) ^ roundingExponent singleFormat ctl.ue e ≤ |x.value| * 2 ^ (-21 : Int) := by
    have hexp := he
    rw [HasExponent, powerOfTwo_eq, powerOfTwo_eq, magnitude_eq] at hexp
    have hle : roundingExponent singleFormat ctl.ue e ≤ e + -21 := by
      rw [roundingExponent_single]
      split <;> omega
    calc (2 : Rat) ^ roundingExponent singleFormat ctl.ue e ≤ 2 ^ (e + -21) := zpow_le_zpow_right₀ (by norm_num) hle
      _ = 2 ^ e * 2 ^ (-21 : Int) := zpow_add₀ (by norm_num) _ _
      _ ≤ |x.value| * 2 ^ (-21 : Int) := mul_le_mul_of_nonneg_right hexp.1 (two_zpow_pos _).le
  have hrange : |x.value| + 2 ^ roundingExponent singleFormat ctl.ue e ≤ 2 ^ (128 : Int) := by
    have hmax : 257 * |x.value| ≤ 256 * ((2 ^ 24 - 1) * 2 ^ (104 : Int)) := by
      calc 257 * |x.value| ≤ 256 * (|realOf b| * ((2 ^ 24 - 1) * 2 ^ (104 : Int))) * |x.value| :=
            mul_le_mul_of_nonneg_right hbig.le hxpos.le
        _ = 256 * ((2 ^ 24 - 1) * 2 ^ (104 : Int)) * (|x.value| * |realOf b|) := by ring
        _ = 256 * ((2 ^ 24 - 1) * 2 ^ (104 : Int)) := by rw [hsize, mul_one]
    norm_num at hmax hunit ⊢
    linarith
  obtain ⟨v, hv⟩ := arithmeticResult_single hden he (by omega) hnormal hrange
  have hnear : |realOf v * realOf b - 1| ≤ 2 ^ (-21 : Int) := by
    rw [← hproduct, ← sub_mul, abs_mul]
    calc |realOf v - x.value| * |realOf b| ≤ |x.value| * 2 ^ (-21 : Int) * |realOf b| :=
          mul_le_mul_of_nonneg_right ((hv.rounds.near (two_zpow_pos _)).le.trans hunit) hbpos.le
      _ = 2 ^ (-21 : Int) * (|x.value| * |realOf b|) := by ring
      _ = 2 ^ (-21 : Int) := by rw [hsize, mul_one]
  obtain ⟨h1, h2⟩ := abs_le.mp hnear
  norm_num at h1 h2
  refine ⟨v, _, e, hv, hv.fresEstimate ?_ ?_ ?_⟩
  · rw [hproduct]
    exact one_pos
  · linarith
  · linarith

/-- Every estimate of the reciprocal keeps the bound of R259. -/
theorem reciprocalEstimate_delivered (hsingle : |realOf b| < 2 ^ (128 : Int))
    (hreach : 255 ≤ 256 * (|realOf b| * ((2 ^ 24 - 1) * 2 ^ (104 : Int))))
    (hfree : ctl.ue = false ∨ |realOf b| ≤ 2 ^ (125 : Int)) :
    ∃ v x e, DeliversSingle ctl x e v (arithmeticResult singleFormat ctl (reciprocalEstimate b)) ∧ FresEstimate b v := by
  unfold reciprocalEstimate
  dsimp only
  split
  · exact scaledEstimate_delivered ‹_› hfree
  · split
    · exact scaledEstimate_delivered ‹_› hfree
    · rename_i hmax
      refine exactReciprocal_delivered hsingle ?_ hfree
      have hcast : (2 ^ 24 - 1 : Rat) = (2 ^ 24 - 1 : Nat) := by norm_num
      by_contra hle
      refine hmax ((fresBoundOk_iff _ _ _).mpr ⟨by norm_num, by norm_num, by norm_num, by norm_num, ?_, ?_⟩)
      · exact hcast ▸ hreach
      · exact hcast ▸ not_lt.mp hle

end

/-- `fres` of a number whose reciprocal is in reach. -/
theorem fres_finite {s : State} {d b : BitVec 5} {rc : Bool} (hq : s.FloatQuiet) (hni : bit s.fpscr 29 = false)
    (hb : Finite (s.f b)) (hsingle : isSingle (s.f b) = true)
    (hreach : 255 ≤ 256 * ((2 ^ 24 - 1) * powerOfTwo 104 * magnitude (realOf (s.f b))))
    (hfree : bit s.fpscr 26 = false ∨ magnitude (realOf (s.f b)) ≤ powerOfTwo 125) :
    Completes (exec (.fresx d b rc) s) fun t =>
      FresEstimate (s.f b) (t.f d) ∧ field t.fpscr 15 19 = fprfOf singleFormat (t.f d) := by
  rw [powerOfTwo_eq, magnitude_eq] at hreach hfree
  rw [mul_comm ((2 ^ 24 - 1) * (2 : Rat) ^ (104 : Int))] at hreach
  have hz : fpIsZero (s.f b) = false := by
    refine Bool.eq_false_iff.mpr fun h => ?_
    rw [(realOf_eq_zero_iff _).mpr h, abs_zero, zero_mul, mul_zero] at hreach
    norm_num at hreach
  refine (floatArith_computed hq hni (single := true) (operands := [s.f b]) (fun _ => by simp [hsingle]) d rc _).imp
    fun t ht => ?_
  simp only [fpReciprocal, hb.1, hb.2, hz, Bool.false_eq_true, if_false] at ht
  obtain ⟨v, _, _, hv, hest⟩ := reciprocalEstimate_delivered (ctl := fpControl s.fpscr (bit (s.fresh 1) 0))
    (inRange_of_isSingle hb hsingle).2 hreach hfree
  have htarget : t.f d = v := ht.target.trans (by rw [hv.value, Option.getD_some])
  rw [htarget]
  exact ⟨hest, ht.fpscr ▸ field_fpUpdate _ _ hv.fprf⟩

/-- Settles O46. -/
theorem estimatesKeepTheirBounds : Obligations.EstimatesKeepTheirBounds := by
  intro d b rc s hq hni hn
  refine ⟨fun hi hsingle hreach hfree => ?_, fun hi hpos => frsqrte_positive hq hni hn hi hpos,
    estimates_infinity hq hni⟩
  exact (fres_finite hq hni ⟨hn, hi⟩ hsingle hreach hfree).imp fun t ⟨h, hfprf⟩ =>
    ⟨h.single, h.finite, h.sign, h.low, h.high, hfprf⟩

end Sys2Proof.Machine
end

section
namespace Sys2Proof.Machine

/-! ## Memory under the instructions that do not store -/

/-- Every next state of the outcome has the memory `m`. -/
def KeepsMem (m : Memory) (r : Result) : Prop := ∀ t, r = .next t → t.mem = m

theorem KeepsMem.next {m : Memory} {t : State} (h : t.mem = m) : KeepsMem m (.next t) := by
  rintro _ ⟨⟩
  exact h

theorem KeepsMem.advance {m : Memory} {t : State} (h : t.mem = m) : KeepsMem m (.next t.advance) :=
  .next ((State.advance_mem t).trans h)

theorem KeepsMem.taken {m : Memory} {t : State} (h : t.mem = m) (k : ExceptionKind) (resume info : Word) :
    KeepsMem m (.next (takeException k resume info t)) :=
  .next ((State.takeException_mem t k resume info).trans h)

theorem KeepsMem.refused (m : Memory) (why : Refusal) : KeepsMem m (.refused why) := by
  rintro _ ⟨⟩

/-- The state after an access has the memory `m`, and so has that of an exception it takes. -/
inductive Access.KeepsMem {α : Type} (m : Memory) : Access α → Prop where
  | done (v : α) {t : State} (h : t.mem = m) : Access.KeepsMem m (.done v t)
  | stop {r : Result} (h : Sys2Proof.Machine.KeepsMem m r) : Access.KeepsMem m (.stop r)

theorem Access.KeepsMem.andThen {α : Type} {m : Memory} {a : Access α} (ha : a.KeepsMem m) {k : α → State → Result}
    (hk : ∀ v t, t.mem = m → Sys2Proof.Machine.KeepsMem m (k v t)) : Sys2Proof.Machine.KeepsMem m (a.andThen k) := by
  cases ha with
  | done v ht => exact hk v _ ht
  | stop hr => exact hr

theorem Access.KeepsMem.bind {α β : Type} {m : Memory} {a : Access α} (ha : a.KeepsMem m) {k : α → State → Access β}
    (hk : ∀ v t, t.mem = m → (k v t).KeepsMem m) : (a.bind k).KeepsMem m := by
  cases ha with
  | done v ht => exact hk v _ ht
  | stop hr => exact .stop hr

/-! ### Updates of the state -/

theorem update_mem (s : State) (base : Option (BitVec 5)) (ea : Word) : (s.update base ea).mem = s.mem := by
  cases base <;> rfl

theorem recordCr1_mem (s : State) (rc : Bool) : (s.recordCr1 rc).mem = s.mem := by cases rc <;> rfl

theorem writeArith_mem (s : State) (d : BitVec 5) (res : Word) (ca ov : Option Bool) (rc : Bool) :
    (s.writeArith d res ca ov rc).mem = s.mem := by
  cases rc <;> rfl

theorem applyFloat_mem (s : State) (d : BitVec 5) (o : FpOutcome) (rc : Bool) : (s.applyFloat d o rc).mem = s.mem := by
  unfold State.applyFloat
  rw [recordCr1_mem]
  cases o.value <;> rfl

theorem writeSpr_mem {s t : State} {v : Word} {reg : Spr} (h : s.writeSpr v reg = some t) : t.mem = s.mem := by
  cases reg <;> simp only [State.writeSpr, Option.some.injEq, reduceCtorEq] at h <;> subst h
  case mmcr0 => exact State.setMmcr0_mem s v
  case pmc1 => exact State.setPmc1_mem s v
  case pmc2 => exact State.setPmc2_mem s v
  all_goals rfl

/-! ### The shared operations -/

section
variable {s : State}

theorem raise_keepsMem (k : ExceptionKind) (info : Word) : KeepsMem s.mem (raise k info s) :=
  .taken rfl _ _ _

theorem raiseDsi_keepsMem (cause ea : Word) : KeepsMem s.mem (raiseDsi cause ea s) :=
  .taken (by rfl) _ _ _

theorem raiseAlignment_keepsMem (insn : Word) (base : Bool) (ea : Word) :
    KeepsMem s.mem (raiseAlignment insn base ea s) := by
  cases base
  · exact .taken (by rfl) _ _ _
  · exact .taken (by rfl) _ _ _

theorem supervisorOnly_keepsMem {go : State → Result} (hgo : KeepsMem s.mem (go s)) :
    KeepsMem s.mem (supervisorOnly s go) := by
  intro t ht
  rcases supervisorOnly_next ht with ⟨_, rfl⟩ | ⟨_, hn⟩
  · exact State.takeException_mem s _ _ _
  · exact hgo t hn

theorem floatOnly_keepsMem {go : State → Result} (hgo : KeepsMem s.mem (go s)) : KeepsMem s.mem (floatOnly s go) := by
  intro t ht
  rcases floatOnly_next ht with ⟨_, rfl⟩ | ⟨_, hn⟩
  · exact State.takeException_mem s _ _ _
  · exact hgo t hn

theorem neverSplit_keepsMem {go : State → Result} (hgo : KeepsMem s.mem (go s)) (insn : Word) (base : Bool) (ea : Word) :
    KeepsMem s.mem (neverSplit insn base ea s go) := by
  unfold neverSplit
  split
  · exact hgo
  · exact raiseAlignment_keepsMem insn base ea

theorem insideMap_keepsMem {go : State → Result} (hgo : KeepsMem s.mem (go s)) (ea : Word) :
    KeepsMem s.mem (insideMap ea s go) := by
  unfold insideMap
  split
  · exact hgo
  · exact .refused _ _

theorem externalControl_keepsMem {go : State → Result} (hgo : KeepsMem s.mem (go s)) (insn : Word) (store : Bool)
    (ea : Word) : KeepsMem s.mem (externalControl insn store ea s go) := by
  refine neverSplit_keepsMem ?_ _ _ _
  split
  · exact hgo
  · exact raiseDsi_keepsMem _ _

theorem sprAccess_keepsMem {go : State → Result} (hgo : KeepsMem s.mem (go s)) (n : BitVec 10) :
    KeepsMem s.mem (sprAccess n s go) := by
  unfold sprAccess
  split
  · exact raise_keepsMem _ _
  · exact hgo

theorem enterMsr_keepsMem (msr next : Word) : KeepsMem s.mem (enterMsr msr next s) := by
  intro t ht
  obtain ⟨_, rfl | rfl⟩ := enterMsr_next ht
  · rfl
  · exact State.takeException_mem _ _ _ _

theorem finishFloat_keepsMem {t : State} (h : t.mem = s.mem) : KeepsMem s.mem (finishFloat t) := by
  rw [finishFloat_eq]
  split
  · exact .taken h _ _ _
  · exact .advance h

theorem finishFpscrWrite_keepsMem {t : State} (h : t.mem = s.mem) (before : Word) :
    KeepsMem s.mem (finishFpscrWrite before t) := by
  unfold finishFpscrWrite
  split
  · split
    · exact .taken h _ _ _
    · exact .taken h _ _ _
  · exact .advance h

/-! ### Data accesses -/

theorem readSpan_keepsMem (ea : Word) (n : Nat) : (readSpan ea n s).KeepsMem s.mem := by
  cases hr : readSpan ea n s with
  | done bytes t =>
    obtain ⟨_, ⟨_, _, rfl⟩ | ⟨_, _, rfl⟩⟩ := readSpan_done hr
    · exact .done _ rfl
    · exact .done _ rfl
  | stop r =>
    obtain ⟨_, rfl⟩ | ⟨_, rfl⟩ := readSpan_stop hr
    · exact .stop (raiseDsi_keepsMem _ _)
    · exact .stop (.refused _ _)

theorem readSplit_keepsMem (ea : Word) (n : Nat) : (readSplit ea n s).KeepsMem s.mem := by
  induction n generalizing ea s with
  | zero => exact .done _ rfl
  | succ n ih =>
    rw [readSplit_succ]
    exact (readSpan_keepsMem ea 1).bind fun b t ht => (ht ▸ ih (s := t) (ea + 1)).bind fun bs u hu => .done _ hu

theorem loadData_keepsMem (insn : Word) (base : Bool) (ea : Word) (n : Nat) :
    (loadData insn base ea n s).KeepsMem s.mem := by
  unfold loadData
  split
  · exact readSpan_keepsMem ea n
  · split
    · exact .stop (raiseAlignment_keepsMem insn base ea)
    · unfold unwatched
      split
      · exact .stop (raiseDsi_keepsMem _ _)
      · exact readSplit_keepsMem ea n

theorem loadInto_keepsMem (insn : Word) (update : Option (BitVec 5)) (d : BitVec 5) (ea : Word) (n : Nat)
    (value : List Byte → Word) : KeepsMem s.mem (loadInto insn update d ea n value s) := by
  rw [loadInto_eq]
  exact (loadData_keepsMem _ _ _ _).andThen fun bytes t ht => .advance ((update_mem _ _ _).trans ht)

theorem floatLoad_keepsMem (insn : Word) (update : Option (BitVec 5)) (d : BitVec 5) (ea : Word) (n : Nat)
    (value : List Byte → Dword) : KeepsMem s.mem (floatLoad insn update d ea n value s) := by
  rw [floatLoad_eq]
  exact floatOnly_keepsMem
    ((loadData_keepsMem _ _ _ _).andThen fun bytes t ht => .advance ((update_mem _ _ _).trans ht))

theorem finishAccess_keepsMem {a : Access Unit} (ha : a.KeepsMem s.mem) : KeepsMem s.mem (finishAccess a) := by
  rw [finishAccess_eq]
  exact ha.andThen fun _ t ht => .advance ht

theorem loadRegisters_keepsMem (count : Nat) (d : BitVec 5) (ea : Word) :
    (loadRegisters count d ea s).KeepsMem s.mem := by
  induction count generalizing d ea s with
  | zero => exact .done _ rfl
  | succ k ih =>
    rw [loadRegisters_succ]
    exact (readSpan_keepsMem ea 4).bind fun bytes t ht => ht ▸ ih (s := t.setR d (wordOf bytes)) _ _

theorem loadString_keepsMem (d : BitVec 5) (left k : Nat) (ea : Word) : (loadString d left k ea s).KeepsMem s.mem := by
  induction left generalizing k ea s with
  | zero => exact .done _ rfl
  | succ left ih =>
    rw [loadString_succ]
    exact (readSpan_keepsMem ea 1).bind fun bytes t ht => ht ▸ ih (s := t.setR _ _) _ _

/-! ### Instructions -/

theorem arith_keepsMem (d : BitVec 5) (res : Word) (ca ov : Option Bool) (rc : Bool) :
    KeepsMem s.mem (arith s d res ca ov rc) := .advance (writeArith_mem s d res ca ov rc)

theorem undefinedQuotient_keepsMem (d : BitVec 5) (oe rc : Bool) : KeepsMem s.mem (undefinedQuotient s d oe rc) := by
  have hwritten := writeArith_mem (s.drawn 2) d (s.fresh 32) none (if oe then some true else none) false
  refine .advance ?_
  split
  · exact (State.setCrField_mem _ _ _).trans hwritten
  · exact hwritten

theorem execDivwx_keepsMem (d a b : BitVec 5) (oe rc : Bool) : KeepsMem s.mem (execDivwx d a b oe rc s) := by
  unfold execDivwx
  split
  · exact undefinedQuotient_keepsMem d oe rc
  · exact arith_keepsMem _ _ _ _ _

theorem execDivwux_keepsMem (d a b : BitVec 5) (oe rc : Bool) : KeepsMem s.mem (execDivwux d a b oe rc s) := by
  unfold execDivwux
  split
  · exact undefinedQuotient_keepsMem d oe rc
  · exact arith_keepsMem _ _ _ _ _

theorem branchTo_keepsMem (lk taken : Bool) (target : Word) : KeepsMem s.mem (branchTo s lk taken target) := by
  have hlink : (s.link lk).mem = s.mem := by cases lk <;> rfl
  cases taken
  · exact .advance hlink
  · exact .next ((State.goto_mem _ _).trans hlink)

theorem trapIf_keepsMem (holds : Bool) : KeepsMem s.mem (trapIf s holds) := by
  cases holds
  · exact .advance rfl
  · exact raise_keepsMem _ _

theorem floatArith_keepsMem (single : Bool) (d : BitVec 5) (operands : List Dword) (rc : Bool)
    (compute : FpControl → FpOutcome) : KeepsMem s.mem (floatArith s single d operands rc compute) :=
  floatOnly_keepsMem (finishFloat_keepsMem ((State.drawn_mem _ _).trans (applyFloat_mem s _ _ _)))

theorem floatConvert_keepsMem (d b : BitVec 5) (rn : Word → BitVec 2) (rc : Bool) :
    KeepsMem s.mem (floatConvert s d b rn rc) :=
  floatOnly_keepsMem (finishFloat_keepsMem ((State.drawn_mem _ _).trans (applyFloat_mem s _ _ _)))

theorem floatCompare_keepsMem (crfD : BitVec 3) (a b : BitVec 5) (raised : Word → Word) :
    KeepsMem s.mem (floatCompare s crfD a b raised) :=
  floatOnly_keepsMem (finishFloat_keepsMem (by rfl))

theorem floatMove_keepsMem (d : BitVec 5) (v : Dword) (rc : Bool) : KeepsMem s.mem (floatMove s d v rc) :=
  floatOnly_keepsMem (.advance ((recordCr1_mem _ rc).trans (State.setF_mem _ _ _)))

theorem execLwarx_keepsMem (d a b : BitVec 5) : KeepsMem s.mem (execLwarx d a b s) := by
  rw [execLwarx_eq]
  refine neverSplit_keepsMem ((readSpan_keepsMem _ _).andThen fun bytes t ht => ?_) _ _ _
  split
  · exact .advance ((State.setR_mem _ _ _).trans ht)
  · exact .refused _ _

theorem execLswx_keepsMem (d a b : BitVec 5) : KeepsMem s.mem (execLswx d a b s) := by
  unfold execLswx
  dsimp only
  split
  · exact .refused _ _
  · split
    · exact .advance (by rfl)
    · exact finishAccess_keepsMem (loadString_keepsMem _ _ _ _)

theorem sprMissing_keepsMem : KeepsMem s.mem (sprMissing s) := by
  unfold sprMissing
  split
  · exact raise_keepsMem _ _
  · exact .refused _ _

theorem execMfspr_keepsMem (d : BitVec 5) (n : BitVec 10) : KeepsMem s.mem (execMfspr d n s) := by
  refine sprAccess_keepsMem ?_ n
  split
  · exact .advance (State.setR_mem _ _ _)
  · exact sprMissing_keepsMem

theorem execMtspr_keepsMem (src : BitVec 5) (n : BitVec 10) : KeepsMem s.mem (execMtspr src n s) := by
  refine sprAccess_keepsMem ?_ n
  split
  · exact sprMissing_keepsMem
  · split
    · rename_i t ht
      exact .advance (writeSpr_mem ht)
    · exact .refused _ _

theorem execMftb_keepsMem (d : BitVec 5) (tbr : BitVec 10) : KeepsMem s.mem (execMftb d tbr s) := by
  unfold execMftb
  split
  · exact .advance (State.setR_mem _ _ _)
  · split
    · exact .advance (State.setR_mem _ _ _)
    · exact raise_keepsMem _ _

/-- No instruction but the stores, `stwcx.` and `dcbz` writes memory: each ends in one of the shared operations above. -/
theorem exec_keepsMem {i : Instr} (hi : mayStore i = false) : KeepsMem s.mem (exec i s) := by
  cases i with
  | stb | stbu | stbx | stbux | sth | sthu | sthx | sthux | stw | stwu | stwx | stwux | sthbrx | stwbrx | stfs | stfsu
  | stfsx | stfsux | stfd | stfdu | stfdx | stfdux | stfiwx | stmw | stswi | stswx | stwcx_rc | dcbz => cases hi
  | addi | addis | addic | addic_rc | subfic | mulli | addx | addcx | addex | addmex | addzex | subfx | subfcx | subfex
  | subfmex | subfzex | negx | mullwx | mulhwx | mulhwux => exact arith_keepsMem _ _ _ _ _
  | divwx => exact execDivwx_keepsMem _ _ _ _ _
  | divwux => exact execDivwux_keepsMem _ _ _ _ _
  | cmpi | cmp | cmpli | cmpl => exact .advance (by rfl)
  | andi_rc | andis_rc | ori | oris | xori | xoris | andx | andcx | orx | orcx | xorx | nandx | norx | eqvx | extsbx
  | extshx | cntlzwx | rlwinmx | rlwimix | rlwnmx | slwx | srwx | srawx | srawix =>
    exact .advance (writeArith_mem s _ _ _ _ _)
  | faddx | faddsx | fsubx | fsubsx | fdivx | fdivsx | fmulx | fmulsx | fresx | frsqrtex | fmaddx | fmaddsx | fmsubx
  | fmsubsx | fnmaddx | fnmaddsx | fnmsubx | fnmsubsx | frspx => exact floatArith_keepsMem _ _ _ _ _
  | fctiwx => exact floatConvert_keepsMem _ _ _ _
  | fctiwzx d b rc => exact floatConvert_keepsMem d b (fun _ => 1) rc
  | fcmpu crfD a b => exact floatCompare_keepsMem crfD a b fun _ => unorderedCause (s.f a) (s.f b)
  | fcmpo => exact floatCompare_keepsMem _ _ _ _
  | fselx | fmrx | fnegx | fabsx | fnabsx => exact floatMove_keepsMem _ _ _
  | mffsx =>
    apply floatOnly_keepsMem
    exact .advance ((State.drawn_mem _ _).trans ((recordCr1_mem _ _).trans (State.setF_mem _ _ _)))
  | mcrfs =>
    apply floatOnly_keepsMem
    refine finishFloat_keepsMem ?_
    rfl
  | mtfsfix | mtfsfx =>
    apply floatOnly_keepsMem
    refine finishFpscrWrite_keepsMem ?_ _
    exact recordCr1_mem _ _
  | mtfsb0x | mtfsb1x =>
    apply floatOnly_keepsMem
    refine finishFloat_keepsMem ?_
    exact recordCr1_mem _ _
  | lbz | lbzu | lbzx | lbzux | lhz | lhzu | lhzx | lhzux | lha | lhau | lhax | lhaux | lwz | lwzu | lwzx | lwzux | lhbrx
  | lwbrx => exact loadInto_keepsMem _ _ _ _ _ _
  | lfs | lfsu | lfsx | lfsux | lfd | lfdu | lfdx | lfdux => exact floatLoad_keepsMem _ _ _ _ _ _
  | lmw =>
    apply neverSplit_keepsMem
    exact finishAccess_keepsMem (loadRegisters_keepsMem _ _ _)
  | lswi => exact finishAccess_keepsMem (loadString_keepsMem _ _ _ _)
  | lswx => exact execLswx_keepsMem _ _ _
  | lwarx => exact execLwarx_keepsMem _ _ _
  | sync | eieio | isync | dcbt | dcbtst => exact .advance (by rfl)
  | bx | bcctrx => exact branchTo_keepsMem _ _ _
  | bcx | bclrx => exact branchTo_keepsMem (s := { s with ctr := _ }) _ _ _
  | crand | crandc | creqv | crnand | crnor | cror | crorc | crxor | mcrf => exact .advance (by rfl)
  | sc => exact .taken rfl _ _ _
  | rfi | mtmsr =>
    apply supervisorOnly_keepsMem
    exact enterMsr_keepsMem _ _
  | tw | twi => exact trapIf_keepsMem _
  | mcrxr | mfcr | mtcrf => exact .advance (by rfl)
  | mfspr => exact execMfspr_keepsMem _ _
  | mtspr => exact execMtspr_keepsMem _ _
  | mftb => exact execMftb_keepsMem _ _
  | dcbf | dcbst | icbi =>
    apply insideMap_keepsMem
    exact .advance (by rfl)
  | dcbi =>
    apply supervisorOnly_keepsMem
    apply insideMap_keepsMem
    exact .advance rfl
  | mfmsr | mfsr | mfsrin | mtsr | mtsrin | tlbie | tlbsync | tlbsync_b31 =>
    apply supervisorOnly_keepsMem
    exact .advance (by rfl)
  | eciwx | ecowx =>
    apply externalControl_keepsMem
    exact .advance (by rfl)

end

/-- Settles O14, by the case of each instruction that is no store. -/
theorem onlyStoresChangeMemory : Obligations.OnlyStoresChangeMemory := by
  intro i s t hi ht
  have hmem := exec_keepsMem hi t ht
  exact ⟨fun a => congrArg (Memory.read · a.toNat) hmem, hmem⟩

end Sys2Proof.Machine
end

section
namespace Sys2Proof.Machine

/-! ## Sequences of accesses to ram and devices

The accesses of a multiple or string instruction inside MEM_MAP: those in `ram` go through, those with a byte in a device
region are also recorded (20_memory.md R93). -/

theorem State.isDevice_eq (s : State) (a : Word) : s.isDevice a = (kindOf s.memMap a 1 == some .device) := by
  unfold State.isDevice kindOf kindOf
  rcases kindAt s.memMap a.toNat with _ | (_ | _) <;> rfl

/-- `ram` answers what memory holds. -/
theorem State.answeredBytes_of_ram {s : State} {a : Word} {n : Nat} (h : kindOf s.memMap a n = some .ram) (draw : Nat) :
    s.answeredBytes a draw n = s.bytesAt a n := by
  induction n generalizing a draw with
  | zero => rfl
  | succ n ih =>
    have hram : s.isDevice a = false := isDevice_ram h (List.mem_cons_self ..)
    rw [State.answeredBytes, State.bytesAt, hram, ih (kindOf_ram_succ h).2]
    rfl

/-- What a device store does where every byte lies in `ram`: the whole store. -/
theorem State.storeRam_of_ram {s : State} (byBytes : Bool) {unit : Nat} (hunit : 0 < unit) {a : Word} {data : List Byte}
    (h : kindOf s.memMap a data.length = some .ram) :
    s.storeRam byBytes unit a data = s.storePieces true byBytes unit a data := by
  induction data generalizing s a with
  | nil => rfl
  | cons b rest ih =>
    have hram : s.isDevice a = false := isDevice_ram h (List.mem_cons_self ..)
    have hpiece : (span a unit).all s.isDevice = false := by
      obtain ⟨k, rfl⟩ := Nat.exists_eq_succ_of_ne_zero hunit.ne'
      simp [span, hram]
    have hrest := (kindOf_ram_succ h).2
    simp only [State.storeRam, State.storePieces, hram, hpiece, Bool.not_false, Bool.and_true, Bool.false_eq_true, if_false]
    refine ih ?_
    split
    · exact hrest
    · exact hrest

theorem State.storeRamBytes_of_ram {s : State} {a : Word} {data : List Byte}
    (h : kindOf s.memMap a data.length = some .ram) : s.storeRamBytes a data = s.storeBytes a data := by
  refine State.storeRam_of_ram _ ?_ h
  unfold atomicUnit
  split
  · omega
  · split <;> omega

/-- The state after a read: a device sees the access and draws its answer. -/
def State.afterRead (s : State) (a : Word) (n : Nat) : State :=
  if kindOf s.memMap a n = some .device then
    { s with draws := s.draws + n, busLog := .deviceRead a n :: s.busLog }
  else s

theorem State.afterRead_eq (u : State) (a : Word) (n : Nat) :
    u.afterRead a n = { u with draws := (u.afterRead a n).draws, busLog := (u.afterRead a n).busLog } := by
  unfold State.afterRead
  split <;> rfl

theorem State.afterRead_busLog (u : State) (a : Word) (n : Nat) :
    (u.afterRead a n).busLog = if kindOf u.memMap a n = some .device then .deviceRead a n :: u.busLog else u.busLog := by
  unfold State.afterRead
  split <;> rfl

/-- The state after a write: the bytes in `ram` are stored, and a device sees the access. -/
def State.afterWrite (s : State) (a : Word) (data : List Byte) : State :=
  { s.storeRamBytes a data with
    busLog := if kindOf s.memMap a data.length = some .device then .deviceWrite a data :: s.busLog else s.busLog }

theorem readSpan_mapped {s : State} {a : Word} {n : Nat} (hw : s.watched false a n = false)
    (hk : kindOf s.memMap a n ≠ none) : readSpan a n s = .done (s.answeredBytes a s.draws n) (s.afterRead a n) := by
  rcases hkind : kindOf s.memMap a n with _ | (_ | _)
  · exact absurd hkind hk
  · rw [readSpan_ready hw hkind, State.answeredBytes_of_ram hkind, State.afterRead, if_neg (by simp [hkind])]
  · rw [readSpan_device hw hkind, State.afterRead, if_pos hkind]

theorem writeSpan_mapped {s : State} {a : Word} {data : List Byte} (hw : s.watched true a data.length = false)
    (hk : kindOf s.memMap a data.length ≠ none) : writeSpan a data s = .done () (s.afterWrite a data) := by
  rcases hkind : kindOf s.memMap a data.length with _ | (_ | _)
  · exact absurd hkind hk
  · rw [writeSpan_ready hw hkind, State.afterWrite, if_neg (by simp [hkind]), State.storeRamBytes_of_ram hkind,
      State.storeBytes_eq]
  · simp [writeSpan, hw, hkind, State.afterWrite]

/-! ### What is left where all the accesses are done -/

section
variable {s u : State} {g : Vector Word 32} {mem : Memory} {stale : List StaleWord} {draws : Nat} {busLog : List BusEvent}

theorem loaded_frame (hu : u = { s with gpr := g }) :
    u.advance.pc = s.pc + 4 ∧ MemoryKept s u.advance ∧ { u.advance with gpr := s.gpr, pc := s.pc } = s := by
  subst hu
  exact ⟨rfl, fun _ => rfl, rfl⟩

theorem answered_frame (hu : u = { s with gpr := g, draws := draws, busLog := busLog }) :
    u.advance.pc = s.pc + 4 ∧ MemoryKept s u.advance ∧
      { u.advance with gpr := s.gpr, pc := s.pc, draws := s.draws, busLog := s.busLog } = s := by
  subst hu
  exact ⟨rfl, fun _ => rfl, rfl⟩

theorem stored_frame (hu : u = { s with mem := mem, stale := stale }) :
    u.advance.pc = s.pc + 4 ∧ { u.advance with mem := s.mem, stale := s.stale, pc := s.pc } = s := by
  subst hu
  exact ⟨rfl, rfl⟩

theorem written_frame (hu : u = { s with mem := mem, stale := stale, busLog := busLog }) :
    u.advance.pc = s.pc + 4 ∧
      { u.advance with mem := s.mem, stale := s.stale, pc := s.pc, busLog := s.busLog } = s := by
  subst hu
  exact ⟨rfl, rfl⟩

end

end Sys2Proof.Machine
end

section
namespace Sys2Proof.Machine

/-! ### Loads -/

/-- Access `j` of a load of many pieces: `c` bytes are read, and register `place j` takes what `value` makes of them and of
what it held. -/
def loadPiece (c : Nat) (place : Nat → BitVec 5) (value : Nat → Word → List Byte → Word) (ea : Word) (j : Nat)
    (u : State) : State :=
  (u.afterRead (ea + BitVec.ofNat 32 (c * j)) c).setR (place j)
    (value j (u.r (place j)) (u.answeredBytes (ea + BitVec.ofNat 32 (c * j)) u.draws c))

/-- The bytes that access `j` reads. -/
def pieceBytes (s : State) (c : Nat) (place : Nat → BitVec 5) (value : Nat → Word → List Byte → Word) (ea : Word)
    (j : Nat) : List Byte :=
  let u := s.after (loadPiece c place value ea) j
  u.answeredBytes (ea + BitVec.ofNat 32 (c * j)) u.draws c

section
variable {s : State} {c : Nat} {place : Nat → BitVec 5} {value : Nat → Word → List Byte → Word} {ea : Word} {m : Nat}

/-- The register that access `m` loads. -/
theorem loadedPieces_r_succ (r : BitVec 5) :
    (s.after (loadPiece c place value ea) (m + 1)).r r =
      if r = place m then value m ((s.after (loadPiece c place value ea) m).r r) (pieceBytes s c place value ea m)
      else (s.after (loadPiece c place value ea) m).r r := by
  rw [State.after, loadPiece, State.setR_r, State.afterRead_eq]
  split
  · rename_i h
    rw [h]
    rfl
  · rfl

/-- The loads change GPRs, and where a device answers also draws and the record. -/
theorem loadedPieces_eq (m : Nat) :
    s.after (loadPiece c place value ea) m =
      { s with
        gpr := (s.after (loadPiece c place value ea) m).gpr, draws := (s.after (loadPiece c place value ea) m).draws
        busLog := (s.after (loadPiece c place value ea) m).busLog } := by
  induction m with
  | zero => rfl
  | succ m ih =>
    rw [State.after, loadPiece, State.afterRead_eq, ih]
    rfl

theorem loadedPieces_memMap (m : Nat) : (s.after (loadPiece c place value ea) m).memMap = s.memMap := by
  rw [loadedPieces_eq]

theorem loadedPieces_watched (m : Nat) (store : Bool) (a : Word) (n : Nat) :
    (s.after (loadPiece c place value ea) m).watched store a n = s.watched store a n := by
  rw [loadedPieces_eq]
  rfl

/-- Without a device they change GPRs only. -/
theorem loadedPieces_ram (h : ∀ j, j < m → kindOf s.memMap (ea + BitVec.ofNat 32 (c * j)) c = some .ram) :
    s.after (loadPiece c place value ea) m = { s with gpr := (s.after (loadPiece c place value ea) m).gpr } := by
  induction m with
  | zero => rfl
  | succ m ih =>
    have hbefore := ih fun j hj => h j (by omega)
    have hread : (s.after (loadPiece c place value ea) m).afterRead (ea + BitVec.ofNat 32 (c * m)) c =
        s.after (loadPiece c place value ea) m := by
      rw [State.afterRead, if_neg]
      rw [hbefore, h m (Nat.lt_succ_self m)]
      nofun
    rw [State.after, loadPiece, hread, hbefore]
    rfl

/-- A device sees one access for each piece with a byte of its own, in ascending order. -/
theorem loadedPieces_busLog (m : Nat) :
    (s.after (loadPiece c place value ea) m).busLog =
      ((List.range m).reverse.filter fun k => kindOf s.memMap (ea + BitVec.ofNat 32 (c * k)) c == some .device).map
        (fun k => .deviceRead (ea + BitVec.ofNat 32 (c * k)) c) ++ s.busLog := by
  induction m with
  | zero => rfl
  | succ m ih =>
    rw [State.after, loadPiece, State.setR_busLog, State.afterRead_busLog, loadedPieces_memMap, ih, List.range_succ,
      List.reverse_append, List.reverse_singleton, List.singleton_append, List.filter_cons]
    by_cases hd : kindOf s.memMap (ea + BitVec.ofNat 32 (c * m)) c = some .device
    · simp [hd]
    · simp [hd]

/-- A register that no piece goes to is kept. -/
theorem loadedPieces_kept {r : BitVec 5} (hr : ∀ j, j < m → r ≠ place j) :
    (s.after (loadPiece c place value ea) m).r r = s.r r := by
  induction m with
  | zero => rfl
  | succ m ih =>
    rw [loadedPieces_r_succ, if_neg (hr m (Nat.lt_succ_self m))]
    exact ih fun j hj => hr j (by omega)

theorem pieceBytes_length (j : Nat) : (pieceBytes s c place value ea j).length = c :=
  State.answeredBytes_length ..

/-- A byte in `ram` is memory's. -/
theorem pieceBytes_ram (j : Nat) {k : Nat} (hk : k < c)
    (hd : s.isDevice (ea + BitVec.ofNat 32 (c * j + k)) = false) :
    (pieceBytes s c place value ea j)[k]? = some (s.byteAt (ea + BitVec.ofNat 32 (c * j + k))) := by
  rw [← add_ofNat_add] at hd ⊢
  rw [pieceBytes, loadedPieces_eq]
  exact State.answeredBytes_ram _ _ _ _ hk hd

end

/-! ### lmw -/

theorem wordByte_wordOf_getD {bytes : List Byte} (hlen : bytes.length = 4) {k : Nat} (hk : k < 4) :
    wordByte (wordOf bytes) (3 - k) = bytes.getD k 0 := by
  have hbytes : bytes = (List.range 4).map fun i => bytes.getD i 0 :=
    List.ext_getElem (by simpa using hlen) fun i hi _ => by simp [hi]
  conv_lhs => rw [hbytes]
  exact wordByte_wordOf _ hk

/-- The registers of `lmw`. -/
abbrev wordPlace (d : BitVec 5) (j : Nat) : BitVec 5 := d + BitVec.ofNat 5 j

section
variable {s : State} {d : BitVec 5} {ea : Word} {m : Nat}

/-- The state after the first `m` words of `lmw`. -/
abbrev answeredWords (s : State) (d : BitVec 5) (ea : Word) (m : Nat) : State :=
  s.after (loadPiece 4 (wordPlace d) (fun _ _ => wordOf) ea) m

/-- The bytes of word `j` of `lmw`. -/
abbrev wordBytes (s : State) (d : BitVec 5) (ea : Word) (j : Nat) : List Byte :=
  pieceBytes s 4 (wordPlace d) (fun _ _ => wordOf) ea j

theorem answeredWords_value (hm : m ≤ 32) {j : Nat} (hj : j < m) :
    (answeredWords s d ea m).r (wordPlace d j) = wordOf (wordBytes s d ea j) := by
  induction m with
  | zero => exact absurd hj (Nat.not_lt_zero j)
  | succ m ih =>
    have hinj : wordPlace d j = wordPlace d m ↔ j = m := add_ofNat_inj (by omega) (by omega)
    rw [answeredWords, loadedPieces_r_succ]
    by_cases h : j = m
    · rw [if_pos (hinj.mpr h), h]
    · rw [if_neg (mt hinj.mp h)]
      exact ih (by omega) (by omega)

/-- A byte in `ram` is in its place in its register. -/
theorem answeredWords_byte (hm : m ≤ 32) {j k : Nat} (hj : j < m) (hk : k < 4)
    (hd : s.isDevice (ea + BitVec.ofNat 32 (4 * j + k)) = false) :
    wordByte ((answeredWords s d ea m).r (wordPlace d j)) (3 - k) = s.byteAt (ea + BitVec.ofNat 32 (4 * j + k)) := by
  rw [answeredWords_value hm hj, wordByte_wordOf_getD (pieceBytes_length j) hk, List.getD_eq_getElem?_getD,
    pieceBytes_ram j hk hd]
  rfl

theorem loadRegisters_mapped (h : ∀ j, j < m → s.watched false (ea + BitVec.ofNat 32 (4 * j)) 4 = false ∧
      kindOf s.memMap (ea + BitVec.ofNat 32 (4 * j)) 4 ≠ none) (left : Nat) :
    loadRegisters (m + left) d ea s =
      loadRegisters left (wordPlace d m) (ea + BitVec.ofNat 32 (4 * m)) (answeredWords s d ea m) := by
  have hd : d = wordPlace d 0 := (BitVec.add_zero d).symm
  have hea : ea = ea + BitVec.ofNat 32 (4 * 0) := (BitVec.add_zero ea).symm
  have hall := access_after (s := s) (f := loadPiece 4 (wordPlace d) (fun _ _ => wordOf) ea) (m := m)
    (access := fun left j u => loadRegisters left (wordPlace d j) (ea + BitVec.ofNat 32 (4 * j)) u)
    (fun j left hj => ?_) left
  · rwa [← hd, ← hea] at hall
  · obtain ⟨hw, hk⟩ := h j hj
    have hnext : ea + BitVec.ofNat 32 (4 * j) + 4 = ea + BitVec.ofNat 32 (4 * (j + 1)) := add_ofNat_add ea (4 * j) 4
    rw [loadRegisters_succ, readSpan_mapped ((loadedPieces_watched ..).trans hw) (by rwa [loadedPieces_memMap]),
      nextRegister_add, hnext]
    rfl

theorem loadRegisters_outside {n k : Nat} (hk : k < n)
    (h : ∀ j, j < k → s.watched false (ea + BitVec.ofNat 32 (4 * j)) 4 = false ∧
      kindOf s.memMap (ea + BitVec.ofNat 32 (4 * j)) 4 ≠ none)
    (hw : s.watched false (ea + BitVec.ofNat 32 (4 * k)) 4 = false)
    (hn : kindOf s.memMap (ea + BitVec.ofNat 32 (4 * k)) 4 = none) :
    loadRegisters n d ea s = .stop (.refused .outsideMemMap) := by
  obtain ⟨left, rfl⟩ : ∃ left, n = k + (left + 1) := ⟨n - k - 1, by omega⟩
  rw [loadRegisters_mapped h, loadRegisters_succ,
    readSpan_outside ((loadedPieces_watched ..).trans hw) (by rw [loadedPieces_memMap, hn])]
  rfl

end

end Sys2Proof.Machine
end

section
namespace Sys2Proof.Machine

/-! ### Stores -/

/-- Access `j` of a store of many pieces writes the piece `data j` of `c` bytes. -/
def writePiece (c : Nat) (data : Nat → List Byte) (ea : Word) (j : Nat) (u : State) : State :=
  u.afterWrite (ea + BitVec.ofNat 32 (c * j)) (data j)

section
variable {s : State} {c : Nat} {data : Nat → List Byte} {ea : Word} {m : Nat}

/-- The stores change memory, what fetch may still see, and the record. -/
theorem writtenPieces_eq (m : Nat) :
    s.after (writePiece c data ea) m =
      { s with
        mem := (s.after (writePiece c data ea) m).mem, stale := (s.after (writePiece c data ea) m).stale
        busLog := (s.after (writePiece c data ea) m).busLog } := by
  induction m with
  | zero => rfl
  | succ m ih =>
    rw [State.after, writePiece, State.afterWrite, State.storeRamBytes_eq, ih]

theorem writtenPieces_memMap (m : Nat) : (s.after (writePiece c data ea) m).memMap = s.memMap := by
  rw [writtenPieces_eq]

theorem writtenPieces_watched (m : Nat) (store : Bool) (a : Word) (n : Nat) :
    (s.after (writePiece c data ea) m).watched store a n = s.watched store a n := by
  rw [writtenPieces_eq]
  rfl

theorem writtenPieces_r (m : Nat) (r : BitVec 5) : (s.after (writePiece c data ea) m).r r = s.r r := by
  rw [writtenPieces_eq]
  rfl

theorem writtenPieces_isDevice (m : Nat) (a : Word) : (s.after (writePiece c data ea) m).isDevice a = s.isDevice a := by
  rw [writtenPieces_eq]
  rfl

/-- A device sees one access for each piece with a byte of its own, in ascending order. -/
theorem writtenPieces_busLog (hc : ∀ j, (data j).length = c) (m : Nat) :
    (s.after (writePiece c data ea) m).busLog =
      ((List.range m).reverse.filter fun k => kindOf s.memMap (ea + BitVec.ofNat 32 (c * k)) c == some .device).map
        (fun k => .deviceWrite (ea + BitVec.ofNat 32 (c * k)) (data k)) ++ s.busLog := by
  induction m with
  | zero => rfl
  | succ m ih =>
    rw [State.after, writePiece, State.afterWrite, writtenPieces_memMap, hc, ih, List.range_succ, List.reverse_append,
      List.reverse_singleton, List.singleton_append, List.filter_cons]
    by_cases hd : kindOf s.memMap (ea + BitVec.ofNat 32 (c * m)) c = some .device
    · simp [hd]
    · simp [hd]

theorem writtenPieces_wf (h : Memory.wf s.mem = true) (m : Nat) :
    Memory.wf (s.after (writePiece c data ea) m).mem = true := by
  induction m with
  | zero => exact h
  | succ m ih => exact State.storeRamBytes_wf _ ih _ _

theorem mem_span_of_mem_piece {a : Word} (hc : ∀ j, (data j).length = c)
    (ha : a ∈ span (ea + BitVec.ofNat 32 (c * m)) (data m).length) : a ∈ span ea (c * (m + 1)) := by
  obtain ⟨k, hk, rfl⟩ := (mem_span _ _ _).mp ha
  rw [hc] at hk
  exact (mem_span _ _ _).mpr ⟨c * m + k, by rw [Nat.mul_succ]; omega, add_ofNat_add _ _ _⟩

theorem mem_span_mono {a : Word} {n k : Nat} (hn : n ≤ k) (ha : a ∈ span ea n) : a ∈ span ea k := by
  obtain ⟨i, hi, rfl⟩ := (mem_span _ _ _).mp ha
  exact (mem_span _ _ _).mpr ⟨i, by omega, rfl⟩

/-- The bytes beside the pieces, and those in device regions, read as before. -/
theorem writtenPieces_kept (h : Memory.wf s.mem = true) (hc : ∀ j, (data j).length = c) {a : Word}
    (ha : a ∉ span ea (c * m) ∨ s.isDevice a = true) : (s.after (writePiece c data ea) m).byteAt a = s.byteAt a := by
  induction m with
  | zero => rfl
  | succ m ih =>
    have hpiece := ha.imp_left (mt (mem_span_of_mem_piece hc))
    have hbefore := ha.imp_left (mt (mem_span_mono (Nat.mul_le_mul_left c (Nat.le_succ m))))
    rw [← ih hbefore]
    rw [← writtenPieces_isDevice (c := c) (data := data) (ea := ea) m] at hpiece
    exact State.storeRamBytes_byteAt_kept _ (writtenPieces_wf h m) _ _ _ hpiece

/-- Each byte of the pieces that lies in `ram` reads back: later pieces do not meet it. -/
theorem writtenPieces_inside (h : Memory.wf s.mem = true) (hc : ∀ j, (data j).length = c) (hm : c * m < 2 ^ 32) {i : Nat}
    (hi : i < c * m) (hd : s.isDevice (ea + BitVec.ofNat 32 i) = false) :
    (data (i / c))[i % c]? = some ((s.after (writePiece c data ea) m).byteAt (ea + BitVec.ofNat 32 i)) := by
  induction m with
  | zero => exact absurd hi (Nat.not_lt_zero i)
  | succ m ih =>
    rw [Nat.mul_succ] at hm hi
    have hwf := writtenPieces_wf (c := c) (data := data) (ea := ea) h m
    by_cases hlast : i < c * m
    · have hout : ea + BitVec.ofNat 32 i ∉ span (ea + BitVec.ofNat 32 (c * m)) (data m).length := fun hmem => by
        obtain ⟨k, hk, he⟩ := (mem_span _ _ _).mp hmem
        rw [hc] at hk
        rw [add_ofNat_add, add_ofNat_inj (by omega) (by omega)] at he
        omega
      rw [ih (by omega) hlast]
      exact congrArg some (State.storeRamBytes_byteAt_kept _ hwf _ _ _ (.inl hout)).symm
    · obtain ⟨k, rfl⟩ : ∃ k, i = c * m + k := ⟨i - c * m, by omega⟩
      have hk : k < c := by omega
      have hlen : k < (data m).length := by rw [hc]; exact hk
      rw [← writtenPieces_isDevice (c := c) (data := data) (ea := ea) m, ← add_ofNat_add] at hd
      rw [Nat.mul_add_div (by omega), Nat.div_eq_of_lt hk, Nat.mul_add_mod, Nat.mod_eq_of_lt hk, ← add_ofNat_add,
        Nat.add_zero, List.getElem?_eq_getElem hlen]
      exact congrArg some (State.storeRam_byteAt_inside _ hwf _ _ _ _ (by rw [hc]; omega) hlen hd).symm

end

/-! ### stmw -/

section
variable {s : State} {src : BitVec 5} {ea : Word} {m : Nat}

theorem registerBytes_eq (s : State) (src : BitVec 5) (j : Nat) :
    registerBytes s src j = [3, 2, 1, 0].map (wordByte (s.r (src + BitVec.ofNat 5 j))) := lowBytes_four _

theorem registerBytes_length (s : State) (src : BitVec 5) (j : Nat) : (registerBytes s src j).length = 4 := rfl

/-- The state after the first `m` words of `stmw`. -/
abbrev writtenWords (s : State) (src : BitVec 5) (ea : Word) (m : Nat) : State :=
  s.after (writePiece 4 (registerBytes s src) ea) m

/-- A byte in `ram` is that of its register. -/
theorem writtenWords_byte (h : Memory.wf s.mem = true) (hm : m ≤ 32) {i : Nat} (hi : i < 4 * m)
    (hd : s.isDevice (ea + BitVec.ofNat 32 i) = false) :
    (writtenWords s src ea m).byteAt (ea + BitVec.ofNat 32 i) =
      wordByte (s.r (src + BitVec.ofNat 5 (i / 4))) (3 - i % 4) := by
  have hread := writtenPieces_inside h (registerBytes_length s src) (by omega) hi hd
  rw [registerBytes, lowBytes_getElem _ (Nat.mod_lt i (by omega))] at hread
  exact (Option.some.inj hread).symm

theorem storeRegisters_mapped (h : ∀ j, j < m → s.watched true (ea + BitVec.ofNat 32 (4 * j)) 4 = false ∧
      kindOf s.memMap (ea + BitVec.ofNat 32 (4 * j)) 4 ≠ none) (left : Nat) :
    storeRegisters (m + left) src ea s =
      storeRegisters left (src + BitVec.ofNat 5 m) (ea + BitVec.ofNat 32 (4 * m)) (writtenWords s src ea m) := by
  have hsrc : src = src + BitVec.ofNat 5 0 := (BitVec.add_zero src).symm
  have hea : ea = ea + BitVec.ofNat 32 (4 * 0) := (BitVec.add_zero ea).symm
  have hall := access_after (s := s) (f := writePiece 4 (registerBytes s src) ea) (m := m)
    (access := fun left j u => storeRegisters left (src + BitVec.ofNat 5 j) (ea + BitVec.ofNat 32 (4 * j)) u)
    (fun j left hj => ?_) left
  · rwa [← hsrc, ← hea] at hall
  · obtain ⟨hw, hk⟩ := h j hj
    have hnext : ea + BitVec.ofNat 32 (4 * j) + 4 = ea + BitVec.ofNat 32 (4 * (j + 1)) := add_ofNat_add ea (4 * j) 4
    rw [storeRegisters_succ, writtenPieces_r,
      writeSpan_mapped ((writtenPieces_watched ..).trans hw) (by rw [writtenPieces_memMap]; exact hk), nextRegister_add,
      hnext]
    rfl

theorem storeRegisters_outside {n k : Nat} (hk : k < n)
    (h : ∀ j, j < k → s.watched true (ea + BitVec.ofNat 32 (4 * j)) 4 = false ∧
      kindOf s.memMap (ea + BitVec.ofNat 32 (4 * j)) 4 ≠ none)
    (hw : s.watched true (ea + BitVec.ofNat 32 (4 * k)) 4 = false)
    (hn : kindOf s.memMap (ea + BitVec.ofNat 32 (4 * k)) 4 = none) :
    storeRegisters n src ea s = .stop (.refused .outsideMemMap) := by
  obtain ⟨left, rfl⟩ : ∃ left, n = k + (left + 1) := ⟨n - k - 1, by omega⟩
  rw [storeRegisters_mapped h, storeRegisters_succ,
    writeSpan_outside ((writtenPieces_watched ..).trans hw) ((congrArg (kindOf · _ _) (writtenPieces_memMap k)).trans hn)]
  rfl

end

end Sys2Proof.Machine
end

section
namespace Sys2Proof.Machine

/-! ### The multiple instructions -/

section
variable {s : State} {x a : BitVec 5} {disp : BitVec 16} {ea : Word}

theorem exec_lmw_aligned (ha : aligned (s.eaD a disp) 4 = true) :
    exec (.lmw x a disp) s = finishAccess (loadRegisters (32 - x.toNat) x (s.eaD a disp) s) := by
  rw [exec_lmw, execLmw, neverSplit, if_pos ha]

theorem exec_stmw_aligned (ha : aligned (s.eaD a disp) 4 = true) :
    exec (.stmw x a disp) s = finishAccess (storeRegisters (32 - x.toNat) x (s.eaD a disp) s) := by
  rw [exec_stmw, execStmw, neverSplit, if_pos ha]

/-- The registers of `lmw` and `stmw` do not wrap past `r[31]`. -/
theorem ne_wordPlace {j : BitVec 5} (hj : j.toNat < x.toNat) {k : Nat} (hk : k < 32 - x.toNat) : j ≠ wordPlace x k := by
  rintro rfl
  rw [wordPlace, BitVec.toNat_add, BitVec.toNat_ofNat, Nat.add_mod_mod, Nat.mod_eq_of_lt (by omega)] at hj
  omega

theorem loadRegisters_ram (h : ∀ k, k < 32 - x.toNat → s.watched false (ea + BitVec.ofNat 32 (4 * k)) 4 = false ∧
      kindOf s.memMap (ea + BitVec.ofNat 32 (4 * k)) 4 = some .ram) :
    Completes (finishAccess (loadRegisters (32 - x.toNat) x ea s)) fun t =>
      (∀ k, k < 32 - x.toNat → t.r (x + BitVec.ofNat 5 k) =
        BitVec.ofNat 32 (natOf (s.bytesAt (ea + BitVec.ofNat 32 (4 * k)) 4))) ∧
      (∀ j : BitVec 5, j.toNat < x.toNat → t.r j = s.r j) ∧ t.pc = s.pc + 4 ∧ MemoryKept s t ∧
      { t with gpr := s.gpr, pc := s.pc } = s := by
  exact .of_next (congrArg finishAccess (loadRegisters_after h 0)) ⟨fun k hk => loadedWords_r (by omega) hk,
    fun j hj => loadedWords_kept fun k hk => ne_wordPlace hj hk, loaded_frame (loadedWords_eq _)⟩

theorem storeRegisters_ram (hwf : Memory.wf s.mem = true)
    (h : ∀ k, k < 32 - x.toNat → s.watched true (ea + BitVec.ofNat 32 (4 * k)) 4 = false ∧
      kindOf s.memMap (ea + BitVec.ofNat 32 (4 * k)) 4 = some .ram) :
    Completes (finishAccess (storeRegisters (32 - x.toNat) x ea s)) fun t =>
      (∀ k, k < 4 * (32 - x.toNat) → t.byteAt (ea + BitVec.ofNat 32 k) =
        wordByte (s.r (x + BitVec.ofNat 5 (k / 4))) (3 - k % 4)) ∧
      MemoryKeptOutside s t ea (4 * (32 - x.toNat)) ∧ t.pc = s.pc + 4 ∧
      { t with mem := s.mem, stale := s.stale, pc := s.pc } = s := by
  refine .of_next (congrArg finishAccess (storeRegisters_after h 0)) ⟨fun k hk => ?_,
    storedPieces_outside hwf (registerBytes_length s x) _, stored_frame (storedPieces_eq _)⟩
  have hread := storedPieces_inside (ea := ea) hwf (registerBytes_length s x) (by omega) hk
  rw [registerBytes, lowBytes_getElem _ (Nat.mod_lt k (by omega))] at hread
  exact (Option.some.inj hread).symm

theorem loadRegisters_completes (h : ∀ k, k < 32 - x.toNat → s.watched false (ea + BitVec.ofNat 32 (4 * k)) 4 = false ∧
      kindOf s.memMap (ea + BitVec.ofNat 32 (4 * k)) 4 ≠ none) :
    Completes (finishAccess (loadRegisters (32 - x.toNat) x ea s)) fun t =>
      t.busLog = ((List.range (32 - x.toNat)).reverse.filter fun k =>
          kindOf s.memMap (ea + BitVec.ofNat 32 (4 * k)) 4 == some .device).map
        (fun k => .deviceRead (ea + BitVec.ofNat 32 (4 * k)) 4) ++ s.busLog ∧
      (∀ k j, k < 32 - x.toNat → j < 4 →
        s.isDevice (ea + BitVec.ofNat 32 (4 * k) + BitVec.ofNat 32 j) = false →
        wordByte (t.r (x + BitVec.ofNat 5 k)) (3 - j) = s.byteAt (ea + BitVec.ofNat 32 (4 * k) + BitVec.ofNat 32 j)) ∧
      (∀ j : BitVec 5, j.toNat < x.toNat → t.r j = s.r j) ∧ t.pc = s.pc + 4 ∧ MemoryKept s t ∧
      { t with gpr := s.gpr, pc := s.pc, draws := s.draws, busLog := s.busLog } = s := by
  refine .of_next (congrArg finishAccess (loadRegisters_mapped h 0)) ⟨loadedPieces_busLog _, fun k j hk hj hd => ?_,
    fun j hj => loadedPieces_kept fun k hk => ne_wordPlace hj hk, answered_frame (loadedPieces_eq _)⟩
  rw [add_ofNat_add] at hd ⊢
  exact answeredWords_byte (by omega) hk hj hd

theorem storeRegisters_completes (hwf : Memory.wf s.mem = true)
    (h : ∀ k, k < 32 - x.toNat → s.watched true (ea + BitVec.ofNat 32 (4 * k)) 4 = false ∧
      kindOf s.memMap (ea + BitVec.ofNat 32 (4 * k)) 4 ≠ none) :
    Completes (finishAccess (storeRegisters (32 - x.toNat) x ea s)) fun t =>
      t.busLog = ((List.range (32 - x.toNat)).reverse.filter fun k =>
          kindOf s.memMap (ea + BitVec.ofNat 32 (4 * k)) 4 == some .device).map
        (fun k => .deviceWrite (ea + BitVec.ofNat 32 (4 * k))
          ([3, 2, 1, 0].map (wordByte (s.r (x + BitVec.ofNat 5 k))))) ++ s.busLog ∧
      (∀ k j, k < 32 - x.toNat → j < 4 →
        s.isDevice (ea + BitVec.ofNat 32 (4 * k) + BitVec.ofNat 32 j) = false →
        t.byteAt (ea + BitVec.ofNat 32 (4 * k) + BitVec.ofNat 32 j) = wordByte (s.r (x + BitVec.ofNat 5 k)) (3 - j)) ∧
      (∀ y, y ∉ span ea (4 * (32 - x.toNat)) ∨ s.isDevice y = true → t.byteAt y = s.byteAt y) ∧
      t.pc = s.pc + 4 ∧ { t with mem := s.mem, stale := s.stale, pc := s.pc, busLog := s.busLog } = s := by
  refine .of_next (congrArg finishAccess (storeRegisters_mapped h 0)) ⟨?_, fun k j hk hj hd => ?_,
    fun y hy => writtenPieces_kept hwf (registerBytes_length s x) hy,
    written_frame (writtenPieces_eq _)⟩
  · simp only [← registerBytes_eq]
    exact writtenPieces_busLog (registerBytes_length s x) _
  · rw [add_ofNat_add] at hd ⊢
    have hread := writtenWords_byte (src := x) (m := 32 - x.toNat) hwf (by omega) (by omega) hd
    rwa [Nat.mul_add_div (by omega), Nat.div_eq_of_lt hj, Nat.mul_add_mod, Nat.mod_eq_of_lt hj] at hread

end

/-- Settles O30, by the accesses of the words one after the other. -/
theorem multipleWordsMove : Obligations.MultipleWordsMove := by
  intro x a disp s ha
  rw [exec_lmw_aligned ha, exec_stmw_aligned ha]
  refine ⟨loadRegisters_ram, storeRegisters_ram, loadRegisters_completes, storeRegisters_completes,
    fun store k hk h hw hn => ?_⟩
  cases store with
  | false =>
    rw [if_neg nofun, exec_lmw_aligned ha, loadRegisters_outside hk h hw hn]
    rfl
  | true =>
    rw [if_pos rfl, exec_stmw_aligned ha, storeRegisters_outside hk h hw hn]
    rfl

end Sys2Proof.Machine
end

section
namespace Sys2Proof.Machine

/-! ### Loads of strings -/

/-- Bytes of a string that end inside a word: the rest of the word is zeros. -/
theorem padded_word (f : Nat → Byte) {n j : Nat} (hj : 4 * j < n) :
    ((((List.range n).map f ++ [0, 0, 0]).drop (4 * j)).take 4) =
      (List.range 4).map fun i => if 4 * j + i < n then f (4 * j + i) else 0 := by
  have hzeros : ([0, 0, 0] : List Byte) = List.replicate 3 0 := rfl
  rw [hzeros]
  refine List.ext_getElem ?_ fun i hi _ => ?_
  · simp
    omega
  · simp [List.getElem_append, -List.reduceReplicate]

theorem wordOf_bytes (w : Word) : wordOf ((List.range 4).map fun i => wordByte w (3 - i)) = w := wordOf_wordBytes w

/-- The register that byte `j` of a string goes to. -/
abbrev stringPlace (d : BitVec 5) (j : Nat) : BitVec 5 := d + BitVec.ofNat 5 (j / 4)

/-- What byte `j` of a string makes of its register, which is cleared first where the byte is its first one (R345). -/
def withStringByte (j : Nat) (old : Word) (bytes : List Byte) : Word :=
  putByte (if j % 4 = 0 then 0 else old) (j % 4) (bytes.headD 0)

/-- Byte `j` as a string load reads it. -/
def answeredByte (s : State) (d : BitVec 5) (ea : Word) (j : Nat) : Byte :=
  (pieceBytes s 1 (stringPlace d) withStringByte ea j).headD 0

/-- The state after the first `m` bytes of a string load. -/
abbrev answeredString (s : State) (d : BitVec 5) (ea : Word) (m : Nat) : State :=
  s.after (loadPiece 1 (stringPlace d) withStringByte ea) m

section
variable {s : State} {d : BitVec 5} {ea : Word} {m : Nat}

/-- Each byte read is in its place, and the bytes of its register after the last one are 0. -/
theorem answeredString_byte (hm : m ≤ 128) {j i : Nat} (hi : i < 4) (hj : 4 * j < m) :
    wordByte ((answeredString s d ea m).r (d + BitVec.ofNat 5 j)) (3 - i) =
      if 4 * j + i < m then answeredByte s d ea (4 * j + i) else 0 := by
  induction m with
  | zero => exact absurd hj (Nat.not_lt_zero _)
  | succ m ih =>
    have hinj : d + BitVec.ofNat 5 j = stringPlace d m ↔ j = m / 4 := add_ofNat_inj (by omega) (by omega)
    rw [loadedPieces_r_succ]
    by_cases hreg : j = m / 4
    · rw [if_pos (hinj.mpr hreg), withStringByte, wordByte_putByte _ _ (Nat.mod_lt m (by omega)) hi]
      by_cases hlast : i = m % 4
      · have hplace : 4 * j + i = m := by omega
        rw [if_pos hlast, if_pos (by omega), hplace]
        rfl
      · rw [if_neg hlast]
        by_cases hfirst : m % 4 = 0
        · rw [if_pos hfirst, if_neg (by omega), wordByte_zero]
        · have hsame : 4 * j + i < m + 1 ↔ 4 * j + i < m := by omega
          rw [if_neg hfirst, ih (by omega) (by omega)]
          simp only [hsame]
    · rw [if_neg (mt hinj.mp hreg), ih (by omega) (by omega), if_pos (by omega), if_pos (by omega)]

theorem answeredString_word (hm : m ≤ 128) {j : Nat} (hj : j < (m + 3) / 4) :
    (answeredString s d ea m).r (d + BitVec.ofNat 5 j) =
      BitVec.ofNat 32 (natOf ((((List.range m).map (answeredByte s d ea) ++ [0, 0, 0]).drop (4 * j)).take 4)) := by
  rw [padded_word _ (by omega), ← wordOf_bytes ((answeredString s d ea m).r (d + BitVec.ofNat 5 j))]
  refine congrArg wordOf (List.map_congr_left fun i hi => ?_)
  exact answeredString_byte hm (List.mem_range.mp hi) (by omega)

/-- A byte in `ram` is memory's. -/
theorem answeredByte_ram {j : Nat} (hd : s.isDevice (ea + BitVec.ofNat 32 j) = false) :
    answeredByte s d ea j = s.byteAt (ea + BitVec.ofNat 32 j) := by
  have hbyte := pieceBytes_ram (s := s) (c := 1) (place := stringPlace d) (value := withStringByte) (ea := ea) j
    Nat.zero_lt_one
  rw [Nat.one_mul, Nat.add_zero, ← List.head?_eq_getElem?] at hbyte
  rw [answeredByte, List.headD_eq_head?_getD, hbyte hd]
  rfl

theorem answeredBytes_eq_bytesAt (h : ∀ k, k < m → s.isDevice (ea + BitVec.ofNat 32 k) = false) :
    (List.range m).map (answeredByte s d ea) = s.bytesAt ea m := by
  rw [State.bytesAt_eq, span_eq_map, List.map_map]
  exact List.map_congr_left fun k hk => answeredByte_ram (h k (List.mem_range.mp hk))

/-- A register outside the range of those loaded is none of them. -/
theorem ne_stringPlace {r : BitVec 5} (hr : inRegisterRange d r ((m + 3) / 4) = false) {j : Nat} (hj : j < m) :
    r ≠ stringPlace d j := by
  rintro rfl
  have hout : ¬ (stringPlace d j - d).toNat < (m + 3) / 4 := of_decide_eq_false hr
  rw [stringPlace, BitVec.add_comm, BitVec.add_sub_cancel, BitVec.toNat_ofNat] at hout
  omega

theorem loadString_mapped (h : ∀ j, j < m → s.watched false (ea + BitVec.ofNat 32 j) 1 = false ∧
      kindOf s.memMap (ea + BitVec.ofNat 32 j) 1 ≠ none) (left : Nat) :
    loadString d (m + left) 0 ea s = loadString d left m (ea + BitVec.ofNat 32 m) (answeredString s d ea m) := by
  have hea : ea = ea + BitVec.ofNat 32 0 := (BitVec.add_zero ea).symm
  have hall := access_after (s := s) (f := loadPiece 1 (stringPlace d) withStringByte ea) (m := m)
    (access := fun left j u => loadString d left j (ea + BitVec.ofNat 32 j) u) (fun j left hj => ?_) left
  · rwa [← hea] at hall
  · obtain ⟨hw, hk⟩ := h j hj
    have hnext : ea + BitVec.ofNat 32 j + 1 = ea + BitVec.ofNat 32 (j + 1) := add_ofNat_add ea j 1
    have hold : ∀ (u : State) (r : BitVec 5), (u.afterRead (ea + BitVec.ofNat 32 j) 1).r r = u.r r := fun u r => by
      rw [State.afterRead_eq]
      rfl
    rw [loadString_succ, readSpan_mapped ((loadedPieces_watched ..).trans hw) (by rwa [loadedPieces_memMap]), hnext,
      State.after, loadPiece, Nat.one_mul]
    simp only [Access.bind, hold]
    rfl

theorem loadString_outside {n k : Nat} (hk : k < n)
    (h : ∀ j, j < k → s.watched false (ea + BitVec.ofNat 32 j) 1 = false ∧
      kindOf s.memMap (ea + BitVec.ofNat 32 j) 1 ≠ none)
    (hw : s.watched false (ea + BitVec.ofNat 32 k) 1 = false) (hn : kindOf s.memMap (ea + BitVec.ofNat 32 k) 1 = none) :
    loadString d n 0 ea s = .stop (.refused .outsideMemMap) := by
  obtain ⟨left, rfl⟩ : ∃ left, n = k + (left + 1) := ⟨n - k - 1, by omega⟩
  rw [loadString_mapped h, loadString_succ,
    readSpan_outside ((loadedPieces_watched ..).trans hw) (by rw [loadedPieces_memMap, hn])]
  rfl

theorem loadString_ram (hm : m ≤ 128) (h : ∀ k, k < m → s.watched false (ea + BitVec.ofNat 32 k) 1 = false ∧
      kindOf s.memMap (ea + BitVec.ofNat 32 k) 1 = some .ram) :
    Completes (finishAccess (loadString d m 0 ea s)) fun t =>
      (∀ j, j < (m + 3) / 4 → t.r (d + BitVec.ofNat 5 j) =
        BitVec.ofNat 32 (natOf (((s.bytesAt ea m ++ [0, 0, 0]).drop (4 * j)).take 4))) ∧
      (∀ r, inRegisterRange d r ((m + 3) / 4) = false → t.r r = s.r r) ∧ t.pc = s.pc + 4 ∧ MemoryKept s t ∧
      { t with gpr := s.gpr, pc := s.pc } = s := by
  have hmapped : ∀ k, k < m → s.watched false (ea + BitVec.ofNat 32 k) 1 = false ∧
      kindOf s.memMap (ea + BitVec.ofNat 32 k) 1 ≠ none := fun k hk =>
    ⟨(h k hk).1, by rw [(h k hk).2]; nofun⟩
  have hram : ∀ k, k < m → s.isDevice (ea + BitVec.ofNat 32 k) = false := fun k hk => by
    rw [State.isDevice_eq, (h k hk).2]
    rfl
  rw [← answeredBytes_eq_bytesAt (d := d) hram]
  refine .of_next (congrArg finishAccess (loadString_mapped hmapped 0)) ⟨fun j hj => answeredString_word hm hj,
    fun r hr => loadedPieces_kept fun j hj => ne_stringPlace hr hj, loaded_frame (loadedPieces_ram fun j hj => ?_)⟩
  rw [Nat.one_mul]
  exact (h j hj).2

theorem loadString_completes (hm : m ≤ 128) (h : ∀ k, k < m → s.watched false (ea + BitVec.ofNat 32 k) 1 = false ∧
      kindOf s.memMap (ea + BitVec.ofNat 32 k) 1 ≠ none) :
    Completes (finishAccess (loadString d m 0 ea s)) fun t =>
      (∃ bytes : List Byte, bytes.length = m ∧
        (∀ k, k < m → s.isDevice (ea + BitVec.ofNat 32 k) = false →
          bytes[k]? = some (s.byteAt (ea + BitVec.ofNat 32 k))) ∧
        ∀ j, j < (m + 3) / 4 → t.r (d + BitVec.ofNat 5 j) =
          BitVec.ofNat 32 (natOf (((bytes ++ [0, 0, 0]).drop (4 * j)).take 4))) ∧
      t.busLog = ((List.range m).reverse.filter fun k => s.isDevice (ea + BitVec.ofNat 32 k)).map
        (fun k => .deviceRead (ea + BitVec.ofNat 32 k) 1) ++ s.busLog ∧
      (∀ r, inRegisterRange d r ((m + 3) / 4) = false → t.r r = s.r r) ∧ t.pc = s.pc + 4 ∧ MemoryKept s t ∧
      { t with gpr := s.gpr, pc := s.pc, draws := s.draws, busLog := s.busLog } = s := by
  refine .of_next (congrArg finishAccess (loadString_mapped h 0))
    ⟨⟨(List.range m).map (answeredByte s d ea), by simp, fun k hk hd => ?_, fun j hj => answeredString_word hm hj⟩, ?_,
      fun r hr => loadedPieces_kept fun j hj => ne_stringPlace hr hj, answered_frame (loadedPieces_eq _)⟩
  · rw [List.getElem?_map, List.getElem?_range hk, Option.map_some, answeredByte_ram hd]
  · have hlog := loadedPieces_busLog (s := s) (c := 1) (place := stringPlace d) (value := withStringByte) (ea := ea) m
    simp only [Nat.one_mul, ← State.isDevice_eq] at hlog
    exact hlog

end

end Sys2Proof.Machine
end

section
namespace Sys2Proof.Machine

/-! ### Stores of strings -/

section
variable {s : State} {src : BitVec 5} {ea : Word} {m : Nat}

theorem stringByte_length (s : State) (src : BitVec 5) (j : Nat) : (stringByte s src j).length = 1 := rfl

theorem stringByte_eq (s : State) (src : BitVec 5) (j : Nat) :
    stringByte s src j = [wordByte (s.r (src + BitVec.ofNat 5 (j / 4))) (3 - j % 4)] := by
  rw [stringByte, getByte_eq _ (Nat.mod_lt j (by omega))]

/-- The state after the first `m` bytes of a string store. -/
abbrev writtenString (s : State) (src : BitVec 5) (ea : Word) (m : Nat) : State :=
  s.after (writePiece 1 (stringByte s src) ea) m

/-- A byte in `ram` is that of its register. -/
theorem writtenString_byte (h : Memory.wf s.mem = true) (hm : m ≤ 128) {k : Nat} (hk : k < m)
    (hd : s.isDevice (ea + BitVec.ofNat 32 k) = false) :
    (writtenString s src ea m).byteAt (ea + BitVec.ofNat 32 k) =
      wordByte (s.r (src + BitVec.ofNat 5 (k / 4))) (3 - k % 4) := by
  have hread := writtenPieces_inside (m := m) h (stringByte_length s src) (by omega) (by omega) hd
  rw [Nat.div_one, Nat.mod_one, stringByte_eq] at hread
  exact (Option.some.inj hread).symm

theorem storeString_mapped (h : ∀ j, j < m → s.watched true (ea + BitVec.ofNat 32 j) 1 = false ∧
      kindOf s.memMap (ea + BitVec.ofNat 32 j) 1 ≠ none) (left : Nat) :
    storeString src (m + left) 0 ea s = storeString src left m (ea + BitVec.ofNat 32 m) (writtenString s src ea m) := by
  have hea : ea = ea + BitVec.ofNat 32 0 := (BitVec.add_zero ea).symm
  have hall := access_after (s := s) (f := writePiece 1 (stringByte s src) ea) (m := m)
    (access := fun left j u => storeString src left j (ea + BitVec.ofNat 32 j) u) (fun j left hj => ?_) left
  · rwa [← hea] at hall
  · obtain ⟨hw, hk⟩ := h j hj
    have hnext : ea + BitVec.ofNat 32 j + 1 = ea + BitVec.ofNat 32 (j + 1) := add_ofNat_add ea j 1
    rw [storeString_succ, writtenPieces_r,
      writeSpan_mapped ((writtenPieces_watched ..).trans hw) (by rw [writtenPieces_memMap]; exact hk), hnext, State.after,
      writePiece, Nat.one_mul]
    rfl

theorem storeString_outside {n k : Nat} (hk : k < n)
    (h : ∀ j, j < k → s.watched true (ea + BitVec.ofNat 32 j) 1 = false ∧
      kindOf s.memMap (ea + BitVec.ofNat 32 j) 1 ≠ none)
    (hw : s.watched true (ea + BitVec.ofNat 32 k) 1 = false) (hn : kindOf s.memMap (ea + BitVec.ofNat 32 k) 1 = none) :
    storeString src n 0 ea s = .stop (.refused .outsideMemMap) := by
  obtain ⟨left, rfl⟩ : ∃ left, n = k + (left + 1) := ⟨n - k - 1, by omega⟩
  rw [storeString_mapped h, storeString_succ,
    writeSpan_outside ((writtenPieces_watched ..).trans hw) ((congrArg (kindOf · _ _) (writtenPieces_memMap k)).trans hn)]
  rfl

theorem storeString_ram (hwf : Memory.wf s.mem = true) (hm : m ≤ 128)
    (h : ∀ k, k < m → s.watched true (ea + BitVec.ofNat 32 k) 1 = false ∧
      kindOf s.memMap (ea + BitVec.ofNat 32 k) 1 = some .ram) :
    Completes (finishAccess (storeString src m 0 ea s)) fun t =>
      (∀ k, k < m → t.byteAt (ea + BitVec.ofNat 32 k) = wordByte (s.r (src + BitVec.ofNat 5 (k / 4))) (3 - k % 4)) ∧
      MemoryKeptOutside s t ea m ∧ t.pc = s.pc + 4 ∧ { t with mem := s.mem, stale := s.stale, pc := s.pc } = s := by
  have houtside := storedPieces_outside (ea := ea) hwf (stringByte_length s src) m
  rw [Nat.one_mul] at houtside
  refine .of_next (congrArg finishAccess (storeString_after h 0)) ⟨fun k hk => ?_, houtside,
    stored_frame (storedPieces_eq _)⟩
  have hread := storedPieces_inside (ea := ea) (m := m) (i := k) hwf (stringByte_length s src) (by omega) (by omega)
  rw [Nat.div_one, Nat.mod_one, stringByte_eq] at hread
  exact (Option.some.inj hread).symm

theorem storeString_completes (hwf : Memory.wf s.mem = true) (hm : m ≤ 128)
    (h : ∀ k, k < m → s.watched true (ea + BitVec.ofNat 32 k) 1 = false ∧
      kindOf s.memMap (ea + BitVec.ofNat 32 k) 1 ≠ none) :
    Completes (finishAccess (storeString src m 0 ea s)) fun t =>
      t.busLog = ((List.range m).reverse.filter fun k => s.isDevice (ea + BitVec.ofNat 32 k)).map
        (fun k => .deviceWrite (ea + BitVec.ofNat 32 k)
          [wordByte (s.r (src + BitVec.ofNat 5 (k / 4))) (3 - k % 4)]) ++ s.busLog ∧
      (∀ k, k < m → s.isDevice (ea + BitVec.ofNat 32 k) = false →
        t.byteAt (ea + BitVec.ofNat 32 k) = wordByte (s.r (src + BitVec.ofNat 5 (k / 4))) (3 - k % 4)) ∧
      (∀ y, y ∉ span ea m ∨ s.isDevice y = true → t.byteAt y = s.byteAt y) ∧ t.pc = s.pc + 4 ∧
      { t with mem := s.mem, stale := s.stale, pc := s.pc, busLog := s.busLog } = s := by
  have hlog := writtenPieces_busLog (s := s) (ea := ea) (stringByte_length s src) m
  simp only [Nat.one_mul, ← State.isDevice_eq, stringByte_eq] at hlog
  refine .of_next (congrArg finishAccess (storeString_mapped h 0)) ⟨hlog, fun k => writtenString_byte hwf hm,
    fun y hy => writtenPieces_kept hwf (stringByte_length s src) ?_, written_frame (writtenPieces_eq _)⟩
  rwa [Nat.one_mul]

end

/-! ### The instructions -/

section
variable {s : State} {x a b : BitVec 5} {i : Instr} {n : Nat} {ea : Word}

/-- A string has at most 128 bytes: the count of `lswi` is at most 32, that of `lswx` at most 127. -/
theorem stringCount_le (hn : n = (if b = 0 then 32 else b.toNat) ∨ n = s.xer.toNat % 128) : n ≤ 128 := by
  rcases hn with rfl | rfl
  · split <;> omega
  · omega

theorem exec_stringLoad
    (hi : (i = .lswi x a b ∧ n = (if b = 0 then 32 else b.toNat) ∧ ea = (if a = 0 then 0 else s.r a)) ∨
      (i = .lswx x a b ∧ n = s.xer.toNat % 128 ∧ ea = (if a = 0 then 0 else s.r a) + s.r b))
    (hr : i = .lswi x a b ∨ (x ≠ a ∧ x ≠ b ∧ inRegisterRange x a ((n + 3) / 4) = false ∧
      inRegisterRange x b ((n + 3) / 4) = false)) (hn : 0 < n) :
    exec i s = finishAccess (loadString x n 0 ea s) := by
  rcases hi with ⟨rfl, rfl, rfl⟩ | ⟨rfl, rfl, rfl⟩
  · rfl
  · rw [← stringCount_eq] at hr hn ⊢
    exact exec_lswx_string hn (hr.resolve_left nofun)

theorem exec_stringStore
    (hi : (i = .stswi x a b ∧ n = (if b = 0 then 32 else b.toNat) ∧ ea = (if a = 0 then 0 else s.r a)) ∨
      (i = .stswx x a b ∧ n = s.xer.toNat % 128 ∧ ea = (if a = 0 then 0 else s.r a) + s.r b)) :
    exec i s = finishAccess (storeString x n 0 ea s) := by
  rcases hi with ⟨rfl, rfl, rfl⟩ | ⟨rfl, rfl, rfl⟩
  · rfl
  · rw [← stringCount_eq]
    rfl

/-- `lswx` with a base or index register in the range loaded is an invalid form (R151). -/
theorem exec_lswx_invalid (h : x = a ∨ x = b ∨ inRegisterRange x a ((s.stringCount + 3) / 4) = true ∨
      inRegisterRange x b ((s.stringCount + 3) / 4) = true) : exec (.lswx x a b) s = .refused .invalidForm := by
  rw [exec_lswx, execLswx]
  exact if_pos h

/-- `lswx` of no bytes leaves `r[D]` open (R346; log 33). -/
theorem exec_lswx_none (ha : x ≠ a) (hb : x ≠ b) (hn : s.stringCount = 0) :
    exec (.lswx x a b) s = .next ((s.setR x (s.fresh 32)).drawn 1).advance := by
  have hempty : ∀ r, inRegisterRange x r (registersFor 0) = false := fun r =>
    decide_eq_false (Nat.not_lt_zero (r - x).toNat)
  rw [exec_lswx, execLswx, hn, if_neg (by simp [ha, hb, hempty]), if_pos rfl]

end

/-- Settles O31, by the bytes read one after the other and their places in the registers. -/
theorem stringLoadsFillRegisters : Obligations.StringLoadsFillRegisters := by
  intro d a b s i n ea hi
  have hcount := stringCount_le (hi.imp (fun ⟨_, h, _⟩ => h) fun ⟨_, h, _⟩ => h)
  refine ⟨fun hr hn h => ?_, fun hr hn => ⟨fun h => ?_, fun k hk h hw hnone => ?_⟩, fun hx h => ?_, fun hx ha hb hn => ?_⟩
  · rw [exec_stringLoad hi hr hn]
    exact loadString_ram hcount h
  · rw [exec_stringLoad hi hr hn]
    exact loadString_completes hcount h
  · rw [exec_stringLoad hi hr hn, loadString_outside hk h hw hnone]
    rfl
  · subst hx
    obtain ⟨hne, _⟩ | ⟨_, rfl, _⟩ := hi
    · cases hne
    · rw [← stringCount_eq] at h
      exact exec_lswx_invalid h
  · subst hx
    obtain ⟨hne, _⟩ | ⟨_, rfl, _⟩ := hi
    · cases hne
    · rw [← stringCount_eq] at hn
      refine .of_next (exec_lswx_none ha hb hn) ⟨fun j hj => ?_, rfl, fun _ => rfl, rfl⟩
      exact State.setR_r_ne s (by simpa using hj) _

/-- Settles O32, by the bytes written one after the other. -/
theorem stringStoresWriteBytes : Obligations.StringStoresWriteBytes := by
  intro src a b s i n ea hwf hi
  have hcount := stringCount_le (hi.imp (fun ⟨_, h, _⟩ => h) fun ⟨_, h, _⟩ => h)
  rw [exec_stringStore hi]
  refine ⟨storeString_ram hwf hcount, storeString_completes hwf hcount, fun k hk h hw hnone => ?_⟩
  rw [storeString_outside hk h hw hnone]
  rfl

end Sys2Proof.Machine
end

section
namespace Sys2Proof.Machine

/-! ## stwcx. (45_memory_synchronization.md R363, R364) -/

/-- CR0 says whether a conditional store has stored; the other fields stay (R363). -/
def Cr0Reports (s t : State) (stored : Bool) : Prop :=
  bit t.cr 0 = false ∧ bit t.cr 1 = false ∧ bit t.cr 2 = stored ∧ bit t.cr 3 = bit s.xer 0 ∧ BitsKept s.cr t.cr 4 28

theorem State.conditionalResult_reports (s : State) (stored : Bool) : Cr0Reports s (s.conditionalResult stored) stored := by
  obtain ⟨hlt, hgt, heq, _⟩ := orderField_bits false false stored (xerSo s.xer)
  exact ⟨(s.setCrField_bit 0 _ (k := 0) (by omega)).trans hlt, (s.setCrField_bit 0 _ (k := 1) (by omega)).trans hgt,
    (s.setCrField_bit 0 _ (k := 2) (by omega)).trans heq, s.setCrField_openOrder _⟩

/-- A conditional store is over: the reservation is gone, CR0 reports, and the word is stored exactly where CR0 says so. -/
def ConditionalDone (s t : State) (src : BitVec 5) (ea : Word) (stored : Bool) : Prop :=
  t.reserve = false ∧ Cr0Reports s t stored ∧ t.pc = s.pc + 4 ∧ MemoryKeptOutside s t ea 4 ∧
    (stored = true → t.bytesAt ea 4 = [3, 2, 1, 0].map (wordByte (s.r src))) ∧ (stored = false → MemoryKept s t) ∧
    { t with mem := s.mem, stale := s.stale, cr := s.cr, pc := s.pc, reserve := s.reserve, draws := s.draws } = s

section
variable {s : State} {src a b : BitVec 5} {ea : Word}

theorem failConditional_done (draws : Nat) :
    Completes (failConditional (s.drawn draws)) fun t => ConditionalDone s t src ea false :=
  .of_next rfl ⟨rfl, State.conditionalResult_reports { s.drawn draws with reserve := false } false, rfl, fun _ _ => rfl,
    nofun, fun _ _ => rfl, rfl⟩

theorem storeConditional_done (hwf : Memory.wf s.mem = true) (hw : s.watched true ea 4 = false)
    (hk : kindOf s.memMap ea 4 = some .ram) (draws : Nat) :
    Completes (storeConditional src ea (s.drawn draws)) fun t => ConditionalDone s t src ea true := by
  obtain ⟨hbytes, houtside, _⟩ := storeBytes_done (s := s.drawn draws) hwf ea (data := lowBytes 4 (s.r src))
    (by simp [lowBytes_four])
  obtain ⟨m, l, hu⟩ : ∃ m l,
      (s.drawn draws).storeBytes ea (lowBytes 4 (s.r src)) = { s.drawn draws with mem := m, stale := l } :=
    ⟨_, _, State.storePieces_eq ..⟩
  rw [hu] at hbytes houtside
  refine .of_next (t := (State.conditionalResult { s.drawn draws with mem := m, stale := l, reserve := false } true).advance)
    ?_ ⟨rfl, State.conditionalResult_reports _ true, rfl, houtside, fun _ => hbytes.trans (lowBytes_four _), nofun, rfl⟩
  have hwrite : writeSpan ea (lowBytes 4 (s.r src)) (s.drawn draws) = .done () { s.drawn draws with mem := m, stale := l } :=
    hu ▸ writeSpan_ready hw hk
  rw [storeConditional_eq]
  exact Access.andThen_done hwrite _

theorem storeConditional_outside (hw : s.watched true ea 4 = false) (hk : kindOf s.memMap ea 4 = none) :
    storeConditional src ea s = .refused .outsideMemMap := by
  rw [storeConditional_eq, writeSpan_outside hw hk]
  rfl

variable (ha : aligned (s.eaX a b) 4 = true)
include ha

theorem exec_stwcx_unreserved (hr : s.reserve = false) : exec (.stwcx_rc src a b) s = failConditional s := by
  rw [exec_stwcx_rc, execStwcxRc, neverSplit, if_pos ha, hr]
  rfl

theorem exec_stwcx_reserved (hr : s.reserve = true) (hg : s.reserveAddr = (s.eaX a b).extractLsb' 5 27) :
    exec (.stwcx_rc src a b) s = storeConditional src (s.eaX a b) s := by
  rw [exec_stwcx_rc, execStwcxRc, neverSplit, if_pos ha, hr]
  exact if_pos ((granule_eq _).trans hg.symm)

/-- With the reservation of another granule a draw decides (92_eei_decisions.md D21; log 36). -/
theorem exec_stwcx_otherGranule (hr : s.reserve = true) (hg : s.reserveAddr ≠ (s.eaX a b).extractLsb' 5 27) :
    exec (.stwcx_rc src a b) s =
      if bit (s.fresh 1) 0 then storeConditional src (s.eaX a b) (s.drawn 1) else failConditional (s.drawn 1) := by
  have hne : granule (s.eaX a b) ≠ s.reserveAddr := granule_eq (s.eaX a b) ▸ hg.symm
  rw [exec_stwcx_rc, execStwcxRc, neverSplit, if_pos ha, hr]
  exact if_neg hne

/-- At a word of unwatched `ram` the instruction is over at once, and only another granule's reservation leaves it open
whether it has stored. -/
theorem exec_stwcx_done (hwf : Memory.wf s.mem = true) (hw : s.watched true (s.eaX a b) 4 = false)
    (hk : kindOf s.memMap (s.eaX a b) 4 = some .ram) :
    ∃ stored, Completes (exec (.stwcx_rc src a b) s) (fun t => ConditionalDone s t src (s.eaX a b) stored) ∧
      (s.reserve = false → stored = false) ∧
      (s.reserve = true → s.reserveAddr = (s.eaX a b).extractLsb' 5 27 → stored = true) := by
  cases hr : s.reserve with
  | false =>
    rw [exec_stwcx_unreserved ha hr]
    exact ⟨false, failConditional_done 0, fun _ => rfl, nofun⟩
  | true =>
    by_cases hg : s.reserveAddr = (s.eaX a b).extractLsb' 5 27
    · rw [exec_stwcx_reserved ha hr hg]
      exact ⟨true, storeConditional_done hwf hw hk 0, nofun, fun _ _ => rfl⟩
    · rw [exec_stwcx_otherGranule ha hr hg]
      refine ⟨bit (s.fresh 1) 0, ?_, nofun, fun _ h => absurd h hg⟩
      cases bit (s.fresh 1) 0 with
      | false => exact failConditional_done 1
      | true => exact storeConditional_done hwf hw hk 1

end

/-- Settles O34, by the reservation: none, the granule's own, or another granule's. -/
theorem storeConditionalNeedsReservation : Obligations.StoreConditionalNeedsReservation := by
  intro src a b s ha
  refine ⟨fun hwf hw hk => ?_, fun hw hk hr hg => ?_, fun hr => ?_⟩
  · obtain ⟨stored, hdone, hnone, hown⟩ := exec_stwcx_done (src := src) ha hwf hw hk
    refine hdone.imp fun t ⟨hreserve, ⟨hlt, hgt, heq, hso, hcr⟩, hpc, hout, hword, hkept, hrest⟩ => ?_
    rw [heq]
    exact ⟨hreserve, hlt, hgt, hso, hcr, hpc, hout, hword, hkept, hnone, hown, hrest⟩
  · rw [exec_stwcx_reserved ha hr hg]
    exact storeConditional_outside hw hk
  · rw [exec_stwcx_unreserved ha hr]
    obtain ⟨hlt, hgt, heq, hso, hcr⟩ := State.conditionalResult_reports { s with reserve := false } false
    refine .of_next rfl ⟨hlt, hgt, heq, hso, hcr, rfl, fun _ => rfl, ?_⟩
    exact congrArg (fun r => { s with reserve := r }) hr.symm

end Sys2Proof.Machine
end

section
namespace Sys2Proof.Machine

/-! ## Barriers and cache instructions (45_memory_synchronization.md R370 to R372; 48_cache_segment_tlb_external.md R450) -/

section
variable {s : State} {a b : BitVec 5} {i : Instr}

/-- Only what instruction fetch may still see has moved on. -/
theorem completes_withStale {r : Result} {l : List StaleWord} (h : r = .next (s.withStale l)) :
    Completes r fun t => t.pc = s.pc + 4 ∧ MemoryKept s t ∧ { t with stale := s.stale, pc := s.pc } = s :=
  .of_next h ⟨rfl, fun _ => rfl, rfl⟩

/-- The barriers and the hints look at no address. -/
theorem exec_barrierOrHint (hi : i ∈ [Instr.sync, .eieio, .isync, .dcbt a b, .dcbtst a b]) :
    ∃ l, exec i s = .next (s.withStale l) := by
  simp only [List.mem_cons, List.not_mem_nil, or_false] at hi
  obtain rfl | rfl | rfl | rfl | rfl := hi
  · exact ⟨_, exec_sync_withStale s⟩
  · exact ⟨s.stale, rfl⟩
  · exact ⟨_, exec_isync_withStale s⟩
  · exact ⟨s.stale, rfl⟩
  · exact ⟨s.stale, rfl⟩

/-- The cache instructions that name a block ask whether the byte at the effective address is in MEM_MAP (R450 d; log 40). -/
theorem exec_cacheBlock (hi : i ∈ [Instr.dcbf a b, .dcbst a b, .icbi a b] ∨ (i = .dcbi a b ∧ s.userMode = false)) :
    ∃ m : List StaleWord → List StaleWord, exec i s = insideMap (s.eaX a b) s fun t => .next (t.withStale (m t.stale)) := by
  simp only [List.mem_cons, List.not_mem_nil, or_false] at hi
  obtain (rfl | rfl | rfl) | ⟨rfl, hsuper⟩ := hi
  · exact ⟨List.map fun e => e.written (s.eaX a b), rfl⟩
  · exact ⟨List.map fun e => e.written (s.eaX a b), rfl⟩
  · exact ⟨List.map fun e => e.invalidated (s.eaX a b), rfl⟩
  · exact ⟨id, (exec_dcbi s a b).trans (supervisorOnly_supervisor hsuper _)⟩

theorem insideMap_outside {ea : Word} (h : kindAt s.memMap ea.toNat = none) (go : State → Result) :
    insideMap ea s go = .refused .outsideMemMap := by
  rw [insideMap, h]

end

/-- Settles O35: each instruction leaves the state of `State.withStale`, those that name a block only inside MEM_MAP. -/
theorem barriersAndCacheHintsKeepData : Obligations.BarriersAndCacheHintsKeepData := by
  intro a b s
  refine ⟨fun i hi => ?_, fun i hi => ?_⟩
  · obtain ⟨_, hexec⟩ := exec_barrierOrHint (s := s) hi
    exact completes_withStale hexec
  · obtain ⟨m, hexec⟩ := exec_cacheBlock hi
    rw [hexec]
    exact ⟨fun hmap => completes_withStale (insideMap_mapped hmap _), fun hnone => insideMap_outside hnone _⟩

end Sys2Proof.Machine
end

section
namespace Sys2Proof.Machine

/-! ## Branches (47_branch_cr_system.md R400 to R404, R410) -/

/-- A displacement in words: extended and then shifted, or followed by two zeros and then extended (30_encoding.md R136). -/
theorem signExtend_shiftLeft_two {n : Nat} (d : BitVec n) (hpos : 0 < n) :
    d.signExtend 32 <<< 2 = (d ++ (0 : BitVec 2)).signExtend 32 := by
  have sign : (d ++ (0 : BitVec 2)).msb = d.msb := by
    rw [BitVec.msb_append, if_neg (by simpa using hpos.ne')]
  refine BitVec.eq_of_getLsbD_eq fun i hi => ?_
  rw [BitVec.getLsbD_shiftLeft, BitVec.getLsbD_signExtend, BitVec.getLsbD_signExtend, BitVec.getLsbD_append, sign]
  by_cases low : i < 2
  · simp [low, show i < n + 2 by omega]
  · have within : i - 2 < n ↔ i < n + 2 := by omega
    simp [low, hi, within, show i - 2 < 32 by omega]

/-- A target is relative to the branch unless AA = 1 (R400 b). -/
theorem State.branchTarget_words (s : State) (aa : Bool) {n : Nat} (d : BitVec n) (hpos : 0 < n) :
    s.branchTarget aa (d.signExtend 32 <<< 2) =
      (if aa then 0 else s.pc) + (d ++ (0 : BitVec 2)).signExtend 32 := by
  rw [signExtend_shiftLeft_two d hpos]
  cases aa
  · rfl
  · exact (BitVec.zero_add _).symm

/-- The count's part of the decision (R410). -/
theorem ctrOk_eq (ctr : Word) (bo : BitVec 5) : ctrOk ctr bo = (bit bo 2 || (decide (ctr ≠ 0) != bit bo 3)) := by
  have nonzero : (ctr != 0) = decide (ctr ≠ 0) := by simp [bne, beq_eq_decide]
  rw [ctrOk, nonzero]

/-- The end of every branch: CTR takes the count, LR the next address with LK, the pc the target where taken. -/
theorem branchTo_completes (s : State) (ctr target : Word) (lk taken : Bool) :
    Completes (branchTo { s with ctr := ctr } lk taken target) fun t =>
      t.pc = (if taken then target &&& 0xFFFFFFFC else s.pc + 4) ∧ t.ctr = ctr ∧
      t.lr = (if lk then s.pc + 4 else s.lr) ∧ MemoryKept s t ∧
      { t with pc := s.pc, ctr := s.ctr, lr := s.lr } = s := by
  refine .of_next rfl ?_
  cases lk <;> cases taken <;> exact ⟨rfl, rfl, rfl, fun _ => rfl, rfl⟩

/-- Settles O40: each branch ends in `branchTo`, with the count, the decision and the target of its form. -/
theorem branchResults : Obligations.BranchResults := by
  rintro i bo bi li bd aa lk s taken target ctr
    (⟨rfl, rfl, rfl, rfl⟩ | ⟨rfl, rfl, rfl, rfl⟩ | ⟨rfl, rfl, rfl, rfl⟩ | ⟨rfl, -, rfl, rfl, rfl⟩)
  · rw [exec_bx, execBx, liOf, s.branchTarget_words aa li (by omega)]
    exact branchTo_completes s s.ctr _ lk true
  · rw [exec_bcx, execBcx, ctrOk_eq, bdOf, s.branchTarget_words aa bd (by omega)]
    exact branchTo_completes s (nextCtr s.ctr bo) _ lk _
  · rw [exec_bclrx, execBclrx, ctrOk_eq]
    exact branchTo_completes s (nextCtr s.ctr bo) s.lr lk _
  · exact branchTo_completes s s.ctr s.ctr lk _

/-! ## CR-logical instructions and mcrf (R414 to R423) -/

/-- A CR-logical instruction writes one bit and nothing else (R414). -/
theorem crLogical_completes (s : State) (x y z : BitVec 5) (f : Bool → Bool → Bool) :
    Completes (crLogical s x y z f) fun t =>
      bit t.cr x.toNat = f (bit s.cr y.toNat) (bit s.cr z.toNat) ∧
      (∀ k, k < 32 → k ≠ x.toNat → bit t.cr k = bit s.cr k) ∧ t.pc = s.pc + 4 ∧ MemoryKept s t ∧
      { t with cr := s.cr, pc := s.pc } = s := by
  have written : ∀ k, k < 32 → bit (writeBit s.cr x.toNat (f (s.crBit y) (s.crBit z))) k =
      if k = x.toNat then f (s.crBit y) (s.crBit z) else bit s.cr k := fun k hk => bit_writeBit _ x.isLt hk _
  exact .of_next rfl ⟨(written _ x.isLt).trans (if_pos rfl), fun k hk hne => (written k hk).trans (if_neg hne), rfl,
    fun _ => rfl, rfl⟩

/-- `mcrf` writes one field and nothing else (R423). -/
theorem execMcrf_completes (crfD crfS : BitVec 3) (s : State) :
    Completes (exec (.mcrf crfD crfS) s) fun t =>
      crField t.cr crfD = crField s.cr crfS ∧ (∀ n, n ≠ crfD → crField t.cr n = crField s.cr n) ∧ t.pc = s.pc + 4 ∧
      MemoryKept s t ∧ { t with cr := s.cr, pc := s.pc } = s :=
  .of_next (exec_mcrf s crfD crfS) ⟨(s.setCrField_crField crfD crfD _).trans (if_pos rfl),
    fun n hn => (s.setCrField_crField crfD n _).trans (if_neg hn), rfl, fun _ => rfl, rfl⟩

/-- Settles O41: the eight CR-logical instructions end in `crLogical`, each with its own operation on two bits. -/
theorem conditionRegisterLogicResults : Obligations.ConditionRegisterLogicResults := by
  refine ⟨fun x y z s i v hi => ?_, execMcrf_completes⟩
  have equivalent : ∀ p q : Bool, (!(p ^^ q)) = (p == q) := by decide
  simp only [List.mem_cons, List.not_mem_nil, or_false, Prod.mk.injEq, equivalent] at hi
  obtain ⟨rfl, rfl⟩ | ⟨rfl, rfl⟩ | ⟨rfl, rfl⟩ | ⟨rfl, rfl⟩ | ⟨rfl, rfl⟩ | ⟨rfl, rfl⟩ | ⟨rfl, rfl⟩ | ⟨rfl, rfl⟩ := hi
  · exact crLogical_completes s x y z fun p q => p && q
  · exact crLogical_completes s x y z fun p q => p && !q
  · exact crLogical_completes s x y z fun p q => p == q
  · exact crLogical_completes s x y z fun p q => !(p && q)
  · exact crLogical_completes s x y z fun p q => !(p || q)
  · exact crLogical_completes s x y z fun p q => p || q
  · exact crLogical_completes s x y z fun p q => p || !q
  · exact crLogical_completes s x y z fun p q => p != q

end Sys2Proof.Machine
end

section
namespace Sys2Proof.Machine

/-! ## Loading the machine state register (47_branch_cr_system.md R434, R436) -/

theorem enterMsr_refused {msr : Word} {why : Refusal} (h : msrRefusal msr = some why) (next : Word) (s : State) :
    enterMsr msr next s = .refused why := by
  simp only [enterMsr, h]

/-- In a mode that the model runs, the new MSR governs from `next` on, where a floating-point exception that it enables is
taken at once (R285, R511 e). -/
theorem enterMsr_allowed {msr : Word} (h : msrRefusal msr = none) (next : Word) (s : State) :
    enterMsr msr next s = .next
      (if bit s.fpscr 1 && (bit msr 20 || bit msr 23) then
        takeException .program next (bitMask 11) { s with msr := msr, pc := next }
      else { s with msr := msr, pc := next }) := by
  simp only [enterMsr, h]
  split <;> rfl

/-- The listed bits taken from one word and the others from another are what a mask of these bits merges. -/
theorem eq_merge_of_bit {mask old new m : Word} {taken : List Nat}
    (hmask : ∀ k, k < 32 → bit mask k = decide (k ∈ taken))
    (hm : ∀ k, k < 32 → bit m k = if k ∈ taken then bit new k else bit old k) : m = merge mask old new := by
  refine eq_of_bit fun k hk => ?_
  rw [hm k hk, bit_merge _ _ _ hk, hmask k hk]
  simp only [decide_eq_true_eq]

theorem exec_mtmsr_supervisor {s : State} (hu : s.userMode = false) (src : BitVec 5) :
    exec (.mtmsr src) s = enterMsr (merge definedMsrBits s.msr (s.r src)) (s.pc + 4) s :=
  (exec_mtmsr s src).trans (supervisorOnly_supervisor hu _)

theorem exec_rfi_supervisor {s : State} (hu : s.userMode = false) :
    exec .rfi s = enterMsr (merge restoredMsrBits s.msr s.srr1) (wordAligned s.srr0) s :=
  (exec_rfi s).trans (supervisorOnly_supervisor hu _)

/-- Settles O11: both instructions end in `enterMsr` with the merged MSR, and which modes it refuses its bits say. -/
theorem msrLoadsSwitchMode : Obligations.MsrLoadsSwitchMode := by
  intro s src i m next hu hi
  have hexec : exec i s = enterMsr m next s := by
    rcases hi with ⟨rfl, rfl, hm⟩ | ⟨rfl, rfl, hm⟩
    · rw [exec_mtmsr_supervisor hu, eq_merge_of_bit (mask := definedMsrBits) (by decide) hm]
    · rw [exec_rfi_supervisor hu, eq_merge_of_bit (mask := restoredMsrBits) (by decide) hm]
      rfl
  rw [hexec]
  refine ⟨fun hle => ?_, fun hle ht => ?_, fun hlet hpow => ?_, fun hnone => ?_⟩
  · exact enterMsr_refused (by rw [msrRefusal, if_pos (by rwa [Bool.or_comm])]) next s
  · rw [Bool.or_comm] at hle
    exact enterMsr_refused (by simp [msrRefusal, hle, ht]) next s
  · simp only [Bool.or_eq_false_iff] at hlet
    obtain ⟨⟨⟨h15, h31⟩, h26⟩, h27⟩ := hlet
    exact enterMsr_refused (by simp [msrRefusal, h15, h31, h26, h27, hpow]) next s
  · simp only [Bool.or_eq_false_iff] at hnone
    obtain ⟨⟨⟨⟨h13, h15⟩, h26⟩, h27⟩, h31⟩ := hnone
    exact enterMsr_allowed ((msrRefusal_eq_none_iff m).mpr ⟨h31, h15, h26, h27, h13⟩) next s

/-! ## Exception entry (60_exceptions.md R510) -/

theorem takeException_enters (k : ExceptionKind) (resume info : Word) (s : State) :
    Enters s (takeException k resume info s) k resume info := rfl

/-- The entry writes SRR0, SRR1, MSR and the pc. -/
theorem takeException_frame (k : ExceptionKind) (resume info : Word) (s : State) :
    { takeException k resume info s with
      srr0 := s.srr0, srr1 := s.srr1, msr := s.msr, pc := s.pc, taken := s.taken } = s := rfl

/-- The vector lies at its offset above the base that MSR[IP] selects (R510 (4)). -/
theorem vectorAddress_eq (msr : Word) (k : ExceptionKind) :
    vectorAddress msr k = if bit msr 25 then 0xFFF00000 + k.offset else k.offset := by
  unfold vectorAddress
  split
  · rfl
  · exact BitVec.zero_add _

/-! ## System call and return (R425, R436) -/

theorem wordAligned_of_and_three {a : Word} (h : a &&& 3 = 0) : wordAligned a = a :=
  wordAligned_of_aligned (by simpa [aligned] using (and_three_eq_zero_iff a).mp h)

/-- The bits that `rfi` does not restore are 0 in every MSR that the model runs in. -/
theorem State.Inv.msr_unrestored {s : State} (h : s.Inv) {i : Nat} (hi : i < 32) (hr : bit restoredMsrBits i = false) :
    bit s.msr i = false := by
  have others : ∀ j, j < 32 → bit restoredMsrBits j = false → bit definedMsrBits j = true → j = 13 ∨ j = 15 := by decide
  obtain ⟨_, h15, _, _, h13⟩ := (msrRefusal_eq_none_iff _).mp h.msr_mode
  cases hd : bit definedMsrBits i
  · exact (and_not_eq_zero_iff _ _).mp h.msr_defined i hi hd
  · obtain rfl | rfl := others i hi hr hd
    · exact h13
    · exact h15

/-- SRR1 holds the restored bits of MSR, whatever the cause put into its other bits. -/
theorem bit_savedStatus_restored (msr info : Word) {i : Nat} (hi : i < 32) (hr : bit restoredMsrBits i = true) :
    bit (savedStatus msr info) i = bit msr i := by
  have fromMsr : ∀ j, j < 32 → bit restoredMsrBits j = true → bit causeBits j = false ∧ bit savedMsrBits j = true := by
    decide
  obtain ⟨hcause, hsaved⟩ := fromMsr i hi hr
  rw [savedStatus, bit_or, bit_and, bit_and, hcause, hsaved, Bool.and_false, Bool.false_or, Bool.and_true]

/-- MSR comes back after an exception entry: what SRR1 does not hold was 0 before and is 0 in the handler. -/
theorem State.Inv.merge_savedStatus {s : State} (h : s.Inv) {k : ExceptionKind} (hk : k ≠ .machineCheck) (info : Word) :
    merge restoredMsrBits (entryMsr s.msr k) (savedStatus s.msr info) = s.msr := by
  refine eq_of_bit fun i hi => ?_
  rw [bit_merge _ _ _ hi]
  cases hr : bit restoredMsrBits i
  · have hne : i ≠ 31 := by
      rintro rfl
      exact absurd hr (by decide)
    rw [if_neg Bool.false_ne_true, bit_entryMsr _ _ hi, if_neg hne, if_neg (fun hmc => hk hmc.1),
      h.msr_unrestored hi hr, Bool.false_and]
  · rw [if_pos rfl, bit_savedStatus_restored _ _ hi hr]

/-- The handler of an exception runs in supervisor mode (60_exceptions.md R510). -/
theorem takeException_userMode (k : ExceptionKind) (resume info : Word) (s : State) :
    (takeException k resume info s).userMode = false := by
  have cleared : bit clearedMsrBits 17 = true := by decide
  rw [State.userMode, State.takeException_msr, bit_entryMsr _ _ (by omega), cleared, if_neg (by omega),
    if_neg (by omega), Bool.not_true, Bool.and_false]

/-- `rfi` at the start of an exception handler goes where the exception resumes, with the old MSR; what the entry wrote
into SRR0 and SRR1 stays. -/
theorem exec_rfi_takeException {s : State} (h : s.Inv) (hf : s.floatTraps = false) {k : ExceptionKind}
    (hk : k ≠ .machineCheck) {resume : Word} (hresume : resume &&& 3 = 0) (info : Word) :
    exec .rfi (takeException k resume info s) = .next { s with
      pc := resume
      srr0 := (takeException k resume info s).srr0
      srr1 := (takeException k resume info s).srr1
      taken := (takeException k resume info s).taken } := by
  let t := takeException k resume info s
  have hmsr : merge restoredMsrBits t.msr t.srr1 = s.msr := h.merge_savedStatus hk info
  have hpc : wordAligned t.srr0 = resume :=
    (congrArg wordAligned (wordAligned_of_and_three hresume)).trans (wordAligned_of_and_three hresume)
  have hfloat : (bit t.fpscr 1 && (bit s.msr 20 || bit s.msr 23)) = false := hf
  rw [exec_rfi_supervisor (takeException_userMode k resume info s), hmsr, hpc, enterMsr_allowed h.msr_mode, hfloat]
  rfl

/-- Settles O10, by the entry of the system call exception and the return from it. -/
theorem systemCallReturns : Obligations.SystemCallReturns := by
  intro s h hf
  have hpc : (s.pc + 4) &&& 3 = 0 := add_four_and_three h.pc_aligned
  exact .of_next (exec_sc s) ⟨vectorAddress_eq s.msr .systemCall, wordAligned_of_and_three hpc,
    takeException_enters _ _ _ s, .of_next (exec_rfi_takeException h hf (by decide) hpc 0) rfl⟩

/-! ## Tracing (R413; 60_exceptions.md R512) -/

theorem isUntraced_iff (i : Instr) : isUntraced i = true ↔ i = .rfi ∨ i = .sc ∨ i = .isync := by
  constructor
  · intro h
    cases i with
    | rfi => exact .inl rfl
    | sc => exact .inr (.inl rfl)
    | isync => exact .inr (.inr rfl)
    | _ => exact absurd h Bool.false_ne_true
  · rintro (rfl | rfl | rfl) <;> rfl

theorem isBranch_iff (i : Instr) :
    isBranch i = true ↔
      (∃ li aa lk, i = .bx li aa lk) ∨ (∃ bo bi bd aa lk, i = .bcx bo bi bd aa lk) ∨
        (∃ bo bi lk, i = .bclrx bo bi lk) ∨ ∃ bo bi lk, i = .bcctrx bo bi lk := by
  constructor
  · intro h
    cases i with
    | bx li aa lk => exact .inl ⟨li, aa, lk, rfl⟩
    | bcx bo bi bd aa lk => exact .inr (.inl ⟨bo, bi, bd, aa, lk, rfl⟩)
    | bclrx bo bi lk => exact .inr (.inr (.inl ⟨bo, bi, lk, rfl⟩))
    | bcctrx bo bi lk => exact .inr (.inr (.inr ⟨bo, bi, lk, rfl⟩))
    | _ => exact absurd h Bool.false_ne_true
  · rintro (⟨_, _, _, rfl⟩ | ⟨_, _, _, _, _, rfl⟩ | ⟨_, _, _, rfl⟩ | ⟨_, _, _, rfl⟩) <;> rfl

/-- After an instruction that took no exception, the trace exception is taken exactly where the instruction is traced. -/
theorem traceAfter_next {t : State} (ht : t.taken = none) (msr : Word) (i : Instr) :
    traceAfter msr i (.next t) =
      .next (if traced msr i then takeException .trace t.pc (t.fresh 32) (t.drawn 1) else t) := by
  rw [traceAfter, ht, Option.isNone_none, Bool.true_and]
  split <;> rfl

/-- Settles O5, by which instructions are traced and what is taken after one. -/
theorem traceFollowsTracedInstruction : Obligations.TraceFollowsTracedInstruction := by
  intro msr i t ht
  rw [traceAfter_next ht]
  refine ⟨?_, fun hquiet => by rw [hquiet]; rfl, fun htraced => ?_⟩
  · have untraced : (!isUntraced i) = true ↔ i ≠ .rfi ∧ i ≠ .sc ∧ i ≠ .isync := by
      rw [Bool.not_eq_true', ← Bool.not_eq_true, isUntraced_iff, not_or, not_or]
    rw [traced, Bool.or_eq_true, Bool.and_eq_true, Bool.and_eq_true, untraced, isBranch_iff]
  · rw [htraced]
    exact .of_next rfl ⟨t.fresh 32, rfl⟩

/-! ## Traps (R426 to R428) -/

theorem trapHolds_iff (on : BitVec 5) (x y : Word) :
    trapHolds on x y = true ↔
      (bit on 0 = true ∧ x.toInt < y.toInt) ∨ (bit on 1 = true ∧ x.toInt > y.toInt) ∨ (bit on 2 = true ∧ x = y) ∨
        (bit on 3 = true ∧ x.toNat < y.toNat) ∨ (bit on 4 = true ∧ x.toNat > y.toNat) := by
  simp only [trapHolds, Bool.or_eq_true, Bool.and_eq_true, decide_eq_true_eq, or_assoc, gt_iff_lt]

theorem bit_savedStatus_trap (msr : Word) : bit (savedStatus msr (bitMask 14)) 14 = true := by
  have cause : bit (bitMask 14 &&& causeBits) 14 = true := by decide
  rw [savedStatus, bit_or, cause, Bool.true_or]

/-- Settles O42: both forms end in `trapIf` with the condition that TO selects. -/
theorem trapInstructionResults : Obligations.TrapInstructionResults := by
  intro on ra rb simm s i x y hi
  have hexec : exec i s = trapIf s (trapHolds on x y) := by
    obtain ⟨rfl, rfl, rfl⟩ | ⟨rfl, rfl, rfl⟩ := hi
    · exact exec_tw s on ra rb
    · exact exec_twi s on ra simm
  refine ⟨?_, rfl, bit_savedStatus_trap s.msr, vectorAddress_eq s.msr .program, takeException_frame _ _ _ s⟩
  rw [hexec, trapIf_eq]
  exact congrArg _ (if_congr (trapHolds_iff on x y) rfl rfl)

end Sys2Proof.Machine
end

section
namespace Sys2Proof.Machine

/-! ## Exception entry, bit by bit (60_exceptions.md R500, R510) -/

theorem bit_wordAligned (a : Word) {i : Nat} (hi : i < 32) : bit (wordAligned a) i = (bit a i && decide (i < 30)) := by
  have low : ∀ j, j < 32 → bit (~~~(3 : Word)) j = decide (j < 30) := by decide
  rw [wordAligned, bit_and, low i hi]

/-- SRR1 at exception entry, bit by bit (R510 (2)). -/
theorem bit_savedStatus (msr info : Word) {i : Nat} (hi : i < 32) :
    bit (savedStatus msr info) i =
      if bit causeBits i then bit info i else if bit savedMsrBits i then bit msr i else false := by
  have disjoint : ∀ j, j < 32 → bit causeBits j = true → bit savedMsrBits j = false := by decide
  rw [savedStatus, bit_or, bit_and, bit_and]
  cases hc : bit causeBits i
  · cases bit savedMsrBits i <;> simp
  · simp [disjoint i hi hc]

/-- The rows of the vector table (R500) that the machine takes. -/
def exceptionKinds : List ExceptionKind :=
  [.systemReset, .machineCheck, .dsi, .external, .alignment, .program, .fpUnavailable, .decrementer, .systemCall, .trace,
    .performanceMonitor, .instructionBreakpoint, .systemManagement]

/-- Settles O9, by the bits of SRR0, SRR1 and MSR at the entry and the vector table. -/
theorem exceptionEntrySavesAndSwitches : Obligations.ExceptionEntrySavesAndSwitches := by
  intro k resume info s
  refine ⟨fun i hi => bit_wordAligned resume hi, fun i hi => ?_, fun i hi => ?_, fun offset hoffset => ?_,
    takeException_frame k resume info s⟩
  · have cause : ∀ j, j < 32 → bit causeBits j = decide (j ∈ [1, 2, 3, 4, 10, 11, 12, 13, 14, 15]) := by decide
    have saved : ∀ j, j < 32 → bit savedMsrBits j =
        decide (j ∈ [16, 17, 18, 19, 20, 21, 22, 23, 25, 26, 27, 29, 30, 31]) := by decide
    rw [State.takeException_srr1, bit_savedStatus _ _ hi, cause i hi, saved i hi]
    simp only [decide_eq_true_eq]
  · have cleared : ∀ j, j < 32 → bit clearedMsrBits j =
        decide (j ∈ [13, 16, 17, 18, 20, 21, 22, 23, 26, 27, 29, 30] ∨ j = 31) := by decide
    rw [State.takeException_msr, bit_entryMsr _ _ hi, cleared i hi]
    by_cases h31 : i = 31
    · subst h31
      simp
    by_cases h19 : i = 19
    · subst h19
      by_cases hk : k = .machineCheck <;> simp [hk]
    simp only [h31, h19, if_false, and_false, or_false]
    by_cases hcleared : i ∈ [13, 16, 17, 18, 20, 21, 22, 23, 26, 27, 29, 30]
    · simp only [hcleared, if_true, decide_true, Bool.not_true, Bool.and_false]
    · simp only [hcleared, if_false, decide_false, Bool.not_false, Bool.and_true]
  · obtain ⟨_, _, hrow⟩ := List.mem_map.mp (show (k, offset) ∈ exceptionKinds.map fun k => (k, k.offset) from hoffset)
    obtain ⟨rfl, rfl⟩ := Prod.mk.inj hrow
    rfl

/-! ## Exceptions at an instruction boundary (60_exceptions.md R511, R518; D24) -/

/-- A waiting machine check comes before everything else: it is taken, or the processor enters the checkstop state. -/
theorem pendingException_machineCheck {s : State} {c : MachineCheckSource} {rest : List MachineCheckSource}
    (h : s.machineChecks = c :: rest) :
    pendingException s =
      some (if bit s.msr 19 then
        takeException .machineCheck s.pc (machineCheckInfo s) ({ s with machineChecks := rest }.drawn 1)
      else { s with checkstop := true }) := by
  simp only [pendingException, h]
  split <;> rfl

theorem pendingException_systemReset {s : State} (hm : s.machineChecks = []) (hr : s.sresetPending = true) :
    pendingException s = some (takeException .systemReset s.pc 0 { s with sresetPending := false }) := by
  simp only [pendingException, hm, hr, if_true]

theorem pendingException_breakpoint {s : State} (hm : s.machineChecks = []) (hr : s.sresetPending = false)
    (hb : s.breakpoint = true) : pendingException s = some (takeException .instructionBreakpoint s.pc 0 s) := by
  simp only [pendingException, hm, hr, hb, Bool.false_eq_true, if_false, if_true]

/-- Where nothing comes before them, the maskable interrupts are taken in their order with MSR[EE] = 1. -/
theorem pendingException_maskable {s : State} (hm : s.machineChecks = []) (hr : s.sresetPending = false)
    (hb : s.breakpoint = false) :
    pendingException s =
      if bit s.msr 16 then
        if s.smiPin then some (takeException .systemManagement s.pc 0 s)
        else if s.intPin then some (takeException .external s.pc 0 s)
        else if s.pmiPending then some (takeException .performanceMonitor s.pc 0
          { s with pmiPending := false, mmcr0 := s.mmcr0 &&& ~~~(bitMask 5) })
        else if s.decPending then some (takeException .decrementer s.pc 0 { s with decPending := false })
        else none
      else none := by
  simp only [pendingException, hm, hr, hb, Bool.false_eq_true, if_false, writeBit]
  cases bit s.msr 16 <;> rfl

/-- The turn of a processor that runs is the processor's step, scheduled or not (70_reset_and_hazards.md R605). -/
theorem step_processorTurn {s : State} (hturn : s.schedule = [] ∨ ∃ rest, s.schedule = .processor :: rest)
    (hc : s.checkstop = false) (hp : s.hresetPin = false) : step s = processorStep s.turn := by
  rcases hturn with hs | ⟨rest, hs⟩
  · rw [step_sole hs, soleStep, if_neg (by simp [hc]), if_neg (by simp [hp]), State.turn, hs]
    rfl
  · have hex : s.executing = true := by simp [State.executing, State.clocked, hc, hp]
    simp only [step, machineStep, hs, hex, if_true, State.turn, List.tail_cons]

/-- Settles O15: the causes are tested in the order of R518, and the processor's turn takes the one that waits. -/
theorem pendingExceptionsByPriority : Obligations.PendingExceptionsByPriority := by
  refine ⟨fun s => ⟨fun c rest hm hme => ?_, fun c rest hm hme => ?_, fun hm =>
    ⟨pendingException_systemReset hm, pendingException_breakpoint hm, fun hr hb => ⟨fun hee => ?_, fun hee => ?_⟩⟩⟩,
    fun s u hturn hc hp hmode hu => ?_⟩
  · rw [pendingException_machineCheck hm, if_pos hme]
    exact ⟨_, rfl, rfl, machineCheckInfo s, rfl⟩
  · rw [pendingException_machineCheck hm, if_neg (by simp [hme])]
  · rw [pendingException_maskable hm hr hb, if_neg (by simp [hee])]
  · rw [pendingException_maskable hm hr hb, if_pos hee]
  · rw [step_processorTurn hturn hc hp]
    exact processorStep_pending hmode hu

end Sys2Proof.Machine
end

section
namespace Sys2Proof.Machine

/-! ## What an instruction of user mode leaves (60_exceptions.md R521 to R524) -/

/-- `t` differs from `s` in user-level state only: the registers of the user programming model, the reservation, memory and
what fetch may still see of it, the bus log and the draws. -/
def UserFrame (s t : State) : Prop :=
  { t with
    gpr := s.gpr, fpr := s.fpr, cr := s.cr, xer := s.xer, lr := s.lr, ctr := s.ctr, pc := s.pc, fpscr := s.fpscr
    reserve := s.reserve, reserveAddr := s.reserveAddr, mem := s.mem, stale := s.stale, busLog := s.busLog
    draws := s.draws } = s

theorem UserFrame.refl (s : State) : UserFrame s s := rfl

/-- Every next state of the outcome took an exception or differs from `s` in user-level state only. -/
def KeepsSupervisor (s : State) (r : Result) : Prop := ∀ t, r = .next t → t.taken = none → UserFrame s t

theorem KeepsSupervisor.next {s t : State} (h : UserFrame s t) : KeepsSupervisor s (.next t) := by
  rintro _ ⟨⟩ _
  exact h

theorem KeepsSupervisor.taken (s t : State) (k : ExceptionKind) (resume info : Word) :
    KeepsSupervisor s (.next (takeException k resume info t)) := by
  rintro _ ⟨⟩ htaken
  rw [State.takeException_taken] at htaken
  cases htaken

theorem KeepsSupervisor.refused (s : State) (why : Refusal) : KeepsSupervisor s (.refused why) := by
  rintro _ ⟨⟩

/-- The state after an access differs in user-level state only, where the access is done; one that stops takes an exception
or is refused. -/
inductive Access.KeepsSupervisor {α : Type} (s : State) : Access α → Prop where
  | done (v : α) {t : State} (h : UserFrame s t) : Access.KeepsSupervisor s (.done v t)
  | stop {r : Result} (h : Sys2Proof.Machine.KeepsSupervisor s r) : Access.KeepsSupervisor s (.stop r)

theorem Access.KeepsSupervisor.andThen {α : Type} {s : State} {a : Access α} (ha : a.KeepsSupervisor s)
    {k : α → State → Result} (hk : ∀ v t, UserFrame s t → Sys2Proof.Machine.KeepsSupervisor s (k v t)) :
    Sys2Proof.Machine.KeepsSupervisor s (a.andThen k) := by
  cases ha with
  | done v ht => exact hk v _ ht
  | stop hr => exact hr

theorem Access.KeepsSupervisor.bind {α β : Type} {s : State} {a : Access α} (ha : a.KeepsSupervisor s)
    {k : α → State → Access β} (hk : ∀ v t, UserFrame s t → (k v t).KeepsSupervisor s) :
    (a.bind k).KeepsSupervisor s := by
  cases ha with
  | done v ht => exact hk v _ ht
  | stop hr => exact .stop hr

section
variable {s t : State}

/-! ### Exceptions -/

theorem raise_keepsSupervisor (k : ExceptionKind) (info : Word) : KeepsSupervisor s (raise k info t) := .taken s t k _ info

theorem raiseDsi_keepsSupervisor (cause ea : Word) : KeepsSupervisor s (raiseDsi cause ea t) := .taken s _ _ _ _

theorem raiseAlignment_keepsSupervisor (insn : Word) (base : Bool) (ea : Word) :
    KeepsSupervisor s (raiseAlignment insn base ea t) := by
  cases base <;> exact .taken s _ _ _ _

theorem floatOnly_keepsSupervisor {go : State → Result} (hgo : KeepsSupervisor s (go t)) :
    KeepsSupervisor s (floatOnly t go) := by
  unfold floatOnly
  split
  · exact hgo
  · exact raise_keepsSupervisor _ _

theorem neverSplit_keepsSupervisor {go : State → Result} (hgo : KeepsSupervisor s (go t)) (insn : Word) (base : Bool)
    (ea : Word) : KeepsSupervisor s (neverSplit insn base ea t go) := by
  unfold neverSplit
  split
  · exact hgo
  · exact raiseAlignment_keepsSupervisor insn base ea

theorem externalControl_keepsSupervisor {go : State → Result} (hgo : KeepsSupervisor s (go t)) (insn : Word) (store : Bool)
    (ea : Word) : KeepsSupervisor s (externalControl insn store ea t go) := by
  refine neverSplit_keepsSupervisor ?_ _ _ _
  split
  · exact hgo
  · exact raiseDsi_keepsSupervisor _ _

theorem insideMap_keepsSupervisor {go : State → Result} (hgo : KeepsSupervisor s (go t)) (ea : Word) :
    KeepsSupervisor s (insideMap ea t go) := by
  unfold insideMap
  split
  · exact hgo
  · exact .refused s _

theorem sprAccess_keepsSupervisor (hu : t.userMode = true) {n : BitVec 10} {go : State → Result}
    (hgo : sprSupervisor n = false → KeepsSupervisor s (go t)) : KeepsSupervisor s (sprAccess n t go) := by
  cases hn : sprSupervisor n
  · rw [sprAccess_allowed (.inr hn)]
    exact hgo hn
  · rw [sprAccess_user hn hu]
    exact .taken s t _ _ _

theorem sprMissing_keepsSupervisor : KeepsSupervisor s (sprMissing t) := by
  unfold sprMissing
  split
  · exact raise_keepsSupervisor _ _
  · exact .refused s _

/-! ### Updates of user-level state -/

section
variable (h : UserFrame s t)
include h

theorem UserFrame.update (base : Option (BitVec 5)) (ea : Word) : UserFrame s (t.update base ea) := by
  cases base <;> exact h

theorem UserFrame.setR (d : BitVec 5) (v : Word) : UserFrame s (t.setR d v) := h

theorem UserFrame.setF (d : BitVec 5) (v : Dword) : UserFrame s (t.setF d v) := h

theorem UserFrame.drawn (k : Nat) : UserFrame s (t.drawn k) := h

theorem UserFrame.withCtr (v : Word) : UserFrame s { t with ctr := v } := h

theorem UserFrame.withFpscr (f : Word) : UserFrame s { t with fpscr := f } := h

theorem UserFrame.recordCr1 (rc : Bool) : UserFrame s (t.recordCr1 rc) := by
  cases rc <;> exact h

theorem UserFrame.writeArith (d : BitVec 5) (res : Word) (ca ov : Option Bool) (rc : Bool) :
    UserFrame s (t.writeArith d res ca ov rc) := by
  cases rc <;> exact h

theorem UserFrame.applyFloat (d : BitVec 5) (o : FpOutcome) (rc : Bool) : UserFrame s (t.applyFloat d o rc) := by
  unfold State.applyFloat
  cases o.value with
  | none => exact (h.withFpscr _).recordCr1 rc
  | some v => exact ((h.setF d v).withFpscr _).recordCr1 rc

theorem UserFrame.link (lk : Bool) : UserFrame s (t.link lk) := by
  cases lk <;> exact h

theorem UserFrame.storeBytes (a : Word) (data : List Byte) : UserFrame s (t.storeBytes a data) := by
  rw [t.storeBytes_eq]
  exact h

theorem UserFrame.storeRamBytes (a : Word) (data : List Byte) : UserFrame s (t.storeRamBytes a data) := by
  rw [t.storeRamBytes_eq]
  exact h

theorem UserFrame.drawnForSingle (v : Dword) : UserFrame s (drawnForSingle t v) := by
  unfold Machine.drawnForSingle
  split <;> exact h

/-! ### Endings -/

theorem UserFrame.advance : KeepsSupervisor s (.next t.advance) := .next h

theorem finishFloat_keepsSupervisor : KeepsSupervisor s (finishFloat t) := by
  rw [finishFloat_eq]
  split
  · exact .taken s t _ _ _
  · exact h.advance

theorem finishFpscrWrite_keepsSupervisor (before : Word) : KeepsSupervisor s (finishFpscrWrite before t) := by
  unfold finishFpscrWrite
  split
  · split
    · exact raise_keepsSupervisor _ _
    · exact .taken s t _ _ _
  · exact h.advance

theorem trapIf_keepsSupervisor (holds : Bool) : KeepsSupervisor s (trapIf t holds) := by
  cases holds
  · exact h.advance
  · exact raise_keepsSupervisor _ _

theorem branchTo_keepsSupervisor (lk taken : Bool) (target : Word) : KeepsSupervisor s (branchTo t lk taken target) := by
  cases taken
  · exact (h.link lk).advance
  · exact .next (h.link lk)

/-! ### Data accesses -/

theorem readSpan_keepsSupervisor (ea : Word) (n : Nat) : (readSpan ea n t).KeepsSupervisor s := by
  cases hr : readSpan ea n t with
  | done bytes u =>
    obtain ⟨_, ⟨_, _, rfl⟩ | ⟨_, _, rfl⟩⟩ := readSpan_done hr
    · exact .done _ h
    · exact .done _ h
  | stop r =>
    obtain ⟨_, rfl⟩ | ⟨_, rfl⟩ := readSpan_stop hr
    · exact .stop (raiseDsi_keepsSupervisor _ _)
    · exact .stop (.refused s _)

theorem writeSpan_keepsSupervisor (ea : Word) (data : List Byte) : (writeSpan ea data t).KeepsSupervisor s := by
  cases hr : writeSpan ea data t with
  | done v u =>
    obtain ⟨_, ⟨_, rfl⟩ | ⟨_, rfl⟩⟩ := writeSpan_done hr
    · exact .done _ (h.storeBytes ea data)
    · exact .done _ (h.storeRamBytes ea data)
  | stop r =>
    obtain ⟨_, rfl⟩ | ⟨_, rfl⟩ := writeSpan_stop hr
    · exact .stop (raiseDsi_keepsSupervisor _ _)
    · exact .stop (.refused s _)

omit h in
theorem unwatched_keepsSupervisor {α : Type} {go : Access α} (hgo : go.KeepsSupervisor s) (store : Bool) (ea : Word)
    (n : Nat) : (unwatched store ea n t go).KeepsSupervisor s := by
  unfold unwatched
  split
  · exact .stop (raiseDsi_keepsSupervisor _ _)
  · exact hgo

theorem readSplit_keepsSupervisor (ea : Word) (n : Nat) : (readSplit ea n t).KeepsSupervisor s := by
  induction n generalizing ea t with
  | zero => exact .done _ h
  | succ n ih =>
    rw [readSplit_succ]
    exact (readSpan_keepsSupervisor h ea 1).bind fun b u hu => (ih hu (ea + 1)).bind fun bs v hv => .done _ hv

theorem writeSplit_keepsSupervisor (ea : Word) (data : List Byte) : (writeSplit ea data t).KeepsSupervisor s := by
  induction data generalizing ea t with
  | nil => exact .done _ h
  | cons b rest ih =>
    rw [writeSplit_cons]
    exact (writeSpan_keepsSupervisor h ea [b]).bind fun _ u hu => ih hu (ea + 1)

theorem loadData_keepsSupervisor (insn : Word) (base : Bool) (ea : Word) (n : Nat) :
    (loadData insn base ea n t).KeepsSupervisor s := by
  unfold loadData
  split
  · exact readSpan_keepsSupervisor h ea n
  · split
    · exact .stop (raiseAlignment_keepsSupervisor insn base ea)
    · exact unwatched_keepsSupervisor (readSplit_keepsSupervisor h ea n) _ _ _

theorem storeData_keepsSupervisor (insn : Word) (base : Bool) (ea : Word) (data : List Byte) :
    (storeData insn base ea data t).KeepsSupervisor s := by
  unfold storeData
  split
  · exact writeSpan_keepsSupervisor h ea data
  · split
    · exact .stop (raiseAlignment_keepsSupervisor insn base ea)
    · exact unwatched_keepsSupervisor (writeSplit_keepsSupervisor h ea data) _ _ _

theorem loadRegisters_keepsSupervisor (count : Nat) (d : BitVec 5) (ea : Word) :
    (loadRegisters count d ea t).KeepsSupervisor s := by
  induction count generalizing d ea t with
  | zero => exact .done _ h
  | succ k ih =>
    rw [loadRegisters_succ]
    exact (readSpan_keepsSupervisor h ea 4).bind fun bytes u hu => ih (hu.setR _ _) _ _

theorem storeRegisters_keepsSupervisor (count : Nat) (src : BitVec 5) (ea : Word) :
    (storeRegisters count src ea t).KeepsSupervisor s := by
  induction count generalizing src ea t with
  | zero => exact .done _ h
  | succ k ih =>
    rw [storeRegisters_succ]
    exact (writeSpan_keepsSupervisor h ea _).bind fun _ u hu => ih hu _ _

theorem loadString_keepsSupervisor (d : BitVec 5) (left k : Nat) (ea : Word) :
    (loadString d left k ea t).KeepsSupervisor s := by
  induction left generalizing k ea t with
  | zero => exact .done _ h
  | succ left ih =>
    rw [loadString_succ]
    exact (readSpan_keepsSupervisor h ea 1).bind fun bytes u hu => ih (hu.setR _ _) _ _

theorem storeString_keepsSupervisor (src : BitVec 5) (left k : Nat) (ea : Word) :
    (storeString src left k ea t).KeepsSupervisor s := by
  induction left generalizing k ea t with
  | zero => exact .done _ h
  | succ left ih =>
    rw [storeString_succ]
    exact (writeSpan_keepsSupervisor h ea _).bind fun _ u hu => ih hu _ _

omit h in
theorem finishAccess_keepsSupervisor {a : Access Unit} (ha : a.KeepsSupervisor s) : KeepsSupervisor s (finishAccess a) := by
  rw [finishAccess_eq]
  exact ha.andThen fun _ u hu => hu.advance

/-! ### Loads and stores -/

theorem loadInto_keepsSupervisor (insn : Word) (update : Option (BitVec 5)) (d : BitVec 5) (ea : Word) (n : Nat)
    (value : List Byte → Word) : KeepsSupervisor s (loadInto insn update d ea n value t) := by
  rw [loadInto_eq]
  exact (loadData_keepsSupervisor h _ _ _ _).andThen fun bytes u hu =>
    ((hu.setR _ _).update _ _).advance

theorem storeFrom_keepsSupervisor (insn : Word) (update : Option (BitVec 5)) (ea : Word) (data : List Byte) :
    KeepsSupervisor s (storeFrom insn update ea data t) := by
  rw [storeFrom_eq]
  exact (storeData_keepsSupervisor h _ _ _ _).andThen fun _ u hu => (hu.update _ _).advance

theorem floatLoad_keepsSupervisor (insn : Word) (update : Option (BitVec 5)) (d : BitVec 5) (ea : Word) (n : Nat)
    (value : List Byte → Dword) : KeepsSupervisor s (floatLoad insn update d ea n value t) := by
  rw [floatLoad_eq]
  exact floatOnly_keepsSupervisor ((loadData_keepsSupervisor h _ _ _ _).andThen fun bytes u hu =>
    ((hu.setF _ _).update _ _).advance)

theorem floatStore_keepsSupervisor (insn : Word) (update : Option (BitVec 5)) (ea : Word) (data : List Byte) :
    KeepsSupervisor s (floatStore insn update ea data t) := by
  rw [floatStore_eq]
  exact floatOnly_keepsSupervisor
    ((storeData_keepsSupervisor h _ _ _ _).andThen fun _ u hu => (hu.update _ _).advance)

theorem storeSingle_keepsSupervisor (insn : Word) (update : Option (BitVec 5)) (ea : Word) (v : Dword) :
    KeepsSupervisor s (storeSingle insn update ea v t) :=
  floatOnly_keepsSupervisor (floatStore_keepsSupervisor (h.drawnForSingle v) _ _ _ _)

theorem storeConditional_keepsSupervisor (src : BitVec 5) (ea : Word) :
    KeepsSupervisor s (storeConditional src ea t) := by
  rw [storeConditional_eq]
  exact (writeSpan_keepsSupervisor h _ _).andThen fun _ u hu => .next hu

end

/-! ### Instructions -/

theorem arith_keepsSupervisor (d : BitVec 5) (res : Word) (ca ov : Option Bool) (rc : Bool) :
    KeepsSupervisor s (arith s d res ca ov rc) :=
  ((UserFrame.refl s).writeArith d res ca ov rc).advance

theorem undefinedQuotient_keepsSupervisor (d : BitVec 5) (oe rc : Bool) :
    KeepsSupervisor s (undefinedQuotient s d oe rc) := by
  have written : UserFrame s ((s.drawn 2).writeArith d (s.fresh 32) none (if oe then some true else none) false) :=
    ((UserFrame.refl s).drawn 2).writeArith _ _ _ _ _
  unfold undefinedQuotient
  refine UserFrame.advance ?_
  split
  · exact written
  · exact written

theorem execDivwx_keepsSupervisor (d a b : BitVec 5) (oe rc : Bool) : KeepsSupervisor s (execDivwx d a b oe rc s) := by
  unfold execDivwx
  split
  · exact undefinedQuotient_keepsSupervisor d oe rc
  · exact arith_keepsSupervisor _ _ _ _ _

theorem execDivwux_keepsSupervisor (d a b : BitVec 5) (oe rc : Bool) : KeepsSupervisor s (execDivwux d a b oe rc s) := by
  unfold execDivwux
  split
  · exact undefinedQuotient_keepsSupervisor d oe rc
  · exact arith_keepsSupervisor _ _ _ _ _

theorem floatArith_keepsSupervisor (single : Bool) (d : BitVec 5) (operands : List Dword) (rc : Bool)
    (compute : FpControl → FpOutcome) : KeepsSupervisor s (floatArith s single d operands rc compute) :=
  floatOnly_keepsSupervisor (finishFloat_keepsSupervisor (((UserFrame.refl s).applyFloat _ _ _).drawn _))

theorem floatConvert_keepsSupervisor (d b : BitVec 5) (rn : Word → BitVec 2) (rc : Bool) :
    KeepsSupervisor s (floatConvert s d b rn rc) :=
  floatOnly_keepsSupervisor (finishFloat_keepsSupervisor (((UserFrame.refl s).applyFloat _ _ _).drawn _))

theorem floatCompare_keepsSupervisor (crfD : BitVec 3) (a b : BitVec 5) (raised : Word → Word) :
    KeepsSupervisor s (floatCompare s crfD a b raised) :=
  floatOnly_keepsSupervisor (finishFloat_keepsSupervisor (.refl s))

theorem floatMove_keepsSupervisor (d : BitVec 5) (v : Dword) (rc : Bool) : KeepsSupervisor s (floatMove s d v rc) :=
  floatOnly_keepsSupervisor (((UserFrame.refl s).setF d v).recordCr1 rc).advance

theorem execLwarx_keepsSupervisor (d a b : BitVec 5) : KeepsSupervisor s (execLwarx d a b s) := by
  rw [execLwarx_eq]
  refine neverSplit_keepsSupervisor ((readSpan_keepsSupervisor (.refl s) _ _).andThen fun bytes t ht => ?_) _ _ _
  split
  · exact .next ht
  · exact .refused s _

theorem execStwcxRc_keepsSupervisor (src a b : BitVec 5) : KeepsSupervisor s (execStwcxRc src a b s) := by
  unfold execStwcxRc
  refine neverSplit_keepsSupervisor ?_ _ _ _
  split
  · exact .next (.refl s)
  · split
    · exact storeConditional_keepsSupervisor (.refl s) _ _
    · split
      · exact storeConditional_keepsSupervisor ((UserFrame.refl s).drawn 1) _ _
      · exact .next (.refl s)

theorem execDcbz_keepsSupervisor (a b : BitVec 5) : KeepsSupervisor s (execDcbz a b s) := by
  unfold execDcbz
  dsimp only
  split
  · exact raiseAlignment_keepsSupervisor _ _ _
  · split
    · exact raiseDsi_keepsSupervisor _ _
    · split
      · exact .refused s _
      · exact ((UserFrame.refl s).storeBytes _ _).advance

theorem execLswx_keepsSupervisor (d a b : BitVec 5) : KeepsSupervisor s (execLswx d a b s) := by
  unfold execLswx
  dsimp only
  split
  · exact .refused s _
  · split
    · exact .next (.refl s)
    · exact finishAccess_keepsSupervisor (loadString_keepsSupervisor (.refl s) _ _ _ _)

/-! ### Special-purpose registers -/

/-- The numbers of user-level registers name XER, LR and CTR (10_state.md R47, R48). -/
theorem sprOf_user {n : BitVec 10} (hn : sprSupervisor n = false) {r : Spr} (hr : sprOf n = some r) :
    r = .xer ∨ r = .lr ∨ r = .ctr := by
  have level : n.toNat / 16 % 2 = 0 := by
    rw [sprSupervisor, BitVec.getLsbD, Nat.testBit_eq_decide_div_mod_eq, decide_eq_false_iff_not] at hn
    omega
  rw [sprNumber_of_sprOf hr] at level
  cases r with
  | xer => exact .inl rfl
  | lr => exact .inr (.inl rfl)
  | ctr => exact .inr (.inr rfl)
  | sprg k =>
    have := k.isLt
    simp only [sprNumber] at level
    omega
  | bat k =>
    have := k.isLt
    simp only [sprNumber] at level
    omega
  | _ => simp [sprNumber] at level

theorem execMfspr_keepsSupervisor (hu : s.userMode = true) (d : BitVec 5) (n : BitVec 10) :
    KeepsSupervisor s (execMfspr d n s) := by
  refine sprAccess_keepsSupervisor hu fun _ => ?_
  split
  · exact .next (.refl s)
  · exact sprMissing_keepsSupervisor

theorem execMtspr_keepsSupervisor (hu : s.userMode = true) (src : BitVec 5) (n : BitVec 10) :
    KeepsSupervisor s (execMtspr src n s) := by
  refine sprAccess_keepsSupervisor hu fun hn => ?_
  cases hr : sprOf n with
  | none => exact sprMissing_keepsSupervisor
  | some r =>
    obtain rfl | rfl | rfl := sprOf_user hn hr
    · exact .next (.refl s)
    · exact .next (.refl s)
    · exact .next (.refl s)

theorem execMftb_keepsSupervisor (d : BitVec 5) (tbr : BitVec 10) : KeepsSupervisor s (execMftb d tbr s) := by
  unfold execMftb
  split
  · exact .next (.refl s)
  · split
    · exact .next (.refl s)
    · exact raise_keepsSupervisor _ _

/-! ### Every instruction -/

/-- The supervisor-level instructions trap in user mode; each of the others ends in one of the shared operations above. -/
theorem exec_keepsSupervisor (hu : s.userMode = true) (i : Instr) : KeepsSupervisor s (exec i s) := by
  cases i with
  | rfi | mfmsr | mtmsr | mfsr | mfsrin | mtsr | mtsrin | tlbie | tlbsync | tlbsync_b31 | dcbi =>
    rw [exec_privileged rfl hu]
    exact .taken s s _ _ _
  | mfspr => exact execMfspr_keepsSupervisor hu _ _
  | mtspr => exact execMtspr_keepsSupervisor hu _ _
  | addi | addis | addic | addic_rc | subfic | mulli | addx | addcx | addex | addmex | addzex | subfx | subfcx | subfex
  | subfmex | subfzex | negx | mullwx | mulhwx | mulhwux => exact arith_keepsSupervisor _ _ _ _ _
  | divwx => exact execDivwx_keepsSupervisor _ _ _ _ _
  | divwux => exact execDivwux_keepsSupervisor _ _ _ _ _
  | andi_rc | andis_rc | ori | oris | xori | xoris | andx | andcx | orx | orcx | xorx | nandx | norx | eqvx | extsbx
  | extshx | cntlzwx | rlwinmx | rlwimix | rlwnmx | slwx | srwx | srawx | srawix =>
    exact ((UserFrame.refl s).writeArith _ _ _ _ _).advance
  | cmpi | cmp | cmpli | cmpl | crand | crandc | creqv | crnand | crnor | cror | crorc | crxor | mcrf | mcrxr | mfcr
  | mtcrf | sync | eieio | isync | dcbt | dcbtst => exact .next (.refl s)
  | faddx | faddsx | fsubx | fsubsx | fdivx | fdivsx | fmulx | fmulsx | fresx | frsqrtex | fmaddx | fmaddsx | fmsubx
  | fmsubsx | fnmaddx | fnmaddsx | fnmsubx | fnmsubsx | frspx => exact floatArith_keepsSupervisor _ _ _ _ _
  | fctiwx => exact floatConvert_keepsSupervisor _ _ _ _
  | fctiwzx d b rc => exact floatConvert_keepsSupervisor d b (fun _ => 1) rc
  | fcmpu crfD a b => exact floatCompare_keepsSupervisor crfD a b fun _ => unorderedCause (s.f a) (s.f b)
  | fcmpo => exact floatCompare_keepsSupervisor _ _ _ _
  | fselx | fmrx | fnegx | fabsx | fnabsx => exact floatMove_keepsSupervisor _ _ _
  | mffsx =>
    apply floatOnly_keepsSupervisor
    exact ((((UserFrame.refl s).setF _ _).recordCr1 _).drawn 1).advance
  | mcrfs =>
    apply floatOnly_keepsSupervisor
    exact finishFloat_keepsSupervisor (.refl s)
  | mtfsfix | mtfsfx =>
    apply floatOnly_keepsSupervisor
    refine finishFpscrWrite_keepsSupervisor ?_ _
    exact ((UserFrame.refl s).withFpscr _).recordCr1 _
  | mtfsb0x | mtfsb1x =>
    apply floatOnly_keepsSupervisor
    refine finishFloat_keepsSupervisor ?_
    exact ((UserFrame.refl s).withFpscr _).recordCr1 _
  | lbz | lbzu | lbzx | lbzux | lhz | lhzu | lhzx | lhzux | lha | lhau | lhax | lhaux | lwz | lwzu | lwzx | lwzux | lhbrx
  | lwbrx => exact loadInto_keepsSupervisor (.refl s) _ _ _ _ _ _
  | stb | stbu | stbx | stbux | sth | sthu | sthx | sthux | stw | stwu | stwx | stwux | sthbrx | stwbrx =>
    exact storeFrom_keepsSupervisor (.refl s) _ _ _ _
  | lfs | lfsu | lfsx | lfsux | lfd | lfdu | lfdx | lfdux => exact floatLoad_keepsSupervisor (.refl s) _ _ _ _ _ _
  | stfs | stfsu | stfsx | stfsux => exact storeSingle_keepsSupervisor (.refl s) _ _ _ _
  | stfd | stfdu | stfdx | stfdux | stfiwx => exact floatStore_keepsSupervisor (.refl s) _ _ _ _
  | lmw =>
    apply neverSplit_keepsSupervisor
    exact finishAccess_keepsSupervisor (loadRegisters_keepsSupervisor (.refl s) _ _ _)
  | stmw =>
    apply neverSplit_keepsSupervisor
    exact finishAccess_keepsSupervisor (storeRegisters_keepsSupervisor (.refl s) _ _ _)
  | lswi => exact finishAccess_keepsSupervisor (loadString_keepsSupervisor (.refl s) _ _ _ _)
  | lswx => exact execLswx_keepsSupervisor _ _ _
  | stswi | stswx => exact finishAccess_keepsSupervisor (storeString_keepsSupervisor (.refl s) _ _ _ _)
  | lwarx => exact execLwarx_keepsSupervisor _ _ _
  | stwcx_rc => exact execStwcxRc_keepsSupervisor _ _ _
  | dcbz => exact execDcbz_keepsSupervisor _ _
  | dcbf | dcbst | icbi =>
    apply insideMap_keepsSupervisor
    exact .next (.refl s)
  | bx | bcctrx => exact branchTo_keepsSupervisor (.refl s) _ _ _
  | bcx | bclrx => exact branchTo_keepsSupervisor ((UserFrame.refl s).withCtr _) _ _ _
  | sc => exact .taken s _ _ _ _
  | tw | twi => exact trapIf_keepsSupervisor (.refl s) _
  | mftb => exact execMftb_keepsSupervisor _ _
  | eciwx | ecowx =>
    apply externalControl_keepsSupervisor
    exact .next (.refl s)

end

/-- Settles O13, by the shared operation that each instruction ends in: it takes an exception or writes user-level state. -/
theorem userModeKeepsSupervisorState : Obligations.UserModeKeepsSupervisorState :=
  fun i _ t hu _ ht htaken => exec_keepsSupervisor hu i t ht htaken

end Sys2Proof.Machine
end

section
namespace Sys2Proof

/-! ## Words of the encoding tables (30_encoding.md R137 to R156)

A word decodes by the instruction whose encoding it is, or is refused by its row. -/

/-- The word of a well-formed instruction decodes to it. -/
theorem decodeWord_of_encodeNat_eq {i : Instr} {w : Nat} (hw : encodeNat i = w) (hwf : i.wellFormed = true) :
    decodeWord w = .ok i :=
  hw ▸ (decodeInvertsEncode i hwf).2

/-- The word of an invalid form of R151 is refused. -/
theorem decodeWord_of_encodeNat_eq_invalidForm {i : Instr} {w : Nat} (hw : encodeNat i = w)
    (hwf : i.wellFormed = false) : decodeWord w = .error .invalidForm := by
  rw [← hw, decodeWord, decodeRow_encodeNat]
  simp only [hwf, Bool.false_eq_true, if_false]

/-- A word that its row refuses is refused for the row's reason. -/
theorem decodeWord_of_rowError {e : DecodeError} {w : Nat} (h : decodeRow w = .error e) : decodeWord w = .error e := by
  rw [decodeWord, h]

/-- Primary opcode 58 has no row (R137). -/
theorem decodeRow_opcode58 {w : Nat} (h : w / 2 ^ 26 = 58) : decodeRow w = .error .illegal := by
  simp only [decodeRow, h]

/-- A word of `mfcr` with a bit of its reserved field 11:20 set is refused (R152, R155 b). -/
theorem decodeRow_mfcr_reserved {w : Nat} (hop : w / 2 ^ 26 = 31) (hxo : w / 2 % 1024 = 19)
    (hbits : holdsAt w 20 10 0 = false) : decodeRow w = .error .reservedBits := by
  rw [decodeRow_integerGroup hop, decodeIntegerGroup, hxo]
  simp only [hbits, Bool.false_and, guarded, Bool.false_eq_true, if_false]

/-- Settles O2: seven words are what the encoder writes for their instructions; of the refused ones, the first has no
row, the second is `mfcr` with reserved bits set, and the third is `lwzu r3,4(r3)`, an invalid form. -/
theorem tableWordsDecode : Obligations.TableWordsDecode := by
  refine ⟨?addx, ?lwz, ?bclrx, ?mfspr, ?fmaddx, ?stwcx, ?tlbsync, ?noRow, ?reserved, ?invalidForm⟩
  case noRow => exact decodeWord_of_rowError (decodeRow_opcode58 (by decide))
  case reserved => exact decodeWord_of_rowError (decodeRow_mfcr_reserved (by decide) (by decide) (by decide))
  case invalidForm => exact decodeWord_of_encodeNat_eq_invalidForm (i := .lwzu 3 3 4) (by decide) (by decide)
  all_goals exact decodeWord_of_encodeNat_eq (by decide) (by decide)

end Sys2Proof
end
